-- ==== Sys2Proof/Word.lean ====
section
/-! DEFINITION. The byte the station links carry, and one value for each head and for each link. -/

namespace Sys2Proof

/-- One byte on a station link (R174: "8-bit bytes"). -/
abbrev Byte := BitVec 8

/-- The three station links: machine (link 0), prepress (link 1), gauge (link 2) (00_scope.md, Names). -/
inductive LinkId where
  | machine
  | prepress
  | gauge
deriving DecidableEq, Repr

/-- The four heads H0 to H3 (00_scope.md, Names). -/
inductive HeadId where
  | h0
  | h1
  | h2
  | h3
deriving DecidableEq, Repr

/-- One value for each of H0 to H3. -/
structure PerHead (α : Type) where
  h0 : α
  h1 : α
  h2 : α
  h3 : α
deriving DecidableEq, Repr

/-- One value for each of the three links. -/
structure PerLink (α : Type) where
  machine : α
  prepress : α
  gauge : α
deriving DecidableEq, Repr

/-- The value of head `h`. -/
def PerHead.get {α : Type} (p : PerHead α) : HeadId → α
  | .h0 => p.h0
  | .h1 => p.h1
  | .h2 => p.h2
  | .h3 => p.h3

/-- The heads' values computed anew, each from its head and its old value. -/
def PerHead.mapH {α β : Type} (f : HeadId → α → β) (p : PerHead α) : PerHead β :=
  ⟨f .h0 p.h0, f .h1 p.h1, f .h2 p.h2, f .h3 p.h3⟩

/-- The same value for every head. -/
def PerHead.pure {α : Type} (a : α) : PerHead α := ⟨a, a, a, a⟩

/-- Head `h`'s value replaced by `a`. -/
def PerHead.set {α : Type} (p : PerHead α) (h : HeadId) (a : α) : PerHead α :=
  p.mapH fun k old => if k = h then a else old

/-- The value of link `l`. -/
def PerLink.get {α : Type} (p : PerLink α) : LinkId → α
  | .machine => p.machine
  | .prepress => p.prepress
  | .gauge => p.gauge

/-- The links' values computed anew, each from its link and its old value. -/
def PerLink.mapL {α β : Type} (f : LinkId → α → β) (p : PerLink α) : PerLink β :=
  ⟨f .machine p.machine, f .prepress p.prepress, f .gauge p.gauge⟩

/-- The same value for every link. -/
def PerLink.pure {α : Type} (a : α) : PerLink α := ⟨a, a, a⟩

/-- Link `l`'s value replaced by `a`. -/
def PerLink.set {α : Type} (p : PerLink α) (l : LinkId) (a : α) : PerLink α :=
  p.mapL fun k old => if k = l then a else old

/-- The heads in the order H0 to H3. -/
def HeadId.all : List HeadId := [.h0, .h1, .h2, .h3]

/-- The head's number, 0 to 3. -/
def HeadId.num : HeadId → Nat
  | .h0 => 0
  | .h1 => 1
  | .h2 => 2
  | .h3 => 3

/-- The head a number names: none outside 0 to 3. -/
def HeadId.ofNum : Nat → Option HeadId
  | 0 => some .h0
  | 1 => some .h1
  | 2 => some .h2
  | 3 => some .h3
  | _ => none

/-- The link's number, 0 to 2. -/
def LinkId.num : LinkId → Nat
  | .machine => 0
  | .prepress => 1
  | .gauge => 2

/-- The link a number names: none outside 0 to 2. -/
def LinkId.ofNum : Nat → Option LinkId
  | 0 => some .machine
  | 1 => some .prepress
  | 2 => some .gauge
  | _ => none

end Sys2Proof
end

