-- ==== Sys2Proof/Config.lean ====
section
/-! DEFINITION. The fixed figures of the part, each from its rule of spec/. The spec leaves no stored value open, so
there is no free value here. -/

namespace Sys2Proof.Config

/-- P, the steps of one revolution, and the units of one cell in the grid accumulator (R2, R9). -/
def stepsPerRev : Nat := 1048576

/-- The trim window on each side of position 0 (R3). -/
def trimWindow : Nat := 8

/-- One sixteenth of a cell in accumulator units (R8). -/
def presetUnit : Nat := 65536

/-- The longest revolution period that is measured, in µs (R14, R15). -/
def maxPeriod : Nat := 60000000

/-- Where 32-bit counts saturate (R27, R29, R87). -/
def maxCount : Nat := 4294967295

/-- The cut cells per depth unit of wear at wear rate 1 (R23). -/
def wearUnit : Nat := 16777216

/-- The largest drive code (R25). -/
def maxDrive : Nat := 4095

/-- The largest depth a knot may hold (R40). -/
def maxDepth : Nat := 600

/-- The far end of the axial range (R79). -/
def maxAxial : Nat := 40000000

/-- Where the stall counter stays, in µs (R151). -/
def maxStall : Nat := 2000000

/-- The stall limit after master reset, in ms (R162). -/
def resetStallLimit : Nat := 200

/-- The filter time of the two reset lines, in µs (R158, R160). -/
def lineFilter : Nat := 2000

/-- The largest body length of a frame (R176). -/
def maxBody : Nat := 1100

/-- The notes a relay queue holds (R181). -/
def relayDepth : Nat := 4

/-- The index event at which an unanswered carriage request times out (R134). -/
def carriageLateLimit : Nat := 3

/-- The settle count at which an unsettled band is held (R131). -/
def settleLimit : Nat := 8

/-- The speed-deviation count at which a band is held (R136). -/
def speedDevLimit : Nat := 2

end Sys2Proof.Config
end

