-- ==== Sys2Proof/Syntax.lean ====
section
/-! DEFINITION. The commands of the part: one constructor for each row of spec/opcode_table.json. A request carries
the link it arrives on and the fields of Table 10-9, each as wide as the link carries it. -/

namespace Sys2Proof

/-- The direction flag as read at a step (R1). -/
inductive Direction where
  | forward
  | reverse
deriving DecidableEq, Repr

/-- Fields 1 onward of a WRITE_DESCRIPTOR body (Table 10-5). The body says by `patchCount` how many entries of
`patches` belong to it (R80). -/
structure DescriptorBody where
  kind : Byte
  job : BitVec 32
  separation : Byte
  headSet : Byte
  x0 : BitVec 32
  pitch : BitVec 16
  nr : BitVec 16
  nc : BitVec 16
  cut : BitVec 16
  stagger : Byte
  curves : PerHead Byte
  policy : Byte
  texp : BitVec 16
  speedTol : Byte
  posTol : BitVec 16
  starve : Byte
  nextSlot : Byte
  patchCount : Byte
  patches : List (Byte × BitVec 16)
deriving DecidableEq, Repr

/-- Fields 1 to 8 of a WRITE_HEAD_PARAMS body (Table 10-9); `bias` is in 16-bit two's complement. -/
structure ParamsBody where
  fitted : Byte
  gain : BitVec 16
  bias : BitVec 16
  dmin : Byte
  wearRate : Byte
  wearCap : Byte
  lowerMs : BitVec 16
  liftMs : BitVec 16
deriving DecidableEq, Repr

/-- The commands, one for each row of the table. -/
inductive Instr where
  /-- STEP_EVENT (R1): a step with the direction flag's value at it, and the µs of the time base at which it comes. -/
  | stepEvent (dir : Direction) (atTime : Nat)
  /-- INDEX_EVENT (R3): an index event, and the µs of the time base at which it comes (R14). -/
  | indexEvent (atTime : Nat)
  /-- INDEX_TIMING_EXPIRY (R15). -/
  | indexTimingExpiry
  /-- CARRIAGE_ARRIVAL (R133): an arrival with the actual position it carries. -/
  | carriageArrival (pos : Nat)
  /-- LANDED_SENSE_CHANGE (R65): the landed sense of `h` comes on or goes off. -/
  | landedSenseChange (h : HeadId) (on : Bool)
  /-- AMP_FAULT_CHANGE (R67): the amplifier fault input of `h` comes on or goes off. -/
  | ampFaultChange (h : HeadId) (on : Bool)
  /-- LOWER_TIMEOUT_EXPIRY (R62). -/
  | lowerTimeoutExpiry (h : HeadId)
  /-- LIFT_TIMEOUT_EXPIRY (R64). -/
  | liftTimeoutExpiry (h : HeadId)
  /-- STALL_WARN (R152). -/
  | stallWarn
  /-- MOTION_STALL (R153). -/
  | motionStall
  /-- CUT_ABORT_LINE_CHANGE (R158): the line becomes asserted or released. -/
  | cutAbortLineChange (asserted : Bool)
  /-- CUT_ABORT_QUALIFIED (R159). -/
  | cutAbortQualified
  /-- MASTER_RESET_LINE_CHANGE (R160): the line becomes asserted or released. -/
  | masterResetLineChange (asserted : Bool)
  /-- MASTER_RESET_QUALIFIED (R160). -/
  | masterResetQualified
  /-- POWER_ON (R160). -/
  | powerOn
  /-- LINK_SIGNAL_LOSS (R175). -/
  | linkSignalLoss (l : LinkId)
  /-- LINK_UP (R175). -/
  | linkUp (l : LinkId)
  /-- FRAME_RECEIVED (R177): a frame's last check byte has come; the length field was `body.length`. -/
  | frameReceived (l : LinkId) (kind : Byte) (body : List Byte) (check : BitVec 16)
  /-- FRAME_SENT (R180): the transmitter finishes its frame. -/
  | frameSent (l : LinkId)
  /-- MOUNT_CYLINDER (R125). -/
  | mountCylinder (l : LinkId) (form : Byte) (job : BitVec 32) (separation : Byte)
  /-- ARM_BAND (R126). -/
  | armBand (l : LinkId) (slot restart : Byte)
  /-- DISARM (R127). -/
  | disarm (l : LinkId)
  /-- START_BAND (R128). -/
  | startBand (l : LinkId)
  /-- PAUSE_BAND (R139). -/
  | pauseBand (l : LinkId)
  /-- RESUME_BAND (R141). -/
  | resumeBand (l : LinkId)
  /-- STOP_AT_SEAM (R140). -/
  | stopAtSeam (l : LinkId)
  /-- STOP_AT_ONCE (R140). -/
  | stopAtOnce (l : LinkId)
  /-- ACK_END (R129). -/
  | ackEnd (l : LinkId)
  /-- SET_STALL_LIMIT (R154). -/
  | setStallLimit (l : LinkId) (ms : BitVec 16)
  /-- CLEAR_HEAD_FAULT (R70). -/
  | clearHeadFault (l : LinkId) (head : Byte)
  /-- CLAIM_CUSTODY (R165). -/
  | claimCustody (l : LinkId)
  /-- RELEASE_CUSTODY (R166). -/
  | releaseCustody (l : LinkId)
  /-- PASS_CUSTODY (R167). -/
  | passCustody (l : LinkId) (target : Byte)
  /-- SEIZE_CUSTODY (R168). -/
  | seizeCustody (l : LinkId)
  /-- WRITE_DESCRIPTOR (R84). -/
  | writeDescriptor (l : LinkId) (slot : Byte) (d : DescriptorBody)
  /-- CLEAR_DESCRIPTOR (R85). -/
  | clearDescriptor (l : LinkId) (slot : Byte)
  /-- WRITE_CURVE (R46). -/
  | writeCurve (l : LinkId) (curve : Byte) (knots : Vector (BitVec 16) 17)
  /-- WRITE_HEAD_PARAMS (R49). -/
  | writeHeadParams (l : LinkId) (head : Byte) (p : ParamsBody)
  /-- SET_STYLUS_COUNT (R71). -/
  | setStylusCount (l : LinkId) (head : Byte) (count : BitVec 32)
  /-- READ_DESCRIPTOR (R97). -/
  | readDescriptor (l : LinkId) (slot : Byte)
  /-- READ_BAND_STATUS (R98). -/
  | readBandStatus (l : LinkId) (slot : Byte)
  /-- READ_CURVE (R55). -/
  | readCurve (l : LinkId) (curve : Byte)
  /-- READ_HEAD (R56). -/
  | readHead (l : LinkId) (head : Byte)
  /-- READ_ENGINE (R183). -/
  | readEngine (l : LinkId)
  /-- READ_EVENTS (R179). -/
  | readEvents (l : LinkId)
  /-- SET_NOTICE_MASK (R180). -/
  | setNoticeMask (l : LinkId) (mask : BitVec 16)
  /-- RELAY_NOTE (R181). -/
  | relayNote (l : LinkId) (target : Byte) (bytes : List Byte)
  /-- FETCH_RELAY (R182). -/
  | fetchRelay (l : LinkId)
  /-- RING_SEGMENT (R105). -/
  | ringSegment (l : LinkId) (head : Byte) (ring offset : BitVec 16) (tones : List Byte)
  /-- RING_CLOSE (R109). -/
  | ringClose (l : LinkId) (head : Byte) (ring check : BitVec 16) (stopMark : Byte)
  /-- DISCARD_RINGS (R115). -/
  | discardRings (l : LinkId) (head : Byte)
  /-- BODY_LENGTH_IMPOSSIBLE (R176). -/
  | bodyLengthImpossible (l : LinkId)
deriving DecidableEq, Repr

end Sys2Proof
end

