-- ==== Sys2Proof/Machine/State.lean ====
section
/-! DEFINITION. Everything the spec gives the part to hold, block by block (00_scope.md, Table 1), as plain data, and
its values at the end of master reset. -/

namespace Sys2Proof.Machine

/-! ### Cell grid (Table 1-1) -/

/-- Whether an index has been taken since master reset (R3). -/
inductive Reference where
  | unreferenced
  | referenced
deriving DecidableEq, Repr

/-- The three states of the grid (R7). -/
inductive GridState where
  | stopped
  | awaitingIndex
  | running
deriving DecidableEq, Repr

/-- The class of an index event (R3). -/
inductive IndexClass where
  | reference
  | trim
  | slip
deriving DecidableEq, Repr

/-- The cell grid (Table 1-1). `lastPeriod` is none for unknown; `indexTime` is the time of the last index while the
index timing is valid. -/
structure Grid where
  position : Nat
  reference : Reference
  state : GridState
  acc : Nat
  boundaries : Nat
  lastPeriod : Option Nat
  indexTime : Option Nat
deriving DecidableEq, Repr

/-! ### Cell computer (Table 2-2) -/

/-- The outcome of a cell's computation (Table 2-3). -/
inductive CellOutcome where
  | noCell
  | dropped
  | cut
  | clipHigh
  | clipLow
deriving DecidableEq, Repr

/-- A prepared cell: its index, drive code and outcome (R31). -/
structure PreparedCell where
  index : Nat
  code : Nat
  outcome : CellOutcome
deriving DecidableEq, Repr

/-- The cell computer's state for one head (Table 2-2); a prepared cell that is none is EMPTY. -/
structure CellUnit where
  wear : Nat
  prepared : Option PreparedCell
deriving DecidableEq, Repr

/-! ### Calibration store (Table 3-1) -/

/-- The 17 knots K0 to K16 of a curve (R40). -/
abbrev Curve := Vector Nat 17

/-- One curve's copies: the active copy is none while UNSET (R40). -/
structure CurveCopies where
  active : Option Curve
  pending : Option Curve
deriving DecidableEq, Repr

/-- The eight fields of a head parameter set (Table 3-2). -/
structure HeadParams where
  fitted : Bool
  gain : Nat
  bias : Int
  dmin : Nat
  wearRate : Nat
  wearCap : Nat
  lowerMs : Nat
  liftMs : Nat
deriving DecidableEq, Repr

/-- One head parameter set's copies (R41). -/
structure ParamCopies where
  active : HeadParams
  pending : Option HeadParams
deriving DecidableEq, Repr

/-- The calibration store. -/
structure Store where
  curves : Vector CurveCopies 16
  params : PerHead ParamCopies
deriving DecidableEq, Repr

/-! ### Head controllers (Table 4-1) -/

/-- The six head states (R57), in the order of their codes. -/
inductive HeadState where
  | offline
  | lifted
  | lowering
  | engaged
  | lifting
  | faulted
deriving DecidableEq, Repr

/-- The four fault causes of a head (Table 4-1), in the order of their codes. -/
inductive HeadCause where
  | landTimeout
  | liftTimeout
  | ampFault
  | lostContact
deriving DecidableEq, Repr

/-- Which movement a running timeout supervises (Table 4-1). -/
inductive TimeoutKind where
  | lower
  | lift
deriving DecidableEq, Repr

/-- One head controller (Table 4-1). A running timeout carries its expiry time on the time base. The lift command is
a function of the state (R57). -/
structure HeadUnit where
  state : HeadState
  cause : Option HeadCause
  lowerRequest : Bool
  timeout : Option (TimeoutKind × Nat)
  landed : Bool
  ampFault : Bool
  drive : Nat
  stylus : Nat
deriving DecidableEq, Repr

/-! ### Job table (Tables 5-1, 5-2, 5-4) -/

/-- The kind of a band (R78), in the order of its codes. -/
inductive BandKind where
  | engrave
  | testCut
  | dryPass
deriving DecidableEq, Repr

/-- The highlight policy (R22), in the order of its codes. -/
inductive Policy where
  | drop
  | raise
deriving DecidableEq, Repr

/-- A cylinder identity: job number and separation (R79, R125). -/
structure CylinderId where
  job : Nat
  separation : Nat
deriving DecidableEq, Repr

/-- A test patch (R81). -/
structure Patch where
  tone : Nat
  length : Nat
deriving DecidableEq, Repr

/-- The fields of a VALID descriptor (Table 5-2). -/
structure Descriptor where
  kind : BandKind
  cylinder : CylinderId
  heads : PerHead Bool
  x0 : Nat
  pitch : Nat
  nr : Nat
  nc : Nat
  cut : Nat
  stagger : Nat
  curves : PerHead (Option (Fin 16))
  policy : Policy
  texp : Nat
  speedTol : Nat
  posTol : Nat
  starve : Nat
  nextSlot : Option (Fin 64)
  patches : List Patch
deriving DecidableEq, Repr

/-- The phase of a status record (R87), in the order of its codes. -/
inductive Phase where
  | neverRun
  | current
  | stopped
  | aborted
  | complete
deriving DecidableEq, Repr

/-- How a band ends (R89). -/
inductive BandOutcome where
  | stopped
  | aborted
  | complete
deriving DecidableEq, Repr

/-- Why a band did not reach COMPLETE (Table 5-6), in the order of Table 10-6. -/
inductive EndCause where
  | operatorStop
  | linkLost
  | operatorAbort
  | cutAbortLine
  | motionStall
  | reverseRotation
  | indexSlip
  | headFault
  | landTimeout
  | positionMismatch
  | carriageTimeout
deriving DecidableEq, Repr

/-- The three counts of one head of the set (R27). -/
structure HeadCounts where
  dropped : Nat
  clipHigh : Nat
  clipLow : Nat
deriving DecidableEq, Repr

/-- A status record (Table 5-4). A head outside the head set has no counts. -/
structure StatusRecord where
  phase : Phase
  outcome : Option BandOutcome
  cause : Option EndCause
  faultedHead : Option HeadId
  nextRing : Nat
  partialRing : Option Nat
  ringsCut : Nat
  idleRevs : Nat
  offSpeed : Nat
  counts : PerHead (Option HeadCounts)
deriving DecidableEq, Repr

/-- One slot of the job table: a descriptor that is none is EMPTY (R76). -/
structure JobSlot where
  desc : Option Descriptor
  record : StatusRecord
deriving DecidableEq, Repr

/-! ### Ring staging (Table 6-1) -/

/-- A ring slot and what it holds in each of its states (R101). -/
inductive RingSlot where
  | empty
  | filling (ring : Nat) (tones : List Byte) (check : Nat)
  | ready (ring : Nat) (tones : List Byte) (check : Nat) (stopMark : Bool)
  | cutting (ring : Nat) (tones : List Byte) (check : Nat) (stopMark : Bool)
deriving DecidableEq, Repr

/-- One head's slots A and B and its next-fill ring (R103). -/
structure HeadStaging where
  slotA : RingSlot
  slotB : RingSlot
  nf : Option Nat
deriving DecidableEq, Repr

/-- Ring staging: the heads' slots and the synthesised ring of a TEST_CUT band (R117). -/
structure Staging where
  heads : PerHead HeadStaging
  synth : Option (List Byte)
deriving DecidableEq, Repr

/-! ### Band engine (Table 7-1) -/

/-- The seven engine states (R123), in the order of their codes. -/
inductive EngineState where
  | idle
  | armed
  | preparing
  | cutting
  | held
  | ending
  | ended
deriving DecidableEq, Repr

/-- Where CUTTING stands in the revolution (Table 7-1). -/
inductive RevPos where
  | cut
  | seam
  | idle
deriving DecidableEq, Repr

/-- Why the engine is HELD (Table 7-1), in the order of the codes. -/
inductive HoldReason where
  | stopMark
  | pauseRequest
  | starved
  | speed
deriving DecidableEq, Repr

/-- The cause a waiting stop at seam carries (Table 7-1). -/
inductive StopCause where
  | operatorStop
  | linkLost
deriving DecidableEq, Repr

/-- The band engine (Table 7-1). -/
structure Engine where
  state : EngineState
  mounted : Option CylinderId
  slot : Option (Fin 64)
  ring : Option Nat
  revPos : Option RevPos
  hold : Option HoldReason
  pause : Bool
  stopAtSeam : Option StopCause
  dataIdle : Nat
  speedDev : Nat
  settleRun : Nat
  settleCount : Option Nat
  target : Option Nat
  arrived : Bool
  late : Nat
  lastArrival : Option Nat
deriving DecidableEq, Repr

/-! ### Motion supervisor (Table 8-1) -/

/-- The state of a reset line after filtering (R158, R160). -/
inductive LineFilter where
  | released
  | qualifying (start : Nat)
  | taken
deriving DecidableEq, Repr

/-- The motion supervisor (Table 8-1). `active` is supervision ACTIVE, `warnArmed` a stall warning ARMED. -/
structure Supervisor where
  active : Bool
  stall : Nat
  warnArmed : Bool
  limit : Nat
  cutAbort : LineFilter
  masterReset : LineFilter
deriving DecidableEq, Repr

/-! ### Link units (Table 10-1) -/

/-- The 14 event kinds (R185), in the order of their numbers. -/
inductive EventKind where
  | bandEnded
  | bandHeld
  | chainStopped
  | ringFreed
  | clip
  | speedDeviation
  | stallWarn
  | motionFault
  | headFault
  | cutAbort
  | custodyGranted
  | custodyLost
  | relayWaiting
  | linkError
deriving DecidableEq, Repr

/-- A set of the event kinds: bit n stands for kind n (R185). -/
abbrev EventSet := BitVec 14

/-- A relay note: its source link and its bytes (R181). -/
structure Note where
  source : LinkId
  bytes : List Byte
deriving DecidableEq, Repr

/-- A reply's kind byte and body (R177). -/
structure ReplyFrame where
  kind : Byte
  body : List Byte
deriving DecidableEq, Repr

/-- A frame in transmission (R180). -/
inductive TxFrame where
  | reply (f : ReplyFrame)
  | notice (e : EventKind)
deriving DecidableEq, Repr

/-- One link unit (Table 10-1), with the reply that waits for the transmitter and the frame the transmitter sends
(R180). -/
structure LinkUnit where
  up : Bool
  replyPending : Bool
  events : EventSet
  mask : EventSet
  notices : List EventKind
  relay : List Note
  waitingReply : Option ReplyFrame
  sending : Option TxFrame
deriving DecidableEq, Repr

/-! ### The machine lines' levels -/

/-- The levels at the lines that a rule reads apart from a change: the head ports (R73), the two reset lines (R160,
R161) and the links' signals (R184). -/
structure Pins where
  landed : PerHead Bool
  ampFault : PerHead Bool
  cutAbort : Bool
  masterReset : Bool
  signal : PerLink Bool
deriving DecidableEq, Repr

/-! ### The whole part -/

/-- The part: its time base, the levels at its lines, its ten blocks, and the queue of waiting commands. -/
structure State where
  now : Nat
  pins : Pins
  grid : Grid
  cells : PerHead CellUnit
  store : Store
  heads : PerHead HeadUnit
  jobs : Vector JobSlot 64
  staging : Staging
  engine : Engine
  sup : Supervisor
  custody : Option LinkId
  links : PerLink LinkUnit
  pending : List Instr
deriving DecidableEq, Repr

/-- No command stops the part, so no fault has a name (log entry 14). -/
inductive Fault
deriving DecidableEq, Repr

/-- The reasons for which a command has no meaning. -/
inductive Refusal where
  /-- Raised by an arm of `exec` whose command has no meaning yet. No arm does. Safe: the machine stops. -/
  | notModelled (mnemonic : String)
deriving DecidableEq, Repr

/-! ### Values after master reset -/

/-- The cell grid after master reset (R17). -/
def Grid.reset : Grid where
  position := 0
  reference := .unreferenced
  state := .stopped
  acc := 0
  boundaries := 0
  lastPeriod := none
  indexTime := none

/-- The cell computer's state for a head after master reset (R38). -/
def CellUnit.reset : CellUnit := ⟨0, none⟩

/-- A head parameter set after master reset (Table 3-3). -/
def HeadParams.reset : HeadParams where
  fitted := false
  gain := 64
  bias := 0
  dmin := 0
  wearRate := 0
  wearCap := 0
  lowerMs := 100
  liftMs := 100

/-- The calibration store after master reset (R43). -/
def Store.reset : Store where
  curves := Vector.replicate 16 ⟨none, none⟩
  params := PerHead.pure ⟨HeadParams.reset, none⟩

/-- A head controller after master reset, with the levels present at its port (R73). -/
def HeadUnit.reset (landed ampFault : Bool) : HeadUnit where
  state := .offline
  cause := none
  lowerRequest := false
  timeout := none
  landed := landed
  ampFault := ampFault
  drive := 0
  stylus := 0

/-- A record reset to NEVER_RUN, with a set of counts at 0 for each head of the set (R84, R85, R99). -/
def StatusRecord.fresh (heads : PerHead Bool) : StatusRecord where
  phase := .neverRun
  outcome := none
  cause := none
  faultedHead := none
  nextRing := 0
  partialRing := none
  ringsCut := 0
  idleRevs := 0
  offSpeed := 0
  counts := heads.mapH fun _ b => if b then some ⟨0, 0, 0⟩ else none

/-- A slot of the job table after master reset or a clear (R85, R99). -/
def JobSlot.empty : JobSlot := ⟨none, StatusRecord.fresh (PerHead.pure false)⟩

/-- Ring staging after master reset (R119). -/
def Staging.reset : Staging := ⟨PerHead.pure ⟨.empty, .empty, none⟩, none⟩

/-- The band engine after master reset (R147). -/
def Engine.reset : Engine where
  state := .idle
  mounted := none
  slot := none
  ring := none
  revPos := none
  hold := none
  pause := false
  stopAtSeam := none
  dataIdle := 0
  speedDev := 0
  settleRun := 0
  settleCount := none
  target := none
  arrived := false
  late := 0
  lastArrival := none

/-- The motion supervisor after master reset, with the two filters as given (R162). -/
def Supervisor.reset (cutAbort masterReset : LineFilter) : Supervisor where
  active := false
  stall := 0
  warnArmed := true
  limit := Config.resetStallLimit
  cutAbort := cutAbort
  masterReset := masterReset

/-- A link unit after master reset (R184). -/
def LinkUnit.reset : LinkUnit where
  up := false
  replyPending := false
  events := 0#14
  mask := 0#14
  notices := []
  relay := []
  waitingReply := none
  sending := none

/-- The levels of quiet lines: nothing landed, no amplifier fault, both reset lines released, no signal on a link
(DESIGN CHOICE, log entry 4). -/
def Pins.quiet : Pins := ⟨PerHead.pure false, PerHead.pure false, false, false, PerLink.pure false⟩

/-- The part at the end of master reset, with quiet lines and an empty queue (R160; log entry 4). -/
def State.reset : State where
  now := 0
  pins := Pins.quiet
  grid := Grid.reset
  cells := PerHead.pure CellUnit.reset
  store := Store.reset
  heads := PerHead.pure (HeadUnit.reset false false)
  jobs := Vector.replicate 64 JobSlot.empty
  staging := Staging.reset
  engine := Engine.reset
  sup := Supervisor.reset .released .released
  custody := none
  links := PerLink.pure LinkUnit.reset
  pending := []

end Sys2Proof.Machine
end

