-- ==== Sys2Proof/Machine/Updates.lean ====
section
/-! DEFINITION. One update for each part of the state. Every operation is written with these, so that one lemma for
each part and each update (Sys2Proof/Laws/State.lean) says what an operation leaves alone. -/

namespace Sys2Proof.Machine

/-- The part with the time base replaced. -/
def State.withNow (s : State) (x : Nat) : State :=
  { s with now := x }

/-- The part with the levels at the lines replaced. -/
def State.withPins (s : State) (x : Pins) : State :=
  { s with pins := x }

/-- The part with the cell grid replaced. -/
def State.withGrid (s : State) (x : Grid) : State :=
  { s with grid := x }

/-- The part with the cell computer replaced. -/
def State.withCells (s : State) (x : PerHead CellUnit) : State :=
  { s with cells := x }

/-- The part with the calibration store replaced. -/
def State.withStore (s : State) (x : Store) : State :=
  { s with store := x }

/-- The part with the head controllers replaced. -/
def State.withHeads (s : State) (x : PerHead HeadUnit) : State :=
  { s with heads := x }

/-- The part with the job table replaced. -/
def State.withJobs (s : State) (x : Vector JobSlot 64) : State :=
  { s with jobs := x }

/-- The part with ring staging replaced. -/
def State.withStaging (s : State) (x : Staging) : State :=
  { s with staging := x }

/-- The part with the band engine replaced. -/
def State.withEngine (s : State) (x : Engine) : State :=
  { s with engine := x }

/-- The part with the motion supervisor replaced. -/
def State.withSup (s : State) (x : Supervisor) : State :=
  { s with sup := x }

/-- The part with the custody unit replaced. -/
def State.withCustody (s : State) (x : Option LinkId) : State :=
  { s with custody := x }

/-- The part with the link units replaced. -/
def State.withLinks (s : State) (x : PerLink LinkUnit) : State :=
  { s with links := x }

/-- The part with the queue replaced. -/
def State.withPending (s : State) (x : List Instr) : State :=
  { s with pending := x }

/-- The band engine changed by `f`. -/
def State.modEngine (f : Engine → Engine) (s : State) : State :=
  s.withEngine (f s.engine)

/-- The motion supervisor changed by `f`. -/
def State.modSup (f : Supervisor → Supervisor) (s : State) : State :=
  s.withSup (f s.sup)

/-- The cell grid changed by `f`. -/
def State.modGrid (f : Grid → Grid) (s : State) : State :=
  s.withGrid (f s.grid)

/-- Link `l`'s unit changed by `f`. -/
def State.modLink (l : LinkId) (f : LinkUnit → LinkUnit) (s : State) : State :=
  s.withLinks (s.links.set l (f (s.links.get l)))

/-- Head `h`'s controller changed by `f`. -/
def State.modHead (h : HeadId) (f : HeadUnit → HeadUnit) (s : State) : State :=
  s.withHeads (s.heads.set h (f (s.heads.get h)))

/-- Slot `i` of the job table changed by `f`. -/
def State.modJob (i : Fin 64) (f : JobSlot → JobSlot) (s : State) : State :=
  s.withJobs (s.jobs.set i (f s.jobs[i]))

end Sys2Proof.Machine
end

