-- ==== Sys2Proof/Machine/Operands.lean ====
section
/-! DEFINITION. What a request carries and what a reply carries: the request kinds (Table 10-8), the links that may
send them (R178), the results (R185), the readers of a body's fields and the writers of multi-byte values. -/

namespace Sys2Proof.Machine

/-! ### Multi-byte values, most significant byte first (R185) -/

/-- One byte. -/
def be1 (v : Nat) : List Byte := [BitVec.ofNat 8 v]

/-- Two bytes. -/
def be2 (v : Nat) : List Byte := [BitVec.ofNat 8 (v / 256), BitVec.ofNat 8 v]

/-- Three bytes. -/
def be3 (v : Nat) : List Byte := [BitVec.ofNat 8 (v / 65536), BitVec.ofNat 8 (v / 256), BitVec.ofNat 8 v]

/-- Four bytes. -/
def be4 (v : Nat) : List Byte :=
  [BitVec.ofNat 8 (v / 16777216), BitVec.ofNat 8 (v / 65536), BitVec.ofNat 8 (v / 256), BitVec.ofNat 8 v]

/-- The one-byte field at offset `i` of a body; none if the body ends before the field is complete (R177). -/
def u8 (body : List Byte) (i : Nat) : Option Nat := body[i]?.map BitVec.toNat

/-- The two-byte field at offset `i`. -/
def u16 (body : List Byte) (i : Nat) : Option Nat :=
  match body[i]?, body[i + 1]? with
  | some a, some b => some (a.toNat * 256 + b.toNat)
  | _, _ => none

/-- The four-byte field at offset `i`. -/
def u32 (body : List Byte) (i : Nat) : Option Nat :=
  match u16 body i, u16 body (i + 2) with
  | some a, some b => some (a * 65536 + b)
  | _, _ => none

/-- A 16-bit value read in two's complement (Table 10-9, field B). -/
def signed16 (v : Nat) : Int := if v < 32768 then v else (v : Int) - 65536

/-- A field YES/NO by its code: NO 0, YES 1 (Tables 10-9). -/
def yesNo : Nat → Option Bool
  | 0 => some false
  | 1 => some true
  | _ => none

/-! ### Request kinds -/

/-- The 32 request kinds (Table 10-8). -/
inductive ReqKind where
  | mountCylinder | armBand | disarm | startBand | pauseBand | resumeBand | stopAtSeam | stopAtOnce
  | ackEnd | setStallLimit | clearHeadFault | claimCustody | releaseCustody | passCustody | seizeCustody
  | writeDescriptor | clearDescriptor | writeCurve | writeHeadParams | setStylusCount
  | readDescriptor | readBandStatus | readCurve | readHead | readEngine | readEvents
  | setNoticeMask | relayNote | fetchRelay | ringSegment | ringClose | discardRings
deriving DecidableEq, Repr

/-- The request kinds in the order of their kind bytes 0x01 to 0x20 (Table 10-8). -/
def ReqKind.all : List ReqKind :=
  [.mountCylinder, .armBand, .disarm, .startBand, .pauseBand, .resumeBand, .stopAtSeam, .stopAtOnce,
   .ackEnd, .setStallLimit, .clearHeadFault, .claimCustody, .releaseCustody, .passCustody, .seizeCustody,
   .writeDescriptor, .clearDescriptor, .writeCurve, .writeHeadParams, .setStylusCount,
   .readDescriptor, .readBandStatus, .readCurve, .readHead, .readEngine, .readEvents,
   .setNoticeMask, .relayNote, .fetchRelay, .ringSegment, .ringClose, .discardRings]

/-- The kind byte of a request (Table 10-8). -/
def ReqKind.code : ReqKind → Byte
  | .mountCylinder => 0x01#8
  | .armBand => 0x02#8
  | .disarm => 0x03#8
  | .startBand => 0x04#8
  | .pauseBand => 0x05#8
  | .resumeBand => 0x06#8
  | .stopAtSeam => 0x07#8
  | .stopAtOnce => 0x08#8
  | .ackEnd => 0x09#8
  | .setStallLimit => 0x0A#8
  | .clearHeadFault => 0x0B#8
  | .claimCustody => 0x0C#8
  | .releaseCustody => 0x0D#8
  | .passCustody => 0x0E#8
  | .seizeCustody => 0x0F#8
  | .writeDescriptor => 0x10#8
  | .clearDescriptor => 0x11#8
  | .writeCurve => 0x12#8
  | .writeHeadParams => 0x13#8
  | .setStylusCount => 0x14#8
  | .readDescriptor => 0x15#8
  | .readBandStatus => 0x16#8
  | .readCurve => 0x17#8
  | .readHead => 0x18#8
  | .readEngine => 0x19#8
  | .readEvents => 0x1A#8
  | .setNoticeMask => 0x1B#8
  | .relayNote => 0x1C#8
  | .fetchRelay => 0x1D#8
  | .ringSegment => 0x1E#8
  | .ringClose => 0x1F#8
  | .discardRings => 0x20#8

/-- The request kind of a kind byte: none for every other byte (Table 10-8). -/
def ReqKind.ofCode (b : Byte) : Option ReqKind := ReqKind.all.find? fun k => k.code == b

/-- Whether link `l` may send kind `k` (R178). -/
def ReqKind.permitted (l : LinkId) : ReqKind → Bool
  | .mountCylinder | .armBand | .disarm | .startBand | .pauseBand | .resumeBand | .stopAtSeam | .ackEnd
  | .setStallLimit | .clearHeadFault | .seizeCustody => l == .machine
  | .ringSegment | .ringClose | .discardRings => l == .prepress
  | .stopAtOnce | .claimCustody | .releaseCustody | .passCustody | .writeDescriptor | .clearDescriptor
  | .writeCurve | .writeHeadParams | .setStylusCount | .readDescriptor | .readBandStatus | .readCurve
  | .readHead | .readEngine | .readEvents | .setNoticeMask | .relayNote | .fetchRelay => true

/-! ### Results and replies -/

/-- The results of a request (R185); BAD_FIELD names its field. -/
inductive Result where
  | done | adjusted | unknownKind | notPermitted | noCustody | custodyHeld | linkDown | busy | notArmed | notHeld
  | notEnded | emptySlot | wrongCylinder | headUnavailable | headInUse | curveUnset | bandComplete
  | badField (field : Nat)
  | descriptorInUse | notInBand | ringOutOfOrder | segmentGap | slotsFull | lengthMismatch | ringCheckFailed
  | faultPresent | abortAsserted | relayFull | empty
deriving DecidableEq, Repr

/-- The result's code, 0 to 28 (R185). -/
def Result.code : Result → Nat
  | .done => 0
  | .adjusted => 1
  | .unknownKind => 2
  | .notPermitted => 3
  | .noCustody => 4
  | .custodyHeld => 5
  | .linkDown => 6
  | .busy => 7
  | .notArmed => 8
  | .notHeld => 9
  | .notEnded => 10
  | .emptySlot => 11
  | .wrongCylinder => 12
  | .headUnavailable => 13
  | .headInUse => 14
  | .curveUnset => 15
  | .bandComplete => 16
  | .badField _ => 17
  | .descriptorInUse => 18
  | .notInBand => 19
  | .ringOutOfOrder => 20
  | .segmentGap => 21
  | .slotsFull => 22
  | .lengthMismatch => 23
  | .ringCheckFailed => 24
  | .faultPresent => 25
  | .abortAsserted => 26
  | .relayFull => 27
  | .empty => 28

/-- The result's bytes: its code, followed by the field number for BAD_FIELD (R185). -/
def Result.bytes (r : Result) : List Byte :=
  match r with
  | .badField n => be1 r.code ++ be1 n
  | _ => be1 r.code

/-- What an owning block answers: the result, and the part that follows it (Table 10-10). -/
structure Answer where
  result : Result
  tail : List Byte
deriving DecidableEq, Repr

/-- An answer with nothing after its result. -/
def Result.plain (r : Result) : Answer := ⟨r, []⟩

/-! ### Codes of the enumerated values (R185: "coded from 0 in the order their chapters list them") -/

/-- NO 0, YES 1; OFF 0, ON 1; CLEAR 0, SET 1; FALSE 0, TRUE 1. -/
def bit (b : Bool) : Nat := if b then 1 else 0

/-- The band kind's code (Table 10-5). -/
def BandKind.code : BandKind → Nat
  | .engrave => 0
  | .testCut => 1
  | .dryPass => 2

/-- The band kind of a code. -/
def BandKind.ofCode : Nat → Option BandKind
  | 0 => some .engrave
  | 1 => some .testCut
  | 2 => some .dryPass
  | _ => none

/-- The highlight policy's code (Table 10-5). -/
def Policy.code : Policy → Nat
  | .drop => 0
  | .raise => 1

/-- The highlight policy of a code. -/
def Policy.ofCode : Nat → Option Policy
  | 0 => some .drop
  | 1 => some .raise
  | _ => none

/-- The phase's code (Table 10-6). -/
def Phase.code : Phase → Nat
  | .neverRun => 0
  | .current => 1
  | .stopped => 2
  | .aborted => 3
  | .complete => 4

/-- The phase a band takes from its outcome (R88). -/
def BandOutcome.phase : BandOutcome → Phase
  | .stopped => .stopped
  | .aborted => .aborted
  | .complete => .complete

/-- The cause's code (Table 10-6). -/
def EndCause.code : EndCause → Nat
  | .operatorStop => 0
  | .linkLost => 1
  | .operatorAbort => 2
  | .cutAbortLine => 3
  | .motionStall => 4
  | .reverseRotation => 5
  | .indexSlip => 6
  | .headFault => 7
  | .landTimeout => 8
  | .positionMismatch => 9
  | .carriageTimeout => 10

/-- The engine state's code. -/
def EngineState.code : EngineState → Nat
  | .idle => 0
  | .armed => 1
  | .preparing => 2
  | .cutting => 3
  | .held => 4
  | .ending => 5
  | .ended => 6

/-- The hold reason's code. -/
def HoldReason.code : HoldReason → Nat
  | .stopMark => 0
  | .pauseRequest => 1
  | .starved => 2
  | .speed => 3

/-- The head state's code. -/
def HeadState.code : HeadState → Nat
  | .offline => 0
  | .lifted => 1
  | .lowering => 2
  | .engaged => 3
  | .lifting => 4
  | .faulted => 5

/-- The head fault cause's code. -/
def HeadCause.code : HeadCause → Nat
  | .landTimeout => 0
  | .liftTimeout => 1
  | .ampFault => 2
  | .lostContact => 3

/-- The ring slot state's code. -/
def RingSlot.code : RingSlot → Nat
  | .empty => 0
  | .filling _ _ _ => 1
  | .ready _ _ _ _ => 2
  | .cutting _ _ _ _ => 3

/-- The event kind's number (R185). -/
def EventKind.num : EventKind → Nat
  | .bandEnded => 0
  | .bandHeld => 1
  | .chainStopped => 2
  | .ringFreed => 3
  | .clip => 4
  | .speedDeviation => 5
  | .stallWarn => 6
  | .motionFault => 7
  | .headFault => 8
  | .cutAbort => 9
  | .custodyGranted => 10
  | .custodyLost => 11
  | .relayWaiting => 12
  | .linkError => 13

/-- Whether kind `e` is in the set. -/
def EventSet.has (s : EventSet) (e : EventKind) : Bool := s.getLsbD e.num

/-- The set with kind `e` in it. -/
def EventSet.add (s : EventSet) (e : EventKind) : EventSet := s ||| (1#14 <<< e.num)

/-- A head set byte: bit n for Hn (Table 10-5). -/
def headSetByte (p : PerHead Bool) : Nat := bit p.h0 + 2 * bit p.h1 + 4 * bit p.h2 + 8 * bit p.h3

/-- The head set of a byte: none unless it names a non-empty subset of H0 to H3 (R79, R83). -/
def headSetOf (v : Nat) : Option (PerHead Bool) :=
  if 1 ≤ v ∧ v ≤ 15 then some ⟨v.testBit 0, v.testBit 1, v.testBit 2, v.testBit 3⟩ else none

end Sys2Proof.Machine
end

