-- ==== Sys2Proof/Machine/Flags.lean ====
section
/-! DEFINITION. What the blocks derive from the state and do not store: the lift command, the current band, in use, at
rest, the summary flag, the index class, the speed judgement and the stall thresholds. -/

namespace Sys2Proof.Machine

/-- The lift command of a head state: true for ASSERTED (R57). -/
def HeadState.liftAsserted : HeadState → Bool
  | .lowering => false
  | .engaged => false
  | .offline => true
  | .lifted => true
  | .lifting => true
  | .faulted => true

/-- Whether a band is current in an engine state (R42, R77, R123). -/
def EngineState.isCurrent : EngineState → Bool
  | .armed => true
  | .preparing => true
  | .cutting => true
  | .held => true
  | .ending => true
  | .idle => false
  | .ended => false

/-- Whether an abort cause ends a band in this engine state (R142). -/
def EngineState.abortable : EngineState → Bool
  | .preparing => true
  | .cutting => true
  | .held => true
  | .idle => false
  | .armed => false
  | .ending => false
  | .ended => false

/-- The current band's descriptor, while a band is current (R77). -/
def State.band (s : State) : Option Descriptor :=
  if s.engine.state.isCurrent then
    match s.engine.slot with
    | some i => s.jobs[i].desc
    | none => none
  else none

/-- The record of the engine's current slot. -/
def State.record (s : State) : Option StatusRecord :=
  match s.engine.slot with
  | some i => some s.jobs[i].record
  | none => none

/-- The next ring of the current slot's record (R6). -/
def State.nextRing (s : State) : Nat :=
  match s.record with
  | some r => r.nextRing
  | none => 0

/-- Whether head `h` is in use: in the current band's head set (R42). -/
def State.headInUse (s : State) (h : HeadId) : Bool :=
  match s.band with
  | some d => d.heads.get h
  | none => false

/-- Whether a descriptor names curve `c` for a head of its set (R42). -/
def Descriptor.names (d : Descriptor) (c : Fin 16) : Bool :=
  HeadId.all.any fun h => d.heads.get h && d.curves.get h == some c

/-- Whether curve `c` is in use: named by the current band for a head of its set (R42). -/
def State.curveInUse (s : State) (c : Fin 16) : Bool :=
  match s.band with
  | some d => d.names c
  | none => false

/-- Whether slot `i` is the current band's slot (R82, R85). -/
def State.slotInUse (s : State) (i : Fin 64) : Bool :=
  s.engine.state.isCurrent && s.engine.slot == some i

/-- Whether a head counts as at rest for ENDING (R144). -/
def HeadState.atRest : HeadState → Bool
  | .lifted => true
  | .faulted => true
  | .offline => true
  | .lowering => false
  | .engaged => false
  | .lifting => false

/-- Whether every head of the set is at rest (R144). -/
def State.setAtRest (s : State) : Bool :=
  HeadId.all.all fun h => !s.headInUse h || (s.heads.get h).state.atRest

/-- Whether every head of the set is ENGAGED (R131). -/
def State.setEngaged (s : State) : Bool :=
  HeadId.all.all fun h => !s.headInUse h || (s.heads.get h).state == .engaged

/-- Whether a head is on the copper or on its way to it (R150). -/
def HeadState.lowered : HeadState → Bool
  | .lowering => true
  | .engaged => true
  | .offline => false
  | .lifted => false
  | .lifting => false
  | .faulted => false

/-- Whether a head of the current band's set is LOWERING or ENGAGED (R150). -/
def State.anyLowered (s : State) : Bool :=
  HeadId.all.any fun h => s.headInUse h && (s.heads.get h).state.lowered

/-- The lowest-numbered FAULTED head of the set (R130). -/
def State.lowestFaulted (s : State) : Option HeadId :=
  HeadId.all.find? fun h => s.headInUse h && (s.heads.get h).state == .faulted

/-- The abort cause of a head fault (R69, R130). -/
def HeadCause.endCause : Option HeadCause → EndCause
  | some .landTimeout => .landTimeout
  | some .liftTimeout => .headFault
  | some .ampFault => .headFault
  | some .lostContact => .headFault
  | none => .headFault

/-- Whether a ring is being cut: from the index that begins its cutting revolution to its boundary L (R4). -/
def State.ringBeingCut (s : State) : Bool :=
  s.engine.state == .cutting && s.engine.revPos == some .cut

/-- Whether the part is in master reset (R160). -/
def State.inMasterReset (s : State) : Bool := s.sup.masterReset == .taken

/-- Whether the cut-abort line is taken and still asserted (R158). -/
def State.cutAbortTaken (s : State) : Bool := s.sup.cutAbort == .taken

/-- The class of an index event by the reference state and the position count (R3). -/
def indexClass (r : Reference) (position : Nat) : IndexClass :=
  match r with
  | .unreferenced => .reference
  | .referenced =>
    if position ≤ Config.trimWindow ∨ Config.stepsPerRev - Config.trimWindow ≤ position then .trim else .slip

/-- The judgement of a revolution period (R157). -/
inductive Judgement where
  | unknown
  | inside
  | outside
deriving DecidableEq, Repr

/-- The difference of two quantities taken without sign. -/
def absDiff (a b : Nat) : Nat := (a - b) + (b - a)

/-- The speed window: Texp in ms and the tolerance in percent against a period in µs (R157). -/
def judgeSpeed (texp tol : Nat) : Option Nat → Judgement
  | none => .unknown
  | some p => if absDiff p (texp * 1000) * 100 ≤ tol * texp * 1000 then .inside else .outside

/-- The warning threshold in µs for a stall limit in ms (R151). -/
def warnThreshold (limit : Nat) : Nat := limit / 2 * 1000

/-- The fault threshold in µs for a stall limit in ms (R151). -/
def faultThreshold (limit : Nat) : Nat := limit * 1000

/-- Whether any of a record's counts is above 0 (R88, R127). -/
def StatusRecord.anyCount (r : StatusRecord) : Bool :=
  0 < r.ringsCut || 0 < r.idleRevs || 0 < r.offSpeed ||
    HeadId.all.any fun h =>
      match r.counts.get h with
      | some c => 0 < c.dropped || 0 < c.clipHigh || 0 < c.clipLow
      | none => false

/-- The summary flag (R96). -/
def StatusRecord.summary (r : StatusRecord) : Bool :=
  r.phase == .aborted || (r.phase == .current && r.outcome == some .aborted) ||
    (HeadId.all.any fun h =>
      match r.counts.get h with
      | some c => 0 < c.clipHigh || 0 < c.clipLow
      | none => false) ||
    0 < r.offSpeed

/-- A count one higher, saturating (00_scope.md: "A counter saturates"; R27, R87). -/
def countUp (n : Nat) : Nat := min Config.maxCount (n + 1)

end Sys2Proof.Machine
end

