-- ==== Sys2Proof/Machine/Tone.lean ====
section
/-! DEFINITION. From tone to stylus drive: the seven stages of the computation for one cell (R20 to R25) and the wear
term (R23). -/

namespace Sys2Proof.Machine

/-- The depth interpolated from a curve at a tone (R21). -/
def interpolate (k : Curve) (tone : Nat) : Nat :=
  let i := tone / 16
  let f := tone % 16
  let lo := k[i]?.getD 0
  let hi := k[i + 1]?.getD 0
  lo + ((hi - lo) * f + 8) / 16

/-- The raw drive code of a depth under a wear term (R24). -/
def rawCode (p : HeadParams) (wear depth : Nat) : Int :=
  p.bias + (((depth + wear) * p.gain + 32) / 64 : Nat)

/-- The clamp to the range of the head port (R25). -/
def clampCode (a : Int) : Nat × CellOutcome :=
  if (Config.maxDrive : Int) < a then (Config.maxDrive, .clipHigh)
  else if a ≤ 0 then (0, .clipLow)
  else (a.toNat, .cut)

/-- The stages after the interpolation: highlight policy, wear, raw code and clamp (R22, R24, R25). -/
def driveOfDepth (p : HeadParams) (policy : Policy) (wear depth : Nat) : Nat × CellOutcome :=
  if depth < p.dmin then
    match policy with
    | .drop => (0, .dropped)
    | .raise => clampCode (rawCode p wear p.dmin)
  else if depth = 0 then (0, .noCell)
  else clampCode (rawCode p wear depth)

/-- The drive code and outcome of a cell (R20 to R25). -/
def driveOfTone (k : Curve) (p : HeadParams) (policy : Policy) (wear tone : Nat) : Nat × CellOutcome :=
  if tone = 0 then (0, .noCell) else driveOfDepth p policy wear (interpolate k tone)

/-- The wear term of a stylus count (R23). -/
def wearTerm (p : HeadParams) (stylus : Nat) : Nat := min p.wearCap (stylus * p.wearRate / Config.wearUnit)

end Sys2Proof.Machine
end

