-- ==== Sys2Proof/Machine/Ops.lean ====
section
/-! DEFINITION. The operations every block shares: posting an event, the transmitter, the status record, the passage of
time, and supervision following the heads. -/

namespace Sys2Proof.Machine

/-! ### Events and notices (R179, R180) -/

/-- A link unit with event `e` posted: added to the set of an UP link if it is not pending, and then appended to the
notice queue if the mask enables it and it does not wait there already (R175, R179, R180). -/
def LinkUnit.post (e : EventKind) (u : LinkUnit) : LinkUnit :=
  if u.up && !u.events.has e then
    { u with
      events := u.events.add e
      notices := if u.mask.has e && !u.notices.contains e then u.notices ++ [e] else u.notices }
  else u

/-- Event `e` posted to link `l`'s set. -/
def postTo (l : LinkId) (e : EventKind) (s : State) : State := s.modLink l (LinkUnit.post e)

/-- Event `e` posted to the sets of all three links. -/
def postAll (e : EventKind) (s : State) : State := s.withLinks (s.links.mapL fun _ u => u.post e)

/-- The transmitter of an UP link that is idle and has work: it begins a waiting reply first, else the oldest waiting
notice (R180). -/
def LinkUnit.transmit (u : LinkUnit) : LinkUnit :=
  if u.up && u.sending.isNone then
    match u.waitingReply, u.notices with
    | some f, _ => { u with waitingReply := none, sending := some (.reply f) }
    | none, e :: rest => { u with notices := rest, sending := some (.notice e) }
    | none, [] => u
  else u

/-- Every idle transmitter takes up its work. -/
def transmitAll (s : State) : State := s.withLinks (s.links.mapL fun _ u => u.transmit)

/-! ### The status record of the current slot -/

/-- The record of the engine's current slot changed by `f`. -/
def modRecord (f : StatusRecord → StatusRecord) (s : State) : State :=
  match s.engine.slot with
  | some i => s.modJob i fun j => { j with record := f j.record }
  | none => s

/-! ### Time -/

/-- `dt` µs of the time base pass: while supervision is ACTIVE the stall counter rises with it, up to 2,000,000
(R151). -/
def passTime (dt : Nat) (s : State) : State :=
  (s.withNow (s.now + dt)).modSup fun u =>
    if u.active then { u with stall := min Config.maxStall (u.stall + dt) } else u

/-- The time base brought to moment `t`, if that is still ahead (log entry 1). -/
def passTimeTo (t : Nat) (s : State) : State := passTime (t - s.now) s

/-! ### Supervision (R150) -/

/-- Supervision follows the head states: on a change to ACTIVE or INACTIVE the stall counter becomes 0 and the warning
ARMED (R150). -/
def supervise (s : State) : State :=
  s.modSup fun u =>
    if u.active = s.anyLowered then u else { u with active := s.anyLowered, stall := 0, warnArmed := true }

/-! ### What a station sees change -/

/-- The end of a step that can move heads or the engine: supervision follows, then idle transmitters take up their
work. -/
def settle (s : State) : State := transmitAll (supervise s)

/-- A step of a machine line: it is taken outside master reset alone (R160). -/
def outsideReset (f : State → State) (s : State) : State := if s.inMasterReset then s else f s

end Sys2Proof.Machine
end

