-- ==== Sys2Proof/Machine/HeadOps.lean ====
section
/-! DEFINITION. The head controllers: lowering, lifting, the end of a lift, faults, fitting and clearing, each on one
head (R59 to R70). -/

namespace Sys2Proof.Machine

/-- When a timeout of `ms` started now expires (R61). -/
def expiryAt (now ms : Nat) : Nat := now + ms * 1000

/-- A head enters LOWERING: the lower timeout starts from the active value (R61). -/
def HeadUnit.beginLower (now : Nat) (p : HeadParams) (u : HeadUnit) : HeadUnit :=
  { u with state := .lowering, timeout := some (.lower, expiryAt now p.lowerMs) }

/-- A lift is complete: the timeout is cancelled, and a SET lower request passes the head through LIFTED into LOWERING
at once (R64). -/
def HeadUnit.endLift (now : Nat) (p : HeadParams) (u : HeadUnit) : HeadUnit :=
  if u.lowerRequest then HeadUnit.beginLower now p { u with lowerRequest := false }
  else { u with state := .lifted, timeout := none }

/-- A head enters LIFTING: drive 0, the lift timeout started; with its landed sense already off the lift completes at
once (R63, R64). -/
def HeadUnit.beginLift (now : Nat) (p : HeadParams) (u : HeadUnit) : HeadUnit :=
  let v := { u with state := .lifting, drive := 0, timeout := some (.lift, expiryAt now p.liftMs) }
  if u.landed then v else v.endLift now p

/-- A lower command (R61). -/
def HeadUnit.lower (now : Nat) (p : HeadParams) (u : HeadUnit) : HeadUnit :=
  match u.state with
  | .lifted => u.beginLower now p
  | .lifting => { u with lowerRequest := true }
  | .lowering => u
  | .engaged => u
  | .faulted => u
  | .offline => u

/-- A lift command (R63). -/
def HeadUnit.lift (now : Nat) (p : HeadParams) (u : HeadUnit) : HeadUnit :=
  match u.state with
  | .lowering => u.beginLift now p
  | .engaged => u.beginLift now p
  | .lifting => { u with lowerRequest := false }
  | .lifted => u
  | .faulted => u
  | .offline => u

/-- A head enters FAULTED: drive 0, timeout cancelled, lower request cleared, cause stored (R66, steps 1 to 3). -/
def HeadUnit.fault (c : HeadCause) (u : HeadUnit) : HeadUnit :=
  { u with state := .faulted, cause := some c, drive := 0, timeout := none, lowerRequest := false }

/-- A fitted head leaves OFFLINE for the state its recorded levels decide; the amplifier's case is a fault (R59). -/
def HeadUnit.fit (now : Nat) (p : HeadParams) (u : HeadUnit) : HeadUnit :=
  if u.ampFault then u.fault .ampFault
  else if u.landed then { u with state := .lifting, timeout := some (.lift, expiryAt now p.liftMs) }
  else { u with state := .lifted }

/-- An unfitted head is OFFLINE from any state (R60). -/
def HeadUnit.unfit (u : HeadUnit) : HeadUnit :=
  { u with state := .offline, cause := none, drive := 0, timeout := none, lowerRequest := false }

/-- A cleared head: LIFTED with its sense off, LIFTING with the lift timeout started otherwise (R70, check 4). -/
def HeadUnit.clear (now : Nat) (p : HeadParams) (u : HeadUnit) : HeadUnit :=
  if u.landed then { u with state := .lifting, cause := none, timeout := some (.lift, expiryAt now p.liftMs) }
  else { u with state := .lifted, cause := none }

/-- The active parameter set of head `h` (R41). -/
def State.params (s : State) (h : HeadId) : HeadParams := (s.store.params.get h).active

/-- A lower command to every head of the set (R130). -/
def lowerSet (s : State) : State :=
  s.withHeads (s.heads.mapH fun h u => if s.headInUse h then u.lower s.now (s.params h) else u)

/-- A lift command to every head of the set (R141, R143, R144). -/
def liftSet (s : State) : State :=
  s.withHeads (s.heads.mapH fun h u => if s.headInUse h then u.lift s.now (s.params h) else u)

/-- Every drive output of the set at 0 and every prepared cell of the set EMPTY (R34). -/
def silenceSet (s : State) : State :=
  (s.withHeads (s.heads.mapH fun h u => if s.headInUse h then { u with drive := 0 } else u)).withCells
    (s.cells.mapH fun h c => if s.headInUse h then { c with prepared := none } else c)

end Sys2Proof.Machine
end

