-- ==== Sys2Proof/Machine/StagingOps.lean ====
section
/-! DEFINITION. Ring staging: slots, the running check, the hand-over of rings and the synthesised ring (R101 to
R120). -/

namespace Sys2Proof.Machine

/-- Every slot EMPTY and every next-fill ring none; the synthesised ring removed (R118, R119, R120). -/
def emptyStaging (s : State) : State := s.withStaging Staging.reset

/-- Both slots of a head changed by `f`. -/
def HeadStaging.mapSlots (f : RingSlot → RingSlot) (t : HeadStaging) : HeadStaging :=
  { t with slotA := f t.slotA, slotB := f t.slotB }

/-- Whether a predicate holds of slot A or slot B. -/
def HeadStaging.anySlot (f : RingSlot → Bool) (t : HeadStaging) : Bool := f t.slotA || f t.slotB

/-- The staging of each head of the set changed by `f`. -/
def modSetStaging (f : HeadStaging → HeadStaging) (s : State) : State :=
  s.withStaging
    { s.staging with heads := s.staging.heads.mapH fun h t => if s.headInUse h then f t else t }

/-- Whether the slot is READY with ring `r` (R111). -/
def RingSlot.readyWith (r : Nat) : RingSlot → Bool
  | .ready n _ _ _ => n == r
  | _ => false

/-- Whether the slot is EMPTY. -/
def RingSlot.isEmpty : RingSlot → Bool
  | .empty => true
  | _ => false

/-- A READY slot holding ring `r` becomes CUTTING (R111). -/
def RingSlot.toCutting (r : Nat) : RingSlot → RingSlot
  | .ready n t c m => if n = r then .cutting n t c m else .ready n t c m
  | x => x

/-- A CUTTING slot becomes EMPTY (R113, R114). -/
def RingSlot.freeCutting : RingSlot → RingSlot
  | .cutting _ _ _ _ => .empty
  | x => x

/-- A FILLING or READY slot becomes EMPTY; a CUTTING slot is kept (R115). -/
def RingSlot.discard : RingSlot → RingSlot
  | .cutting n t c m => .cutting n t c m
  | _ => .empty

/-- Whether the slot is CUTTING with stop mark YES (R113). -/
def RingSlot.cuttingMark : RingSlot → Bool
  | .cutting _ _ _ m => m
  | _ => false

/-- The ring a CUTTING slot holds. -/
def RingSlot.cuttingRing : RingSlot → Option Nat
  | .cutting n _ _ _ => some n
  | _ => none

/-- The tones a CUTTING slot holds. -/
def RingSlot.cuttingTones : RingSlot → Option (List Byte)
  | .cutting _ t _ _ => some t
  | _ => none

/-- The tones received of a FILLING slot (R106). -/
def RingSlot.fillingCount : RingSlot → Option Nat
  | .filling _ t _ => some t.length
  | _ => none

/-- The ring a head's CUTTING slot holds. -/
def HeadStaging.cuttingRing (t : HeadStaging) : Option Nat := t.slotA.cuttingRing <|> t.slotB.cuttingRing

/-- The tones of a head's CUTTING slot. -/
def HeadStaging.cuttingTones (t : HeadStaging) : Option (List Byte) := t.slotA.cuttingTones <|> t.slotB.cuttingTones

/-- The tones received of a head's FILLING slot; none when it has no FILLING slot. -/
def HeadStaging.fillingCount (t : HeadStaging) : Option Nat := t.slotA.fillingCount <|> t.slotB.fillingCount

/-- The weight of cell `k` in the ring check (R105, R110). -/
def checkWeight (k : Nat) : Nat := k % 251 + 1

/-- The running check after tones are stored from cell `k` on (R105). -/
def runCheck (k check : Nat) : List Byte → Nat
  | [] => check
  | t :: ts => runCheck (k + 1) ((check + t.toNat * checkWeight k) % 65536) ts

/-- The ring check of a whole ring (R110). -/
def ringCheck (tones : List Byte) : Nat := runCheck 0 0 tones

/-- Tones stored at the end of a FILLING slot (R105); another slot is left alone. -/
def RingSlot.store (tones : List Byte) : RingSlot → RingSlot
  | .filling r t c => .filling r (t ++ tones) (runCheck t.length c tones)
  | x => x

/-- A new ring begun with its first tones (R101, R105). -/
def RingSlot.begin (ring : Nat) (tones : List Byte) : RingSlot := RingSlot.store tones (.filling ring [] 0)

/-- A FILLING slot closed: READY with its running check and its stop mark (R109). -/
def RingSlot.close (mark : Bool) : RingSlot → RingSlot
  | .filling r t c => .ready r t c mark
  | x => x

/-- A FILLING slot emptied by a refused close (R108). -/
def RingSlot.dropFilling : RingSlot → RingSlot
  | .filling _ _ _ => .empty
  | x => x

/-- A new ring begun in slot A if it is EMPTY, and in slot B otherwise (R101). -/
def HeadStaging.beginRing (ring : Nat) (tones : List Byte) (t : HeadStaging) : HeadStaging :=
  if t.slotA.isEmpty then { t with slotA := RingSlot.begin ring tones }
  else { t with slotB := RingSlot.begin ring tones }

/-- The tones of a patch list laid end to end (R81). -/
def patchTones (ps : List Patch) : List Byte :=
  ps.flatMap fun p => List.replicate p.length (BitVec.ofNat 8 p.tone)

/-- The synthesised ring of a TEST_CUT band: the patches, then tone 0 up to cell L − 1 (R81, R117). -/
def synthRing (d : Descriptor) : List Byte :=
  patchTones d.patches ++ List.replicate (d.cut - (patchTones d.patches).length) 0#8

/-- Whether staging reports ring `r` ready for every head of the set (R111, R117). -/
def State.dataReady (s : State) (d : Descriptor) (r : Nat) : Bool :=
  d.kind == .testCut ||
    HeadId.all.all fun h => !d.heads.get h || (s.staging.heads.get h).anySlot (RingSlot.readyWith r)

/-- The ring the cell computer reads for head `h` (R37). -/
def State.ringOf (s : State) (d : Descriptor) (h : HeadId) : List Byte :=
  match d.kind with
  | .testCut => s.staging.synth.getD []
  | .engrave => (s.staging.heads.get h).cuttingTones.getD []
  | .dryPass => (s.staging.heads.get h).cuttingTones.getD []

/-- Staging at the index that begins a cutting revolution of ring `r` (R111, R117). -/
def takeRing (d : Descriptor) (r : Nat) (s : State) : State :=
  match d.kind with
  | .testCut => s.withStaging { s.staging with synth := some (synthRing d) }
  | .engrave => modSetStaging (HeadStaging.mapSlots (RingSlot.toCutting r)) s
  | .dryPass => modSetStaging (HeadStaging.mapSlots (RingSlot.toCutting r)) s

/-- CUTTING slots of the set emptied and the synthesised ring removed (R113, R114, R117). -/
def dropRing (s : State) : State :=
  let t := modSetStaging (HeadStaging.mapSlots RingSlot.freeCutting) s
  t.withStaging { t.staging with synth := none }

/-- The stop mark handed to the engine at boundary L (R113, R117). -/
def State.stopMark (s : State) (d : Descriptor) : Bool :=
  d.kind != .testCut &&
    HeadId.all.any fun h => d.heads.get h && (s.staging.heads.get h).anySlot RingSlot.cuttingMark

/-- The next-fill ring of each head when a band is armed at ring `r` (R103). -/
def armStaging (d : Descriptor) (r : Nat) (s : State) : State :=
  s.withStaging
    { s.staging with
      heads := s.staging.heads.mapH fun h t =>
        { t with nf := if d.heads.get h && d.kind != .testCut then some r else none } }

end Sys2Proof.Machine
end

