-- ==== Sys2Proof/Machine/EngineOps.lean ====
section
/-! DEFINITION. The band engine's transitions: arming, preparation, holds, aborts, ending, chaining, the index and
boundary L (R126 to R148), with the promotion of the calibration store (R53) and the cells of a ring (R31 to R33). -/

namespace Sys2Proof.Machine

/-! ### The end of a band's currency (R53, R88, R118) -/

/-- A present pending copy becomes the active copy (R53). -/
def CurveCopies.promote (c : CurveCopies) : CurveCopies :=
  match c.pending with
  | some k => ⟨some k, none⟩
  | none => c

/-- A present pending parameter set becomes the active one (R53). -/
def ParamCopies.promote (c : ParamCopies) : ParamCopies :=
  match c.pending with
  | some p => ⟨p, none⟩
  | none => c

/-- Every pending copy promoted (R53). -/
def Store.promote (t : Store) : Store :=
  { t with curves := t.curves.map CurveCopies.promote, params := t.params.mapH fun _ c => c.promote }

/-- The record's phase takes the outcome, which is removed (R88, R89). -/
def StatusRecord.endRun (r : StatusRecord) : StatusRecord :=
  match r.outcome with
  | some o => { r with phase := o.phase, outcome := none }
  | none => r

/-- The current band stops being current at the end of ENDING: its phase takes the outcome, the pending copies are
promoted and every slot is emptied (R53, R88, R118). -/
def endCurrency (s : State) : State :=
  let t := emptyStaging (modRecord StatusRecord.endRun s)
  t.withStore t.store.promote

/-- The engine enters ENDED with event `e` (R145). -/
def enterEnded (e : EventKind) (s : State) : State :=
  postAll e ((endCurrency s).modEngine fun g => { g with state := .ended, ring := none })

/-- The record of a disarmed band (R88, R127). -/
def StatusRecord.disarm (r : StatusRecord) : StatusRecord :=
  if 0 < r.nextRing || r.anyCount then { r with phase := .stopped, cause := some .operatorStop }
  else { r with phase := .neverRun }

/-- DISARM's effect, also taken by a cut-abort reset in ARMED (R127, R148). -/
def disarmBand (s : State) : State :=
  let t := emptyStaging (modRecord StatusRecord.disarm s)
  (t.withStore t.store.promote).modEngine fun g => { g with state := .idle, slot := none, ring := none }

/-! ### Entering ENDING (R144) -/

/-- The grid stops (R7). -/
def stopGrid (s : State) : State := s.modGrid fun g => { g with state := .stopped, acc := 0, boundaries := 0 }

/-- The outcome, cause and faulted head written at the entry to ENDING (R89). -/
def StatusRecord.withOutcome (o : BandOutcome) (c : Option EndCause) (h : Option HeadId) (r : StatusRecord) :
    StatusRecord :=
  { r with outcome := some o, cause := c, faultedHead := h }

/-- The engine enters ENDING, before the test whether the heads are at rest (R144). -/
def toEnding (o : BandOutcome) (c : Option EndCause) (h : Option HeadId) (s : State) : State :=
  stopGrid ((liftSet (modRecord (StatusRecord.withOutcome o c h) s)).modEngine fun g =>
    { g with
      state := .ending, target := none, revPos := none, pause := false, stopAtSeam := none, hold := none })

/-- The end of ENDING for a band that is STOPPED or ABORTED (R145). -/
def leaveEndingPlain (s : State) : State :=
  if s.engine.state = .ending ∧ s.setAtRest then enterEnded .bandEnded s else s

/-- The cause a stop carries into the record (R89). -/
def StopCause.endCause : StopCause → EndCause
  | .operatorStop => .operatorStop
  | .linkLost => .linkLost

/-- The engine enters ENDING with outcome STOPPED (R140, R146). -/
def stopBand (c : StopCause) (s : State) : State :=
  leaveEndingPlain (toEnding .stopped (some c.endCause) none s)

/-- A stall whose counter has reached the fault threshold when another cause is taken first: its MOTION_FAULT, and the
STALL_WARN of a warning still ARMED, are posted in that order of the two causes too (R153; log entry 12). -/
def postDueStall (s : State) : State :=
  if s.sup.active ∧ faultThreshold s.sup.limit ≤ s.sup.stall then
    postAll .motionFault (if s.sup.warnArmed then postAll .stallWarn s else s)
  else s

/-- The engine takes an abort in PREPARING, CUTTING or HELD; in every other state the cause changes nothing (R142,
R143). -/
def abort (c : EndCause) (h : Option HeadId) (s : State) : State :=
  if s.engine.state.abortable then
    let posted := postDueStall s
    let marked :=
      if s.engine.revPos = some .cut then
        modRecord (fun r => { r with partialRing := some r.nextRing }) posted
      else posted
    leaveEndingPlain (toEnding .aborted (some c) h (dropRing (silenceSet marked)))
  else s

/-! ### Arming (R94, R103, R126) -/

/-- The record of a slot armed, with or without restart (R94). -/
def StatusRecord.arm (heads : PerHead Bool) (restart : Bool) (r : StatusRecord) : StatusRecord :=
  if restart || r.phase = .neverRun then { StatusRecord.fresh heads with phase := .current }
  else { r with phase := .current, outcome := none, cause := none, faultedHead := none, partialRing := none }

/-- The arming step: slot `i` with descriptor `d` becomes current in ARMED (R126). -/
def armSlot (i : Fin 64) (d : Descriptor) (restart : Bool) (s : State) : State :=
  let t := s.modJob i fun j => { j with record := j.record.arm d.heads restart }
  (armStaging d t.jobs[i].record.nextRing t).modEngine fun g =>
    { g with
      state := .armed, slot := some i, ring := some t.jobs[i].record.nextRing, pause := false, stopAtSeam := none,
      dataIdle := 0, speedDev := 0, settleRun := 0, settleCount := none, hold := none, target := none }

/-- Whether every head of a descriptor's set is fitted and LIFTED (R126, R145). -/
def State.headsAvailable (s : State) (d : Descriptor) : Bool :=
  HeadId.all.all fun h => !d.heads.get h || ((s.params h).fitted && (s.heads.get h).state == .lifted)

/-- Whether every curve a descriptor names is SET (R126, R145). -/
def State.curvesSet (s : State) (d : Descriptor) : Bool :=
  HeadId.all.all fun h =>
    !d.heads.get h ||
      match d.curves.get h with
      | some c => s.store.curves[c].active.isSome
      | none => true

/-! ### The carriage (R130, R132) -/

/-- A carriage request for the record's next ring; none is made while one is outstanding (R132). -/
def requestCarriage (d : Descriptor) (s : State) : State :=
  match s.engine.target with
  | some _ => s
  | none =>
    s.modEngine fun g => { g with target := some (d.x0 + s.nextRing * d.pitch), arrived := false, late := 0 }

/-- The carriage put to the present ring on entering PREPARING (R130). -/
def placeCarriage (d : Descriptor) (s : State) : State :=
  match s.engine.target, s.engine.lastArrival with
  | some _, _ => s
  | none, some p =>
    if absDiff p (d.x0 + s.nextRing * d.pitch) ≤ d.posTol then s.modEngine fun g => { g with arrived := true }
    else requestCarriage d s
  | none, none => requestCarriage d s

/-! ### Preparation (R130) -/

/-- The entry actions of PREPARING (R130). -/
def prepareActions (d : Descriptor) (s : State) : State :=
  let t := if d.kind = .dryPass then s else lowerSet s
  placeCarriage d (t.modEngine fun g =>
    { g with settleRun := 0, speedDev := 0, settleCount := if d.kind = .dryPass then some 0 else none })

/-- The engine enters PREPARING: the three checks, then the entry actions (R130). `chained` says that it enters by
chained continuation. -/
def enterPreparing (chained : Bool) (s : State) : State :=
  let t := s.modEngine fun g => { g with state := .preparing, hold := none }
  if chained && t.cutAbortTaken then abort .cutAbortLine none t
  else
    match t.lowestFaulted with
    | some h => abort (HeadCause.endCause (t.heads.get h).cause) (some h) t
    | none =>
      if chained && !(t.links.get .machine).up then stopBand .linkLost t
      else
        match t.band with
        | some d => prepareActions d t
        | none => t

/-- The grid awaits the first index of a band that is started (R7). -/
def awaitIndex (s : State) : State := s.modGrid fun g => { g with state := .awaitingIndex, acc := 0, boundaries := 0 }

/-! ### Leaving ENDING, and chaining (R54, R145) -/

/-- Whether slot `m` qualifies for chained continuation (R54, R145). -/
def State.qualifies (s : State) (m : Fin 64) : Bool :=
  match s.jobs[m].desc with
  | some d =>
    s.jobs[m].record.phase == .neverRun && s.engine.mounted == some d.cylinder && s.headsAvailable d && s.curvesSet d
  | none => false

/-- Chained continuation into slot `m`: the finished band stops being current, then the next slot is checked, and
armed into PREPARING or CHAIN_STOPPED is posted (R54, R145). -/
def chain (m : Fin 64) (s : State) : State :=
  let t := endCurrency s
  match t.jobs[m].desc, t.qualifies m with
  | some d, true => enterPreparing true (awaitIndex (armSlot m d true t))
  | _, _ => postAll .chainStopped (t.modEngine fun g => { g with state := .ended, ring := none })

/-- The test whether the heads are at rest, and the end of ENDING if they are (R144, R145). -/
def leaveEnding (s : State) : State :=
  if s.engine.state = .ending ∧ s.setAtRest then
    match s.band, s.record with
    | some d, some r =>
      match r.outcome, d.nextSlot with
      | some .complete, some m => chain m s
      | _, _ => enterEnded .bandEnded s
    | _, _ => enterEnded .bandEnded s
  else s

/-! ### Holds (R141) -/

/-- The engine enters HELD (R141). -/
def enterHeld (r : HoldReason) (s : State) : State :=
  postAll .bandHeld ((liftSet s).modEngine fun g =>
    { g with state := .held, hold := some r, pause := false, revPos := none, settleCount := none })

/-! ### Head reports (R69, R131, R144) -/

/-- A head that is in use reports a fault to the engine (R69, R144). -/
def reportFault (h : HeadId) (c : HeadCause) (s : State) : State :=
  if s.headInUse h then
    if s.engine.state = .ending then leaveEnding s
    else abort (HeadCause.endCause (some c)) (some h) s
  else s

/-- Head `h` enters FAULTED: the controller, HEAD_FAULT to all links, the report (R66). -/
def faultHead (h : HeadId) (c : HeadCause) (s : State) : State :=
  reportFault h c (postAll .headFault (s.modHead h (HeadUnit.fault c)))

/-- In PREPARING the settle count becomes 0 when the last head of the set enters ENGAGED (R131). -/
def headsReady (s : State) : State :=
  match s.band with
  | some d =>
    if d.kind ≠ .dryPass ∧ s.setEngaged ∧ s.engine.settleCount = none then
      s.modEngine fun g => { g with settleCount := some 0 }
    else s
  | none => s

/-- What the engine does when head `h` has changed state without a fault (R131, R144). -/
def headMoved (h : HeadId) (s : State) : State :=
  if s.headInUse h then
    if s.engine.state = .ending then leaveEnding s
    else if s.engine.state = .preparing then headsReady s
    else s
  else s

/-! ### The cells of a ring (R31, R32, R33) -/

/-- Cell `k` of head `h` formed from the ring it reads (R20 to R25, R37). -/
def State.formCell (s : State) (d : Descriptor) (h : HeadId) (wear k : Nat) : PreparedCell :=
  let curve : Curve :=
    match d.curves.get h with
    | some c => s.store.curves[c].active.getD (Vector.replicate 17 0)
    | none => Vector.replicate 17 0
  let tone := ((s.ringOf d h)[k]?.getD 0#8).toNat
  let x := driveOfTone curve (s.params h) d.policy wear tone
  ⟨k, x.1, x.2⟩

/-- At the index that begins a cutting revolution each head of the set gets its wear term fixed and cell 0 formed
(R23, R31). -/
def startCells (d : Descriptor) (s : State) : State :=
  s.withCells (s.cells.mapH fun h c =>
    if d.heads.get h then
      let w := wearTerm (s.params h) (s.heads.get h).stylus
      ⟨w, some (s.formCell d h w 0)⟩
    else c)

/-- The counts moved by a latched cell's outcome (R27). -/
def HeadCounts.latch (o : CellOutcome) (c : HeadCounts) : HeadCounts :=
  match o with
  | .dropped => { c with dropped := countUp c.dropped }
  | .clipHigh => { c with clipHigh := countUp c.clipHigh }
  | .clipLow => { c with clipLow := countUp c.clipLow }
  | .noCell => c
  | .cut => c

/-- Whether a latch raises a clip count, and so posts CLIP (R28). -/
def HeadCounts.clips (o : CellOutcome) (c : HeadCounts) : Bool :=
  match o with
  | .clipHigh => c.clipHigh < Config.maxCount
  | .clipLow => c.clipLow < Config.maxCount
  | .dropped => false
  | .noCell => false
  | .cut => false

/-- A head controller's latch of a cell: the drive presented, and the stylus count (R29, R30, R32). -/
def HeadUnit.latch (kind : BandKind) (c : Option PreparedCell) (u : HeadUnit) : HeadUnit :=
  match c with
  | none => { u with drive := 0 }
  | some p =>
    if u.state = .engaged ∧ kind ≠ .dryPass then
      { u with drive := p.code, stylus := if 0 < p.code then countUp u.stylus else u.stylus }
    else { u with drive := 0 }

/-- The counts after the latches of one boundary: one count for each head of the set that latches a cell (R27). -/
def latchCounts (d : Descriptor) (cells : PerHead CellUnit) (counts : PerHead (Option HeadCounts)) :
    PerHead (Option HeadCounts) :=
  counts.mapH fun h c =>
    if d.heads.get h then
      match (cells.get h).prepared, c with
      | some p, some n => some (n.latch p.outcome)
      | _, _ => c
    else c

/-- Whether one of the latches of a boundary raises a clip count (R28). -/
def anyClip (d : Descriptor) (cells : PerHead CellUnit) (counts : PerHead (Option HeadCounts)) : Bool :=
  HeadId.all.any fun h =>
    d.heads.get h &&
      match (cells.get h).prepared, counts.get h with
      | some p, some n => n.clips p.outcome
      | _, _ => false

/-- Boundary `b`, below L: each head controller of the set latches its prepared cell, and the cell computer forms the
next (R32, R33). -/
def latchCells (d : Descriptor) (b : Nat) (s : State) : State :=
  let counts := (s.record.map fun r => r.counts).getD (PerHead.pure none)
  let t := modRecord (fun r => { r with counts := latchCounts d s.cells r.counts }) s
  let t := if anyClip d s.cells counts then postAll .clip t else t
  (t.withHeads (s.heads.mapH fun h u =>
      if d.heads.get h then u.latch d.kind (s.cells.get h).prepared else u)).withCells
    (s.cells.mapH fun h c =>
      if d.heads.get h then
        { c with
          prepared :=
            if c.prepared.isSome ∧ b + 1 < d.cut then some (s.formCell d h c.wear (b + 1)) else none }
      else c)

/-! ### Boundary L (R33, R113, R138) -/

/-- The progress of a ring whose cut is complete (R92, R138). -/
def StatusRecord.ringDone (r : StatusRecord) : StatusRecord :=
  { r with nextRing := r.nextRing + 1, ringsCut := r.ringsCut + 1 }

/-- Boundary L of a cutting revolution: outputs to 0, the ring freed, the next ring, then the end of the band, a hold
or a carriage request (R33, R113, R138). -/
def boundaryL (d : Descriptor) (s : State) : State :=
  let mark := s.stopMark d
  let t := dropRing (silenceSet s)
  let t := if d.kind = .testCut then t else postAll .ringFreed t
  let t := (modRecord StatusRecord.ringDone t).modEngine fun g =>
    { g with ring := some (s.nextRing + 1), revPos := some .seam }
  if s.nextRing + 1 = d.nr then leaveEnding (toEnding .complete none none t)
  else
    match t.engine.stopAtSeam with
    | some c => stopBand c t
    | none =>
      if mark then enterHeld .stopMark t
      else if t.engine.pause then enterHeld .pauseRequest t
      else requestCarriage d t

/-- Boundary `b` reaches the head controllers, the cell computer and the engine: the latches and boundary L of a cutting
revolution, and outside one the drive outputs of the set at 0 below L and nothing more (R11, R33, R35, R137). -/
def boundary (b : Nat) (s : State) : State :=
  match s.band with
  | some d =>
    if s.ringBeingCut then
      if b < d.cut then latchCells d b s
      else if b = d.cut then boundaryL d s
      else s
    else if b < d.cut then silenceSet s
    else s
  | none => s

/-! ### The index (R131, R134, R135, R136) -/

/-- The carriage-late counter at an index with a target outstanding (R134). -/
def countLate (s : State) : State :=
  if s.engine.target.isSome then s.modEngine fun g => { g with late := min Config.carriageLateLimit (g.late + 1) }
  else s

/-- Whether the carriage-late counter has reached 3 with a target outstanding (R134). -/
def State.carriageTimedOut (s : State) : Bool :=
  s.engine.target.isSome && s.engine.late == Config.carriageLateLimit

/-- A cutting revolution begins (R31, R136). -/
def beginCutting (d : Descriptor) (s : State) : State :=
  startCells d ((takeRing d s.nextRing s).modEngine fun g => { g with dataIdle := 0, revPos := some .cut })

/-- An idle revolution begins, and the tests for a hold follow it (R136). `noData` says that its reason is DATA. No slot
changes: a ring whose cutting revolution the index ended before boundary L keeps its CUTTING slot, and the synthesised
ring of a TEST_CUT band is kept too (DESIGN CHOICE, log entry 20). -/
def beginIdle (d : Descriptor) (noData : Bool) (s : State) : State :=
  let t := (modRecord (fun r => { r with idleRevs := countUp r.idleRevs }) s).modEngine fun g =>
    { g with revPos := some .idle, dataIdle := if noData then min 255 (g.dataIdle + 1) else g.dataIdle }
  if t.engine.speedDev = Config.speedDevLimit then enterHeld .speed t
  else if d.starve ≤ t.engine.dataIdle then enterHeld .starved t
  else if t.engine.pause ∧ t.engine.target = none then enterHeld .pauseRequest t
  else t

/-- The decision of the coming revolution: data, carriage, speed (R136). The drive outputs of the set are 0 and its
prepared cells EMPTY when it is taken (R31), also at an index that comes before boundary L of a cutting revolution,
where a synthesised ring stays as it is through an idle revolution (DESIGN CHOICE, log entry 20). -/
def decideRevolution (d : Descriptor) (s : State) : State :=
  let t := silenceSet s
  if !t.dataReady d t.nextRing then beginIdle d true t
  else if !t.engine.arrived then beginIdle d false t
  else if 0 < t.engine.speedDev then beginIdle d false t
  else beginCutting d t

/-- The speed of the revolution that has just ended judged in CUTTING (R135, step 3). -/
def judgeRevolution (d : Descriptor) (s : State) : State :=
  if judgeSpeed d.texp d.speedTol s.grid.lastPeriod = .inside then s.modEngine fun g => { g with speedDev := 0 }
  else
    let t := postAll .speedDeviation s
    let t :=
      if s.engine.revPos = some .seam then
        modRecord (fun r => { r with offSpeed := countUp r.offSpeed }) t
      else t
    t.modEngine fun g => { g with speedDev := min Config.speedDevLimit (g.speedDev + 1) }

/-- An index taken while CUTTING (R135). -/
def cuttingIndex (c : IndexClass) (d : Descriptor) (s : State) : State :=
  if c = .slip ∧ s.ringBeingCut then abort .indexSlip none s
  else
    let t := countLate s
    if t.carriageTimedOut then abort .carriageTimeout none t
    else decideRevolution d (judgeRevolution d t)

/-- The settle run and the settle count at an index in PREPARING (R131). -/
def countSettle (d : Descriptor) (s : State) : State :=
  s.modEngine fun g =>
    { g with
      settleRun :=
        if judgeSpeed d.texp d.speedTol s.grid.lastPeriod = .inside then min 2 (g.settleRun + 1) else 0
      settleCount := g.settleCount.map fun n => min Config.settleLimit (n + 1) }

/-- An index taken while PREPARING (R131, R134). The carriage timeout is tested before the settle run and the settle count
move (DESIGN CHOICE, log entry 9). -/
def preparingIndex (d : Descriptor) (s : State) : State :=
  let t := countLate s
  if t.carriageTimedOut then abort .carriageTimeout none t
  else
    let t := countSettle d t
    if t.engine.settleCount.isSome ∧ t.engine.arrived ∧ t.engine.settleRun = 2 then
      decideRevolution d (judgeRevolution d (t.modEngine fun g => { g with state := .cutting }))
    else if t.engine.settleRun < 2 ∧ t.engine.settleCount = some Config.settleLimit then enterHeld .speed t
    else t

/-- An index taken while HELD (R134, R141). -/
def heldIndex (s : State) : State :=
  let t := countLate s
  if t.carriageTimedOut then abort .carriageTimeout none t else t

/-- The index reaches the engine (R16). -/
def engineIndex (c : IndexClass) (s : State) : State :=
  match s.band with
  | none => s
  | some d =>
    match s.engine.state with
    | .preparing => preparingIndex d s
    | .cutting => cuttingIndex c d s
    | .held => heldIndex s
    | .idle => s
    | .armed => s
    | .ending => s
    | .ended => s

/-! ### The motion causes (R153, R154, R155) -/

/-- A motion cause: MOTION_FAULT posted and the cause reported to the engine (R153, R155). -/
def motionFault (c : EndCause) (s : State) : State := abort c none (postAll .motionFault s)

/-- STALL_WARN posted and the warning SPENT, if it is ARMED and the counter has reached the threshold (R152). -/
def checkWarn (s : State) : State :=
  if s.sup.active ∧ s.sup.warnArmed ∧ warnThreshold s.sup.limit ≤ s.sup.stall then
    (postAll .stallWarn s).modSup fun u => { u with warnArmed := false }
  else s

/-- MOTION_STALL reported if the counter has reached the fault threshold (R153). -/
def checkStall (s : State) : State :=
  if s.sup.active ∧ faultThreshold s.sup.limit ≤ s.sup.stall then motionFault .motionStall s else s

end Sys2Proof.Machine
end

