-- ==== Sys2Proof/Machine/CarriagePort.lean ====
section
/-! DEFINITION. The carriage port: arrivals (R133). -/

namespace Sys2Proof.Machine

/-- An arrival with actual position `p` (R133). -/
def carriageArrival (p : Nat) (s : State) : State :=
  match s.engine.target, s.band with
  | some t, some d =>
    if absDiff p t ≤ d.posTol then
      s.modEngine fun g => { g with arrived := true, lastArrival := some p, target := none }
    else abort .positionMismatch none s
  | _, _ => s

/-- CARRIAGE_ARRIVAL (R133). -/
def execCarriageArrival (pos : Nat) (s : State) : Host.Outcome State Fault Refusal :=
  .next (outsideReset (fun s => settle (carriageArrival pos s)) s)

end Sys2Proof.Machine
end

