-- ==== Sys2Proof/Machine/HeadPorts.lean ====
section
/-! DEFINITION. The head ports: changes of the landed sense and the amplifier fault input (R58, R62, R64, R65, R67,
R68) and the expiries of the lower and lift timeouts (R62, R64). -/

namespace Sys2Proof.Machine

/-- A head in LOWERING lands (R62). -/
def HeadUnit.land (u : HeadUnit) : HeadUnit := { u with state := .engaged, timeout := none }

/-- Head `h` acts on its landed sense having come on, its level recorded (R62, R65, R68). -/
def senseOn (h : HeadId) (s : State) : State :=
  match (s.heads.get h).state with
  | .lowering => headMoved h (s.modHead h HeadUnit.land)
  | .lifted => headMoved h (s.modHead h (HeadUnit.beginLift s.now (s.params h)))
  | .offline => s
  | .engaged => s
  | .lifting => s
  | .faulted => s

/-- Head `h` acts on its landed sense having gone off, its level recorded (R64, R65, R68). -/
def senseOff (h : HeadId) (s : State) : State :=
  match (s.heads.get h).state with
  | .lifting => headMoved h (s.modHead h (HeadUnit.endLift s.now (s.params h)))
  | .engaged => faultHead h .lostContact s
  | .offline => s
  | .lifted => s
  | .lowering => s
  | .faulted => s

/-- A change of the landed sense: the level is recorded, then acted on; a level that does not change is no event, and
in master reset the event is not taken (R58, R160). -/
def landedSenseChange (h : HeadId) (on : Bool) (s : State) : State :=
  let t := s.withPins { s.pins with landed := s.pins.landed.set h on }
  if s.inMasterReset || (s.heads.get h).landed == on then t
  else
    let u := t.modHead h fun x => { x with landed := on }
    settle (if on then senseOn h u else senseOff h u)

/-- Head `h` acts on its amplifier fault input having come on, its level recorded (R67). -/
def ampOn (h : HeadId) (s : State) : State :=
  match (s.heads.get h).state with
  | .lifted => faultHead h .ampFault s
  | .lowering => faultHead h .ampFault s
  | .engaged => faultHead h .ampFault s
  | .lifting => faultHead h .ampFault s
  | .offline => s
  | .faulted => s

/-- A change of the amplifier fault input (R58, R67, R68, R160). -/
def ampFaultChange (h : HeadId) (on : Bool) (s : State) : State :=
  let t := s.withPins { s.pins with ampFault := s.pins.ampFault.set h on }
  if s.inMasterReset || (s.heads.get h).ampFault == on then t
  else
    let u := t.modHead h fun x => { x with ampFault := on }
    settle (if on then ampOn h u else u)

/-- The lower timeout of head `h` expires in LOWERING (R62). -/
def lowerTimeoutExpiry (h : HeadId) (s : State) : State :=
  match (s.heads.get h).state, (s.heads.get h).timeout with
  | .lowering, some (.lower, t) => faultHead h .landTimeout (passTimeTo t s)
  | _, _ => s

/-- The lift timeout of head `h` expires in LIFTING (R64). -/
def liftTimeoutExpiry (h : HeadId) (s : State) : State :=
  match (s.heads.get h).state, (s.heads.get h).timeout with
  | .lifting, some (.lift, t) => faultHead h .liftTimeout (passTimeTo t s)
  | _, _ => s

/-! ### The commands -/

/-- LANDED_SENSE_CHANGE (R65). -/
def execLandedSenseChange (h : HeadId) (on : Bool) (s : State) : Host.Outcome State Fault Refusal :=
  .next (landedSenseChange h on s)

/-- AMP_FAULT_CHANGE (R67). -/
def execAmpFaultChange (h : HeadId) (on : Bool) (s : State) : Host.Outcome State Fault Refusal :=
  .next (ampFaultChange h on s)

/-- LOWER_TIMEOUT_EXPIRY (R62). -/
def execLowerTimeoutExpiry (h : HeadId) (s : State) : Host.Outcome State Fault Refusal :=
  .next (outsideReset (fun s => settle (lowerTimeoutExpiry h s)) s)

/-- LIFT_TIMEOUT_EXPIRY (R64). -/
def execLiftTimeoutExpiry (h : HeadId) (s : State) : Host.Outcome State Fault Refusal :=
  .next (outsideReset (fun s => settle (liftTimeoutExpiry h s)) s)

end Sys2Proof.Machine
end

