-- ==== Sys2Proof/Machine/LinkOps.lean ====
section
/-! DEFINITION. The link units: frames and their check (R176), the taking of a request and its reply (R177), and the
receiver's reading of a byte stream. -/

namespace Sys2Proof.Machine

/-! ### The check (R176) -/

/-- One bit of CRC-16 with polynomial x^16 + x^12 + x^5 + 1, most significant bit first. -/
def crcBit (c : BitVec 16) : BitVec 16 := if c.msb then (c <<< 1) ^^^ 0x1021#16 else c <<< 1

/-- One byte of the check. -/
def crcByte (c : BitVec 16) (b : Byte) : BitVec 16 :=
  crcBit (crcBit (crcBit (crcBit (crcBit (crcBit (crcBit (crcBit (c ^^^ (b.zeroExtend 16 <<< 8)))))))))

/-- CRC-16 of a run of bytes, initial value 0xFFFF, not inverted at the end (R176). -/
def crc16 (bytes : List Byte) : BitVec 16 := bytes.foldl crcByte 0xFFFF#16

/-- The check of a frame: over the length, the kind and the body, in that order (R176). -/
def frameCheck (kind : Byte) (body : List Byte) : BitVec 16 := crc16 (be2 body.length ++ kind :: body)

/-- The start byte (Table 10-4). -/
def startByte : Byte := 0xA5#8

/-- A frame's bytes (Table 10-4). -/
def frameBytes (kind : Byte) (body : List Byte) : List Byte :=
  startByte :: (be2 body.length ++ kind :: body ++ be2 (frameCheck kind body).toNat)

/-- The kind byte of a notice (R180). -/
def noticeKind : Byte := 0x7F#8

/-- The bytes the transmitter sends for a frame in transmission (R176: "Frames the part sends are built in the same
way"; R180). -/
def TxFrame.bytes : TxFrame → List Byte
  | .reply f => frameBytes f.kind f.body
  | .notice e => frameBytes noticeKind (be1 e.num)

/-- The byte on an idle line (R174). -/
def idleFill : Byte := 0xFF#8

/-- The bytes the transmitter puts on the line: the frame in transmission, or the idle fill, repeated, with none (R174,
R176). A DOWN link's line is idle (R175). -/
def LinkUnit.lineBytes (u : LinkUnit) : List Byte :=
  match u.sending with
  | some f => f.bytes
  | none => [idleFill]

/-- What the receiver of link `l` makes of a stream of bytes: it hunts for the start byte, refuses an impossible
length at once and hunts on at the next byte, and hands over each whole frame (R176). `fuel` bounds the bytes read. -/
def receiveFrom (l : LinkId) : Nat → List Byte → List Instr
  | 0, _ => []
  | fuel + 1, bytes =>
    match bytes with
    | [] => []
    | b :: rest =>
      if b ≠ startByte then receiveFrom l fuel rest
      else
        match rest with
        | n1 :: n0 :: more =>
          let n := n1.toNat * 256 + n0.toNat
          if Config.maxBody < n then .bodyLengthImpossible l :: receiveFrom l fuel more
          else
            match more with
            | kind :: after =>
              match after.drop n with
              | c1 :: c0 :: next =>
                .frameReceived l kind (after.take n) (c1 ++ c0) :: receiveFrom l fuel next
              | _ => []
            | [] => []
        | _ => []

/-- The commands a stream of bytes on link `l` brings (R176). -/
def receive (l : LinkId) (bytes : List Byte) : List Instr := receiveFrom l bytes.length bytes

/-! ### Requests and replies (R177, R178) -/

/-- A custody holder's byte (Tables 10-7, 10-10): its link number, 255 for NONE. -/
def holderByte : Option LinkId → Nat
  | some l => l.num
  | none => 255

/-- The part that every reply of a kind carries after its result, whatever the result (Table 10-10). -/
def everyReply (k : ReqKind) (s : State) : List Byte :=
  match k with
  | .claimCustody => be1 (holderByte s.custody)
  | .releaseCustody => be1 (holderByte s.custody)
  | .passCustody => be1 (holderByte s.custody)
  | .seizeCustody => be1 (holderByte s.custody)
  | .setStallLimit => be2 s.sup.limit
  | _ => []

/-- The kind byte of a reply: the request's with the top bit set (R177). -/
def replyKind (kind : Byte) : Byte := kind ||| 0x80#8

/-- A reply formed for link `l`, waiting for the transmitter (R177, R180). -/
def reply (l : LinkId) (kind : Byte) (body : List Byte) (s : State) : State :=
  s.modLink l fun u => { u with waitingReply := some ⟨replyKind kind, body⟩ }

/-- A request frame that has arrived intact on link `l`: not taken in master reset (R184) or on a DOWN link (R175), an
overrun while a reply is pending (R177, step 1), and otherwise taken and answered by `f` (R177, steps 2 to 5). -/
def takeRequest (l : LinkId) (f : State → State) (s : State) : State :=
  if s.inMasterReset || !(s.links.get l).up then s
  else if (s.links.get l).replyPending then transmitAll (postTo l .linkError s)
  else transmitAll (f (s.modLink l fun u => { u with replyPending := true }))

/-- A taken request of kind `k` answered: NOT_PERMITTED from a link that may not send it, and the owning block's answer
otherwise (R177, steps 4 and 5; R178). -/
def answer (l : LinkId) (k : ReqKind) (f : State → State × Answer) (s : State) : State :=
  let x := if k.permitted l then f s else (s, Result.plain .notPermitted)
  reply l k.code (x.2.result.bytes ++ everyReply k x.1 ++ x.2.tail) x.1

/-- A request of kind `k` from link `l`, owned by the block whose checks and effect are `f`. -/
def serve (l : LinkId) (k : ReqKind) (f : State → State × Answer) (s : State) : State :=
  takeRequest l (answer l k f) s

/-! ### Shapes of answers -/

/-- A refusal: nothing changes. -/
def refuse (r : Result) (s : State) : State × Answer := (s, r.plain)

/-- An accepted request answered DONE. -/
def accept (s : State) : State × Answer := (s, Result.plain .done)

/-- An accepted request that can move heads or the engine: supervision follows in the same step (R150). -/
def acceptMoving (s : State) : State × Answer := accept (supervise s)

end Sys2Proof.Machine
end

