-- ==== Sys2Proof/Machine/Custody.lean ====
section
/-! DEFINITION. The custody unit's requests (R165 to R168). The holder after the request follows the result in every
reply (everyReply). -/

namespace Sys2Proof.Machine

/-- CLAIM_CUSTODY (R165). -/
def claimCustody (l : LinkId) (s : State) : State × Answer :=
  match s.custody with
  | none => accept (postTo l .custodyGranted (s.withCustody (some l)))
  | some k => if k = l then accept s else refuse .custodyHeld s

/-- RELEASE_CUSTODY (R166). -/
def releaseCustody (l : LinkId) (s : State) : State × Answer :=
  if s.custody = some l then accept (s.withCustody none) else refuse .noCustody s

/-- PASS_CUSTODY's checks and effect (R167). -/
def passCustody (l : LinkId) (target : Option Nat) (s : State) : State × Answer :=
  if s.custody ≠ some l then refuse .noCustody s
  else
    match target.bind LinkId.ofNum with
    | none => refuse (.badField 0) s
    | some t =>
      if t = l then accept s
      else if !(s.links.get t).up then refuse .linkDown s
      else accept (postTo l .custodyLost (postTo t .custodyGranted (s.withCustody (some t))))

/-- SEIZE_CUSTODY from the machine link (R168). -/
def seizeCustody (s : State) : State × Answer :=
  match s.custody with
  | none => accept (postTo .machine .custodyGranted (s.withCustody (some .machine)))
  | some .machine => accept s
  | some k => accept (postTo .machine .custodyGranted (postTo k .custodyLost (s.withCustody (some .machine))))

/-! ### The commands -/

/-- CLAIM_CUSTODY (R165). -/
def execClaimCustody (l : LinkId) (s : State) : Host.Outcome State Fault Refusal :=
  .next (serve l .claimCustody (claimCustody l) s)

/-- RELEASE_CUSTODY (R166). -/
def execReleaseCustody (l : LinkId) (s : State) : Host.Outcome State Fault Refusal :=
  .next (serve l .releaseCustody (releaseCustody l) s)

/-- PASS_CUSTODY (R167). -/
def execPassCustody (l : LinkId) (target : Byte) (s : State) : Host.Outcome State Fault Refusal :=
  .next (serve l .passCustody (passCustody l (some target.toNat)) s)

/-- SEIZE_CUSTODY (R168). -/
def execSeizeCustody (l : LinkId) (s : State) : Host.Outcome State Fault Refusal :=
  .next (serve l .seizeCustody seizeCustody s)

end Sys2Proof.Machine
end

