-- ==== Sys2Proof/Machine/BandControl.lean ====
section
/-! DEFINITION. The machine link's requests to the band engine, the motion supervisor's limit and the clearing of a
head fault (Table 7-2; R70, R125 to R129, R139 to R141, R154). -/

namespace Sys2Proof.Machine

/-- MOUNT_CYLINDER's checks and effect (R125). -/
def mountCylinder (form job separation : Option Nat) (s : State) : State × Answer :=
  if s.engine.state ≠ .idle then refuse .busy s
  else
    match form with
    | some 0 => accept (s.modEngine fun g => { g with mounted := none })
    | some 1 =>
      match job, separation with
      | none, _ => refuse (.badField 1) s
      | some _, none => refuse (.badField 2) s
      | some j, some p =>
        if 15 < p then refuse (.badField 2) s
        else accept (s.modEngine fun g => { g with mounted := some ⟨j, p⟩ })
    | _ => refuse (.badField 0) s

/-- A slot number, 0 to 63. -/
def slotOf (v : Option Nat) : Option (Fin 64) :=
  match v with
  | some n => if h : n < 64 then some ⟨n, h⟩ else none
  | none => none

/-- ARM_BAND's checks from the third on, for slot `i` (R126, checks 6 to 11). -/
def armChecked (i : Fin 64) (restart : Bool) (s : State) : State × Answer :=
  match s.jobs[i].desc with
  | none => refuse .emptySlot s
  | some d =>
    if s.engine.mounted ≠ some d.cylinder then refuse .wrongCylinder s
    else if !s.headsAvailable d then refuse .headUnavailable s
    else if !s.curvesSet d then refuse .curveUnset s
    else if !restart && s.jobs[i].record.phase == .complete then refuse .bandComplete s
    else acceptMoving (armSlot i d restart s)

/-- ARM_BAND's checks and effect (R126); the first check is the link's (R178). -/
def armBand (l : LinkId) (slot restart : Option Nat) (s : State) : State × Answer :=
  if s.custody ≠ some l then refuse .noCustody s
  else if s.engine.state ≠ .idle then refuse .busy s
  else
    match slotOf slot, restart.bind yesNo with
    | none, _ => refuse (.badField 0) s
    | some _, none => refuse (.badField 1) s
    | some i, some r => armChecked i r s

/-- DISARM's check and effect (R127). -/
def disarm (s : State) : State × Answer :=
  if s.engine.state ≠ .armed then refuse .notArmed s else acceptMoving (disarmBand s)

/-- START_BAND's checks and effect (R128). -/
def startBand (s : State) : State × Answer :=
  if s.engine.state ≠ .armed then refuse .notArmed s
  else if s.cutAbortTaken then refuse .abortAsserted s
  else acceptMoving (enterPreparing false (awaitIndex s))

/-- PAUSE_BAND's check and effect (R139). -/
def pauseBand (s : State) : State × Answer :=
  if s.engine.state = .preparing then accept (s.modEngine fun g => { g with pause := true })
  else if s.engine.state = .cutting then
    if s.engine.pause then accept s
    else if s.engine.revPos = some .cut ∨ s.engine.target.isSome then
      accept (s.modEngine fun g => { g with pause := true })
    else acceptMoving (enterHeld .pauseRequest s)
  else refuse .busy s

/-- RESUME_BAND's checks and effect (R141). -/
def resumeBand (s : State) : State × Answer :=
  if s.engine.state ≠ .held then refuse .notHeld s
  else if s.cutAbortTaken then refuse .abortAsserted s
  else acceptMoving (enterPreparing false s)

/-- A stop at seam with cause `c`: set in position CUT unless it is SET already, taken at once elsewhere (R140,
R146). -/
def stopAtSeamWith (c : StopCause) (s : State) : State :=
  if s.ringBeingCut then
    s.modEngine fun g => { g with stopAtSeam := some (g.stopAtSeam.getD c) }
  else stopBand c s

/-- STOP_AT_SEAM's check and effect (R140). -/
def stopAtSeam (s : State) : State × Answer :=
  if s.engine.state.abortable then acceptMoving (stopAtSeamWith .operatorStop s) else refuse .busy s

/-- STOP_AT_ONCE's check and effect (R140). -/
def stopAtOnce (s : State) : State × Answer :=
  if s.engine.state.abortable then acceptMoving (abort .operatorAbort none s) else refuse .busy s

/-- ACK_END's check and effect (R129). -/
def ackEnd (s : State) : State × Answer :=
  if s.engine.state ≠ .ended then refuse .notEnded s
  else accept (s.modEngine fun g => { g with state := .idle, slot := none, ring := none })

/-- The stall limit clamped to 5 to 2,000 ms (R154). -/
def clampLimit (ms : Nat) : Nat := max 5 (min 2000 ms)

/-- SET_STALL_LIMIT's effect: the running counter is compared with the new thresholds at once (R154). The limit in
force follows the result in every reply (everyReply). -/
def setStallLimit (ms : Option Nat) (s : State) : State × Answer :=
  match ms with
  | none => refuse (.badField 0) s
  | some v =>
    let r := Result.plain (if clampLimit v = v then .done else .adjusted)
    if clampLimit v = v ∧ v = s.sup.limit then (s, r)
    else (supervise (checkStall (checkWarn (s.modSup fun u => { u with limit := clampLimit v }))), r)

/-- CLEAR_HEAD_FAULT's checks and effect (R70). -/
def clearHeadFault (head : Option Nat) (s : State) : State × Answer :=
  match head.bind HeadId.ofNum with
  | none => refuse (.badField 0) s
  | some h =>
    if (s.heads.get h).state ≠ .faulted then accept s
    else if (s.heads.get h).ampFault then refuse .faultPresent s
    else acceptMoving (headMoved h (s.modHead h (HeadUnit.clear s.now (s.params h))))

/-! ### The commands -/

/-- MOUNT_CYLINDER (R125). -/
def execMountCylinder (l : LinkId) (form : Byte) (job : BitVec 32) (separation : Byte) (s : State) :
    Host.Outcome State Fault Refusal :=
  .next (serve l .mountCylinder (mountCylinder (some form.toNat) (some job.toNat) (some separation.toNat)) s)

/-- ARM_BAND (R126). -/
def execArmBand (l : LinkId) (slot restart : Byte) (s : State) : Host.Outcome State Fault Refusal :=
  .next (serve l .armBand (armBand l (some slot.toNat) (some restart.toNat)) s)

/-- DISARM (R127). -/
def execDisarm (l : LinkId) (s : State) : Host.Outcome State Fault Refusal := .next (serve l .disarm disarm s)

/-- START_BAND (R128). -/
def execStartBand (l : LinkId) (s : State) : Host.Outcome State Fault Refusal := .next (serve l .startBand startBand s)

/-- PAUSE_BAND (R139). -/
def execPauseBand (l : LinkId) (s : State) : Host.Outcome State Fault Refusal := .next (serve l .pauseBand pauseBand s)

/-- RESUME_BAND (R141). -/
def execResumeBand (l : LinkId) (s : State) : Host.Outcome State Fault Refusal :=
  .next (serve l .resumeBand resumeBand s)

/-- STOP_AT_SEAM (R140). -/
def execStopAtSeam (l : LinkId) (s : State) : Host.Outcome State Fault Refusal :=
  .next (serve l .stopAtSeam stopAtSeam s)

/-- STOP_AT_ONCE (R140). -/
def execStopAtOnce (l : LinkId) (s : State) : Host.Outcome State Fault Refusal :=
  .next (serve l .stopAtOnce stopAtOnce s)

/-- ACK_END (R129). -/
def execAckEnd (l : LinkId) (s : State) : Host.Outcome State Fault Refusal := .next (serve l .ackEnd ackEnd s)

/-- SET_STALL_LIMIT (R154). -/
def execSetStallLimit (l : LinkId) (ms : BitVec 16) (s : State) : Host.Outcome State Fault Refusal :=
  .next (serve l .setStallLimit (setStallLimit (some ms.toNat)) s)

/-- CLEAR_HEAD_FAULT (R70). -/
def execClearHeadFault (l : LinkId) (head : Byte) (s : State) : Host.Outcome State Fault Refusal :=
  .next (serve l .clearHeadFault (clearHeadFault (some head.toNat)) s)

end Sys2Proof.Machine
end

