-- ==== Sys2Proof/Machine/JobTable.lean ====
section
/-! DEFINITION. The job table's writes and clears: the field scan of a descriptor (R79, R83) and the two requests (R82,
R84, R85). -/

namespace Sys2Proof.Machine

/-- The fields of a WRITE_DESCRIPTOR as its body gives them: a field that the body ends before is none (R177). -/
structure RawDescriptor where
  kind : Option Nat
  job : Option Nat
  separation : Option Nat
  headSet : Option Nat
  x0 : Option Nat
  pitch : Option Nat
  nr : Option Nat
  nc : Option Nat
  cut : Option Nat
  stagger : Option Nat
  curves : PerHead (Option Nat)
  policy : Option Nat
  texp : Option Nat
  speedTol : Option Nat
  posTol : Option Nat
  starve : Option Nat
  nextSlot : Option Nat
  patchCount : Option Nat
  patches : List (Option Nat × Option Nat)
deriving DecidableEq, Repr

/-- The first `n` entries of a patch list, an entry that is not there read as none (R80). -/
def patchEntries {α : Type} (n : Nat) (tone length : α → Nat) (ps : List α) : List (Option Nat × Option Nat) :=
  (List.range n).map fun i => ((ps[i]?).map tone, (ps[i]?).map length)

/-- The fields of a body given field by field. -/
def rawOfFields (d : DescriptorBody) : RawDescriptor where
  kind := some d.kind.toNat
  job := some d.job.toNat
  separation := some d.separation.toNat
  headSet := some d.headSet.toNat
  x0 := some d.x0.toNat
  pitch := some d.pitch.toNat
  nr := some d.nr.toNat
  nc := some d.nc.toNat
  cut := some d.cut.toNat
  stagger := some d.stagger.toNat
  curves := d.curves.mapH fun _ c => some c.toNat
  policy := some d.policy.toNat
  texp := some d.texp.toNat
  speedTol := some d.speedTol.toNat
  posTol := some d.posTol.toNat
  starve := some d.starve.toNat
  nextSlot := some d.nextSlot.toNat
  patchCount := some d.patchCount.toNat
  patches := patchEntries d.patchCount.toNat (fun p => p.1.toNat) (fun p => p.2.toNat) d.patches

/-- The fields of a body given in bytes (Table 10-5). -/
def rawOfBytes (b : List Byte) : RawDescriptor where
  kind := u8 b 1
  job := u32 b 2
  separation := u8 b 6
  headSet := u8 b 7
  x0 := u32 b 8
  pitch := u16 b 12
  nr := u16 b 14
  nc := u16 b 16
  cut := u16 b 18
  stagger := u8 b 20
  curves := ⟨u8 b 21, u8 b 22, u8 b 23, u8 b 24⟩
  policy := u8 b 25
  texp := u16 b 26
  speedTol := u8 b 28
  posTol := u16 b 29
  starve := u8 b 31
  nextSlot := u8 b 32
  patchCount := u8 b 33
  patches := (List.range ((u8 b 33).getD 0)).map fun n => (u8 b (34 + 3 * n), u16 b (35 + 3 * n))

/-- A value within a closed range. -/
def inRange (lo hi : Nat) : Option Nat → Bool
  | some v => lo ≤ v && v ≤ hi
  | none => false

/-- A curve entry against the head set: a curve number for a head in the set, NONE (255) for a head outside it
(R79, R80). -/
def curveEntryOk (inSet : Bool) (v : Option Nat) : Bool := if inSet then inRange 0 15 v else v == some 255

/-- The patch entries from patch `n` on, tone before length, with the sum of the lengths before them (R83). -/
def patchChecks (cut : Nat) : Nat → Nat → List (Option Nat × Option Nat) → List (Nat × Bool)
  | _, _, [] => []
  | n, sum, p :: ps =>
    (20 + 2 * n, inRange 1 255 p.1) ::
      (21 + 2 * n, inRange 1 65519 p.2 && decide (sum + p.2.getD 0 ≤ cut)) ::
        patchChecks cut (n + 1) (sum + p.2.getD 0) ps

/-- Each field's number and whether it passes, in the order of the scan (R79, R83). -/
def RawDescriptor.checks (slot : Nat) (d : RawDescriptor) : List (Nat × Bool) :=
  let heads := (d.headSet.bind headSetOf).getD (PerHead.pure false)
  [ (1, inRange 0 2 d.kind),
    (2, inRange 0 4294967295 d.job),
    (3, inRange 0 15 d.separation),
    (4, (d.headSet.bind headSetOf).isSome),
    (5, inRange 0 40000000 d.x0),
    (6, inRange 200 5000 d.pitch),
    (7, inRange 1 65535 d.nr && decide (d.x0.getD 0 + (d.nr.getD 0 - 1) * d.pitch.getD 0 ≤ 40000000)),
    (8, inRange 1024 65535 d.nc),
    (9, inRange 1 65519 d.cut && decide (d.cut.getD 0 + 16 ≤ d.nc.getD 0)),
    (10, inRange 0 15 d.stagger),
    (11, curveEntryOk heads.h0 d.curves.h0),
    (12, curveEntryOk heads.h1 d.curves.h1),
    (13, curveEntryOk heads.h2 d.curves.h2),
    (14, curveEntryOk heads.h3 d.curves.h3),
    (15, inRange 0 1 d.policy),
    (16, inRange 50 60000 d.texp),
    (17, inRange 1 20 d.speedTol),
    (18, inRange 0 500 d.posTol),
    (19, inRange 1 255 d.starve),
    (20, (inRange 0 63 d.nextSlot || d.nextSlot == some 255) && d.nextSlot != some slot),
    (21, if d.kind = some 1 then inRange 1 16 d.patchCount else d.patchCount == some 0) ] ++
    patchChecks (d.cut.getD 0) 1 0 d.patches

/-- The first field that fails, of a list of checks in order (R45, R47, R83). -/
def firstOffence (checks : List (Nat × Bool)) : Option Nat := (checks.find? fun c => !c.2).map fun c => c.1

/-- A curve entry as the descriptor holds it: NONE for a head outside the set (R80). -/
def curveEntry (v : Option Nat) : Option (Fin 16) :=
  match v with
  | some n => if h : n < 16 then some ⟨n, h⟩ else none
  | none => none

/-- The descriptor of fields that have passed the scan (R84). -/
def RawDescriptor.build (d : RawDescriptor) : Descriptor where
  kind := (d.kind.bind BandKind.ofCode).getD .engrave
  cylinder := ⟨d.job.getD 0, d.separation.getD 0⟩
  heads := (d.headSet.bind headSetOf).getD (PerHead.pure false)
  x0 := d.x0.getD 0
  pitch := d.pitch.getD 0
  nr := d.nr.getD 0
  nc := d.nc.getD 0
  cut := d.cut.getD 0
  stagger := d.stagger.getD 0
  curves := d.curves.mapH fun _ v => curveEntry v
  policy := (d.policy.bind Policy.ofCode).getD .drop
  texp := d.texp.getD 0
  speedTol := d.speedTol.getD 0
  posTol := d.posTol.getD 0
  starve := d.starve.getD 0
  nextSlot := slotOf d.nextSlot
  patches := d.patches.map fun p => ⟨p.1.getD 0, p.2.getD 0⟩

/-- WRITE_DESCRIPTOR's checks and effect (R82, R84). -/
def writeDescriptor (l : LinkId) (slot : Option Nat) (d : RawDescriptor) (s : State) : State × Answer :=
  if s.custody ≠ some l then refuse .noCustody s
  else
    match slotOf slot with
    | none => refuse (.badField 0) s
    | some i =>
      match firstOffence (d.checks i) with
      | some f => refuse (.badField f) s
      | none =>
        if s.slotInUse i then refuse .descriptorInUse s
        else accept (s.modJob i fun _ => ⟨some d.build, StatusRecord.fresh d.build.heads⟩)

/-- CLEAR_DESCRIPTOR's checks and effect (R85). -/
def clearDescriptor (l : LinkId) (slot : Option Nat) (s : State) : State × Answer :=
  if s.custody ≠ some l then refuse .noCustody s
  else
    match slotOf slot with
    | none => refuse (.badField 0) s
    | some i =>
      if s.slotInUse i then refuse .descriptorInUse s
      else accept (s.modJob i fun _ => JobSlot.empty)

/-! ### The commands -/

/-- WRITE_DESCRIPTOR (R84). -/
def execWriteDescriptor (l : LinkId) (slot : Byte) (d : DescriptorBody) (s : State) :
    Host.Outcome State Fault Refusal :=
  .next (serve l .writeDescriptor (writeDescriptor l (some slot.toNat) (rawOfFields d)) s)

/-- CLEAR_DESCRIPTOR (R85). -/
def execClearDescriptor (l : LinkId) (slot : Byte) (s : State) : Host.Outcome State Fault Refusal :=
  .next (serve l .clearDescriptor (clearDescriptor l (some slot.toNat)) s)

end Sys2Proof.Machine
end

