-- ==== Sys2Proof/Machine/Calibration.lean ====
section
/-! DEFINITION. The calibration store's writes (R45 to R50) and the stylus count (R71). -/

namespace Sys2Proof.Machine

/-! ### Curves -/

/-- Whether knot `n` offends: missing, above 600, or less than the knot before it (R45). -/
def knotOffends (k : Vector (Option Nat) 17) (n : Nat) : Bool :=
  match (k[n]?).getD none with
  | none => true
  | some v => Config.maxDepth < v || (0 < n && decide (v < ((k[n - 1]?).getD none).getD 0))

/-- The first offending knot, from K0 upward (R45). -/
def firstBadKnot (k : Vector (Option Nat) 17) : Option Nat := (List.range 17).find? (knotOffends k)

/-- The disposition's byte: APPLIED 0, STAGED 1 (Table 10-10). -/
def dispositionByte (staged : Bool) : List Byte := be1 (bit staged)

/-- A curve number, 0 to 15. -/
def curveOf (v : Option Nat) : Option (Fin 16) := curveEntry v

/-- A written curve applied, or staged while the curve is in use (R46). -/
def CurveCopies.write (inUse : Bool) (k : Curve) (c : CurveCopies) : CurveCopies :=
  if inUse then { c with pending := some k } else ⟨some k, none⟩

/-- WRITE_CURVE's checks and effect (R45, R46). -/
def writeCurve (l : LinkId) (curve : Option Nat) (k : Vector (Option Nat) 17) (s : State) : State × Answer :=
  if s.custody ≠ some l then refuse .noCustody s
  else
    match curveOf curve with
    | none => refuse (.badField 0) s
    | some c =>
      match firstBadKnot k with
      | some n => refuse (.badField (n + 1)) s
      | none =>
        let used := s.curveInUse c
        let t := s.store.curves.set c (s.store.curves[c].write used (k.map fun v => v.getD 0))
        (s.withStore { s.store with curves := t }, ⟨.done, dispositionByte used⟩)

/-! ### Head parameter sets -/

/-- The fields of a WRITE_HEAD_PARAMS as its body gives them (R177). -/
structure RawParams where
  fitted : Option Nat
  gain : Option Nat
  bias : Option Nat
  dmin : Option Nat
  wearRate : Option Nat
  wearCap : Option Nat
  lowerMs : Option Nat
  liftMs : Option Nat
deriving DecidableEq, Repr

/-- The fields of a body given field by field. -/
def paramsOfFields (p : ParamsBody) : RawParams where
  fitted := some p.fitted.toNat
  gain := some p.gain.toNat
  bias := some p.bias.toNat
  dmin := some p.dmin.toNat
  wearRate := some p.wearRate.toNat
  wearCap := some p.wearCap.toNat
  lowerMs := some p.lowerMs.toNat
  liftMs := some p.liftMs.toNat

/-- The fields of a body given in bytes (Table 10-9). -/
def paramsOfBytes (b : List Byte) : RawParams where
  fitted := u8 b 1
  gain := u16 b 2
  bias := u16 b 4
  dmin := u8 b 6
  wearRate := u8 b 7
  wearCap := u8 b 8
  lowerMs := u16 b 9
  liftMs := u16 b 11

/-- The bias lies in −512 to 511 (Table 3-2). -/
def biasOk : Option Nat → Bool
  | some v => decide (-512 ≤ signed16 v) && decide (signed16 v ≤ 511)
  | none => false

/-- Each field's number and whether it passes, in field order (R47, Table 3-2). -/
def RawParams.checks (p : RawParams) : List (Nat × Bool) :=
  [ (1, inRange 0 1 p.fitted),
    (2, inRange 64 1023 p.gain),
    (3, biasOk p.bias),
    (4, inRange 0 200 p.dmin),
    (5, inRange 0 255 p.wearRate),
    (6, inRange 0 100 p.wearCap),
    (7, inRange 10 500 p.lowerMs),
    (8, inRange 10 500 p.liftMs) ]

/-- The parameter set of fields that have passed their checks (R49). -/
def RawParams.build (p : RawParams) : HeadParams where
  fitted := p.fitted == some 1
  gain := p.gain.getD 0
  bias := signed16 (p.bias.getD 0)
  dmin := p.dmin.getD 0
  wearRate := p.wearRate.getD 0
  wearCap := p.wearCap.getD 0
  lowerMs := p.lowerMs.getD 0
  liftMs := p.liftMs.getD 0

/-- What an applied change of the fitted flag hands to the head controller (R50, R59, R60). A head being fitted is not
in use, so its fault is posted and not reported (R59). -/
def applyFitting (h : HeadId) (before after : HeadParams) (s : State) : State :=
  match before.fitted, after.fitted with
  | false, true =>
    let t := s.modHead h (HeadUnit.fit s.now after)
    if (s.heads.get h).ampFault then postAll .headFault t else t
  | true, false => s.modHead h HeadUnit.unfit
  | false, false => s
  | true, true => s

/-- An accepted parameter set applied, or staged while the head is in use (R49, R50). -/
def storeParams (h : HeadId) (p : HeadParams) (s : State) : State :=
  let c := s.store.params.get h
  if s.headInUse h then s.withStore { s.store with params := s.store.params.set h { c with pending := some p } }
  else applyFitting h c.active p (s.withStore { s.store with params := s.store.params.set h ⟨p, none⟩ })

/-- WRITE_HEAD_PARAMS' checks and effect (R47, R48, R49). -/
def writeHeadParams (l : LinkId) (head : Option Nat) (p : RawParams) (s : State) : State × Answer :=
  if s.custody ≠ some l then refuse .noCustody s
  else
    match head.bind HeadId.ofNum with
    | none => refuse (.badField 0) s
    | some h =>
      match firstOffence p.checks with
      | some f => refuse (.badField f) s
      | none =>
        if !p.build.fitted && s.headInUse h then refuse .headInUse s
        else (storeParams h p.build s, ⟨.done, dispositionByte (s.headInUse h)⟩)

/-! ### The stylus count -/

/-- SET_STYLUS_COUNT's checks and effect (R71). -/
def setStylusCount (l : LinkId) (head count : Option Nat) (s : State) : State × Answer :=
  if s.custody ≠ some l then refuse .noCustody s
  else
    match head.bind HeadId.ofNum, count with
    | none, _ => refuse (.badField 0) s
    | some _, none => refuse (.badField 1) s
    | some h, some n =>
      if s.headInUse h then refuse .headInUse s
      else accept (s.modHead h fun u => { u with stylus := n })

/-! ### The commands -/

/-- WRITE_CURVE (R46). -/
def execWriteCurve (l : LinkId) (curve : Byte) (knots : Vector (BitVec 16) 17) (s : State) :
    Host.Outcome State Fault Refusal :=
  .next (serve l .writeCurve (writeCurve l (some curve.toNat) (knots.map fun k => some k.toNat)) s)

/-- WRITE_HEAD_PARAMS (R49). -/
def execWriteHeadParams (l : LinkId) (head : Byte) (p : ParamsBody) (s : State) : Host.Outcome State Fault Refusal :=
  .next (serve l .writeHeadParams (writeHeadParams l (some head.toNat) (paramsOfFields p)) s)

/-- SET_STYLUS_COUNT (R71). -/
def execSetStylusCount (l : LinkId) (head : Byte) (count : BitVec 32) (s : State) :
    Host.Outcome State Fault Refusal :=
  .next (serve l .setStylusCount (setStylusCount l (some head.toNat) (some count.toNat)) s)

end Sys2Proof.Machine
end

