-- ==== Sys2Proof/Machine/RingData.lean ====
section
/-! DEFINITION. The prepress link's ring data: RING_SEGMENT (R104 to R106), RING_CLOSE (R108, R109) and DISCARD_RINGS
(R115). -/

namespace Sys2Proof.Machine

/-- A next-fill ring's three bytes: 16,777,215 for none (Tables 10-7, 10-10). -/
def ringByte3 : Option Nat → List Byte
  | some n => be3 n
  | none => be3 16777215

/-- The staging position of a head: its next-fill ring, and the tones received of its FILLING slot (R106, Table
10-10). -/
def stagingPosition (h : HeadId) (s : State) : List Byte :=
  let t := s.staging.heads.get h
  ringByte3 t.nf ++ be2 (t.fillingCount.getD 0)

/-- The current band's descriptor if head `h` takes ring data: the engine ARMED, PREPARING, CUTTING or HELD, the band
no TEST_CUT, the head in its set (R104, check 4). -/
def State.ringBand (s : State) (h : HeadId) : Option Descriptor :=
  if s.engine.state = .ending then none
  else
    match s.band with
    | some d => if d.kind ≠ .testCut ∧ d.heads.get h then some d else none
    | none => none

/-- Head `h`'s staging changed by `f`. -/
def modStaging (h : HeadId) (f : HeadStaging → HeadStaging) (s : State) : State :=
  s.withStaging { s.staging with heads := s.staging.heads.set h (f (s.staging.heads.get h)) }

/-- The place of a segment in a head's slots (R104, checks 7 to 9): none where it is accepted. -/
def segmentRefusal (t : HeadStaging) (offset count cut : Nat) : Option Result :=
  match t.fillingCount with
  | some n =>
    if offset ≠ n then some .segmentGap
    else if cut < offset + count then some .lengthMismatch
    else none
  | none =>
    if !t.anySlot RingSlot.isEmpty then some .slotsFull
    else if offset ≠ 0 then some .segmentGap
    else if cut < offset + count then some .lengthMismatch
    else none

/-- The tones of an accepted segment stored in the head's FILLING slot, or in a new one (R105). -/
def HeadStaging.storeTones (ring : Nat) (tones : List Byte) (t : HeadStaging) : HeadStaging :=
  match t.fillingCount with
  | some _ => t.mapSlots (RingSlot.store tones)
  | none => t.beginRing ring tones

/-- A result with the head's staging position after it (R106). -/
def withPosition (h : HeadId) (r : Result) (s : State) : State × Answer := (s, ⟨r, stagingPosition h s⟩)

/-- RING_SEGMENT's checks from the third on and its effect, for head `h` (R104, R105). -/
def segmentFor (h : HeadId) (ring offset : Option Nat) (tones : List Byte) (s : State) : State × Answer :=
  match ring, offset with
  | none, _ => withPosition h (.badField 1) s
  | some _, none => withPosition h (.badField 2) s
  | some r, some o =>
    if tones.length = 0 ∨ 1024 < tones.length then withPosition h (.badField 3) s
    else
      match s.ringBand h with
      | none => withPosition h .notInBand s
      | some d =>
        if d.nr ≤ r then withPosition h (.badField 1) s
        else if (s.staging.heads.get h).nf ≠ some r then withPosition h .ringOutOfOrder s
        else
          match segmentRefusal (s.staging.heads.get h) o tones.length d.cut with
          | some e => withPosition h e s
          | none => withPosition h .done (modStaging h (HeadStaging.storeTones r tones) s)

/-- RING_SEGMENT's checks and effect (R104, R105). -/
def ringSegment (head ring offset : Option Nat) (tones : List Byte) (s : State) : State × Answer :=
  match head.bind HeadId.ofNum with
  | none => refuse (.badField 0) s
  | some h => segmentFor h ring offset tones s

/-- The ring number and running check of a FILLING slot. -/
def RingSlot.fillingOf : RingSlot → Option (Nat × Nat × Nat)
  | .filling r t c => some (r, t.length, c)
  | _ => none

/-- A head's FILLING slot: its ring number, its tones received and its running check. -/
def HeadStaging.fillingOf (t : HeadStaging) : Option (Nat × Nat × Nat) := t.slotA.fillingOf <|> t.slotB.fillingOf

/-- RING_CLOSE's checks from the third on and its effect, for head `h` (R108, R109). -/
def closeFor (h : HeadId) (ring check mark : Option Nat) (s : State) : State × Answer :=
  match ring, check, mark.bind yesNo with
  | none, _, _ => withPosition h (.badField 1) s
  | some _, none, _ => withPosition h (.badField 2) s
  | some _, some _, none => withPosition h (.badField 3) s
  | some r, some c, some m =>
    match s.ringBand h with
    | none => withPosition h .notInBand s
    | some d =>
      if d.nr ≤ r then withPosition h (.badField 1) s
      else
        match (s.staging.heads.get h).fillingOf with
        | none => withPosition h .ringOutOfOrder s
        | some (fr, received, running) =>
          if fr ≠ r then withPosition h .ringOutOfOrder s
          else if received ≠ d.cut then
            withPosition h .lengthMismatch (modStaging h (HeadStaging.mapSlots RingSlot.dropFilling) s)
          else if c ≠ running then
            withPosition h .ringCheckFailed (modStaging h (HeadStaging.mapSlots RingSlot.dropFilling) s)
          else
            withPosition h .done
              (modStaging h (fun t => { t.mapSlots (RingSlot.close m) with nf := t.nf.map fun n => n + 1 }) s)

/-- RING_CLOSE's checks and effect (R108, R109). -/
def ringClose (head ring check mark : Option Nat) (s : State) : State × Answer :=
  match head.bind HeadId.ofNum with
  | none => refuse (.badField 0) s
  | some h => closeFor h ring check mark s

/-- A discard: FILLING and READY slots emptied, the next-fill ring set anew (R115). -/
def HeadStaging.discard (nextRing : Nat) (t : HeadStaging) : HeadStaging :=
  { t.mapSlots RingSlot.discard with
    nf := match t.cuttingRing with
      | some r => some (r + 1)
      | none => some nextRing }

/-- DISCARD_RINGS' checks and effect (R115). -/
def discardRings (head : Option Nat) (s : State) : State × Answer :=
  match head.bind HeadId.ofNum with
  | none => refuse (.badField 0) s
  | some h =>
    match s.ringBand h with
    | none => withPosition h .notInBand s
    | some _ => withPosition h .done (modStaging h (HeadStaging.discard s.nextRing) s)

/-! ### The commands -/

/-- RING_SEGMENT (R105). -/
def execRingSegment (l : LinkId) (head : Byte) (ring offset : BitVec 16) (tones : List Byte) (s : State) :
    Host.Outcome State Fault Refusal :=
  .next (serve l .ringSegment (ringSegment (some head.toNat) (some ring.toNat) (some offset.toNat) tones) s)

/-- RING_CLOSE (R109). -/
def execRingClose (l : LinkId) (head : Byte) (ring check : BitVec 16) (stopMark : Byte) (s : State) :
    Host.Outcome State Fault Refusal :=
  .next (serve l .ringClose
    (ringClose (some head.toNat) (some ring.toNat) (some check.toNat) (some stopMark.toNat)) s)

/-- DISCARD_RINGS (R115). -/
def execDiscardRings (l : LinkId) (head : Byte) (s : State) : Host.Outcome State Fault Refusal :=
  .next (serve l .discardRings (discardRings (some head.toNat)) s)

end Sys2Proof.Machine
end

