-- ==== Sys2Proof/Machine/Reads.lean ====
section
/-! DEFINITION. The reads (R55, R56, R75, R97, R98, R122, R149, R183) and the reply bodies that carry the state
(Tables 10-5, 10-6, 10-7, 10-10). A read changes no state but its link's reply. -/

namespace Sys2Proof.Machine

/-! ### Reply bodies -/

/-- An optional value's byte: 255 where it is absent. -/
def optByte : Option Nat → List Byte
  | some n => be1 n
  | none => be1 255

/-- A descriptor's bytes from offset 1 of Table 10-5 on. -/
def Descriptor.bytes (d : Descriptor) : List Byte :=
  be1 d.kind.code ++ be4 d.cylinder.job ++ be1 d.cylinder.separation ++ be1 (headSetByte d.heads) ++ be4 d.x0 ++
    be2 d.pitch ++ be2 d.nr ++ be2 d.nc ++ be2 d.cut ++ be1 d.stagger ++
    (HeadId.all.flatMap fun h => optByte ((d.curves.get h).map fun c => c.val)) ++
    be1 d.policy.code ++ be2 d.texp ++ be1 d.speedTol ++ be2 d.posTol ++ be1 d.starve ++
    optByte (d.nextSlot.map fun i => i.val) ++ be1 d.patches.length ++
    (d.patches.flatMap fun p => be1 p.tone ++ be2 p.length)

/-- The descriptor state and, when VALID, the descriptor (R97, Table 10-5). -/
def JobSlot.descriptorBytes (j : JobSlot) : List Byte :=
  match j.desc with
  | none => be1 0
  | some d => be1 1 ++ d.bytes

/-- One head's three counts (Table 10-6). -/
def HeadCounts.bytes (c : HeadCounts) : List Byte := be4 c.dropped ++ be4 c.clipHigh ++ be4 c.clipLow

/-- A status record's bytes from offset 1 of Table 10-6 on (R98). -/
def JobSlot.statusBytes (j : JobSlot) : List Byte :=
  let r := j.record
  be1 (bit j.desc.isSome) ++ be1 r.phase.code ++ optByte (r.outcome.map fun o => o.phase.code) ++
    optByte (r.cause.map EndCause.code) ++ optByte (r.faultedHead.map HeadId.num) ++ be2 r.nextRing ++
    be2 (r.partialRing.getD 65535) ++ be2 r.ringsCut ++ be4 r.idleRevs ++ be4 r.offSpeed ++ be1 (bit r.summary) ++
    be1 (match j.desc with
      | some d => headSetByte d.heads
      | none => 0) ++
    (HeadId.all.flatMap fun h =>
      match r.counts.get h with
      | some c => c.bytes
      | none => [])

/-- A curve's 17 knots (Table 10-10). -/
def curveBytes (k : Curve) : List Byte := k.toList.flatMap be2

/-- READ_CURVE's reply after its result (R55, Table 10-10). -/
def curveReply (c : Fin 16) (s : State) : List Byte :=
  let x := s.store.curves[c]
  be1 c.val ++ be1 (bit x.active.isSome) ++ be1 (bit (s.curveInUse c)) ++ be1 (bit x.pending.isSome) ++
    (x.active.map curveBytes).getD [] ++ (x.pending.map curveBytes).getD []

/-- A bias in 16-bit two's complement (Table 10-9). -/
def biasBytes (b : Int) : List Byte := be2 ((b % 65536).toNat)

/-- A parameter set's 12 bytes (Table 10-9, offsets 1 to 12). -/
def HeadParams.bytes (p : HeadParams) : List Byte :=
  be1 (bit p.fitted) ++ be2 p.gain ++ biasBytes p.bias ++ be1 p.dmin ++ be1 p.wearRate ++ be1 p.wearCap ++
    be2 p.lowerMs ++ be2 p.liftMs

/-- READ_HEAD's reply after its result (R56, R75, Table 10-10). -/
def headReply (h : HeadId) (s : State) : List Byte :=
  let u := s.heads.get h
  let c := s.store.params.get h
  be1 h.num ++ be1 (bit (s.headInUse h)) ++ be1 (bit c.pending.isSome) ++ be1 u.state.code ++
    optByte (u.cause.map HeadCause.code) ++ be1 (bit u.lowerRequest) ++ be1 (bit u.landed) ++ be1 (bit u.ampFault) ++
    be4 u.stylus ++ c.active.bytes ++ (c.pending.map HeadParams.bytes).getD []

/-- A ring slot's six bytes in READ_ENGINE: state, ring number, tones received, stop mark (Table 10-7). -/
def RingSlot.bytes (x : RingSlot) : List Byte :=
  match x with
  | .empty => be1 x.code ++ be2 65535 ++ be2 0 ++ be1 255
  | .filling r t _ => be1 x.code ++ be2 r ++ be2 t.length ++ be1 255
  | .ready r _ _ m => be1 x.code ++ be2 r ++ be2 0 ++ be1 (bit m)
  | .cutting r _ _ m => be1 x.code ++ be2 r ++ be2 0 ++ be1 (bit m)

/-- A head's block of 16 bytes in READ_ENGINE (Table 10-7). -/
def headBlock (h : HeadId) (s : State) : List Byte :=
  let t := s.staging.heads.get h
  be1 (s.heads.get h).state.code ++ t.slotA.bytes ++ t.slotB.bytes ++ ringByte3 t.nf

/-- READ_ENGINE's reply after its result (R183, Table 10-7). -/
def engineReply (s : State) : List Byte :=
  be1 s.engine.state.code ++ optByte (s.engine.slot.map fun i => i.val) ++ ringByte3 s.engine.ring ++
    optByte (s.engine.hold.map HoldReason.code) ++ be4 (s.grid.lastPeriod.getD 0) ++ be4 s.grid.position ++
    be1 (holderByte s.custody) ++ (HeadId.all.flatMap fun h => headBlock h s)

/-! ### The requests -/

/-- READ_DESCRIPTOR (R97). -/
def readDescriptor (slot : Option Nat) (s : State) : State × Answer :=
  match slotOf slot with
  | none => refuse (.badField 0) s
  | some i => (s, ⟨.done, s.jobs[i].descriptorBytes⟩)

/-- READ_BAND_STATUS (R98). -/
def readBandStatus (slot : Option Nat) (s : State) : State × Answer :=
  match slotOf slot with
  | none => refuse (.badField 0) s
  | some i => (s, ⟨.done, s.jobs[i].statusBytes⟩)

/-- READ_CURVE (R55). -/
def readCurve (curve : Option Nat) (s : State) : State × Answer :=
  match curveOf curve with
  | none => refuse (.badField 0) s
  | some c => (s, ⟨.done, curveReply c s⟩)

/-- READ_HEAD (R56, R75). -/
def readHead (head : Option Nat) (s : State) : State × Answer :=
  match head.bind HeadId.ofNum with
  | none => refuse (.badField 0) s
  | some h => (s, ⟨.done, headReply h s⟩)

/-- READ_ENGINE (R183). -/
def readEngine (s : State) : State × Answer := (s, ⟨.done, engineReply s⟩)

/-! ### The commands -/

/-- READ_DESCRIPTOR (R97). -/
def execReadDescriptor (l : LinkId) (slot : Byte) (s : State) : Host.Outcome State Fault Refusal :=
  .next (serve l .readDescriptor (readDescriptor (some slot.toNat)) s)

/-- READ_BAND_STATUS (R98). -/
def execReadBandStatus (l : LinkId) (slot : Byte) (s : State) : Host.Outcome State Fault Refusal :=
  .next (serve l .readBandStatus (readBandStatus (some slot.toNat)) s)

/-- READ_CURVE (R55). -/
def execReadCurve (l : LinkId) (curve : Byte) (s : State) : Host.Outcome State Fault Refusal :=
  .next (serve l .readCurve (readCurve (some curve.toNat)) s)

/-- READ_HEAD (R56). -/
def execReadHead (l : LinkId) (head : Byte) (s : State) : Host.Outcome State Fault Refusal :=
  .next (serve l .readHead (readHead (some head.toNat)) s)

/-- READ_ENGINE (R183). -/
def execReadEngine (l : LinkId) (s : State) : Host.Outcome State Fault Refusal :=
  .next (serve l .readEngine readEngine s)

end Sys2Proof.Machine
end

