-- ==== Sys2Proof/Machine/Notices.lean ====
section
/-! DEFINITION. The requests of a link unit's own state: its event set (R179), its notice mask (R180) and the relay
queues (R181, R182). -/

namespace Sys2Proof.Machine

/-- READ_EVENTS: the set in the reply, then emptied (R179). -/
def readEvents (l : LinkId) (s : State) : State × Answer :=
  (s.modLink l fun u => { u with events := 0#14 }, ⟨.done, be2 (s.links.get l).events.toNat⟩)

/-- A notice mask replaced; waiting notices that it disables are removed (R180). -/
def LinkUnit.setMask (m : EventSet) (u : LinkUnit) : LinkUnit :=
  { u with mask := m, notices := u.notices.filter fun e => m.has e }

/-- SET_NOTICE_MASK's check and effect (R180). -/
def setNoticeMask (l : LinkId) (mask : Option Nat) (s : State) : State × Answer :=
  match mask with
  | none => refuse (.badField 0) s
  | some m =>
    if 16384 ≤ m then refuse (.badField 0) s
    else accept (s.modLink l (LinkUnit.setMask (BitVec.ofNat 14 m)))

/-- RELAY_NOTE's checks and effect (R181). -/
def relayNote (l : LinkId) (target : Option Nat) (bytes : List Byte) (s : State) : State × Answer :=
  match target.bind LinkId.ofNum with
  | none => refuse (.badField 0) s
  | some t =>
    if bytes.length = 0 ∨ 64 < bytes.length then refuse (.badField 1) s
    else if !(s.links.get t).up then refuse .linkDown s
    else if Config.relayDepth ≤ (s.links.get t).relay.length then refuse .relayFull s
    else
      accept (postTo t .relayWaiting (s.modLink t fun u => { u with relay := u.relay ++ [⟨l, bytes⟩] }))

/-- A fetched note's part of the reply: source, notes left, byte count, bytes (Table 10-10). -/
def noteReply (n : Note) (left : Nat) : List Byte := be1 n.source.num ++ be1 left ++ be1 n.bytes.length ++ n.bytes

/-- FETCH_RELAY (R182). -/
def fetchRelay (l : LinkId) (s : State) : State × Answer :=
  match (s.links.get l).relay with
  | [] => refuse .empty s
  | n :: rest =>
    let t := s.modLink l fun u => { u with relay := rest }
    (if rest.length = 0 then t else postTo l .relayWaiting t, ⟨.done, noteReply n rest.length⟩)

/-! ### The commands -/

/-- READ_EVENTS (R179). -/
def execReadEvents (l : LinkId) (s : State) : Host.Outcome State Fault Refusal :=
  .next (serve l .readEvents (readEvents l) s)

/-- SET_NOTICE_MASK (R180). -/
def execSetNoticeMask (l : LinkId) (mask : BitVec 16) (s : State) : Host.Outcome State Fault Refusal :=
  .next (serve l .setNoticeMask (setNoticeMask l (some mask.toNat)) s)

/-- RELAY_NOTE (R181). -/
def execRelayNote (l : LinkId) (target : Byte) (bytes : List Byte) (s : State) : Host.Outcome State Fault Refusal :=
  .next (serve l .relayNote (relayNote l (some target.toNat) bytes) s)

/-- FETCH_RELAY (R182). -/
def execFetchRelay (l : LinkId) (s : State) : Host.Outcome State Fault Refusal :=
  .next (serve l .fetchRelay (fetchRelay l) s)

end Sys2Proof.Machine
end

