-- ==== Sys2Proof/Machine/Links.lean ====
section
/-! DEFINITION. The links' own events: signal loss and return (R175, R146, R171), frames received (R176, R177) and sent
(R180), and an impossible body length (R176). -/

namespace Sys2Proof.Machine

/-- The engine at the loss of the machine link (R146). -/
def machineLinkLost (s : State) : State :=
  if s.engine.state.abortable then stopAtSeamWith .linkLost s else s

/-- The custody unit at the loss of link `l` (R171). -/
def releaseOnLoss (l : LinkId) (s : State) : State := if s.custody = some l then s.withCustody none else s

/-- The signal of link `l` present or absent at its port, whatever the part takes (R175, R184). -/
def setSignal (l : LinkId) (on : Bool) (s : State) : State :=
  s.withPins { s.pins with signal := s.pins.signal.set l on }

/-- 100 ms pass without signal on link `l` (R175): the link unit's state is cleared, and the custody unit and, for the
machine link, the engine are told. In master reset the port's level alone follows (R184). -/
def linkSignalLoss (l : LinkId) (s : State) : State :=
  let t := setSignal l false s
  if !s.inMasterReset && (s.links.get l).up then
    let u := releaseOnLoss l (t.modLink l fun _ => LinkUnit.reset)
    settle (if l = .machine then machineLinkLost u else u)
  else t

/-- Signal is seen on link `l` (R175). In master reset the port's level alone follows, and the link comes UP at its end
(R184; log entry 16). -/
def linkUp (l : LinkId) (s : State) : State :=
  let t := setSignal l true s
  if s.inMasterReset then t else t.modLink l fun u => { u with up := true }

/-- A frame discarded by the receiver: LINK_ERROR to its link's set (R176). -/
def linkError (l : LinkId) (s : State) : State := transmitAll (postTo l .linkError s)

/-- The owning block of each request kind, reading its fields from a body (Tables 10-5, 10-8, 10-9). -/
def handler (l : LinkId) (k : ReqKind) (b : List Byte) : State → State × Answer :=
  match k with
  | .mountCylinder => mountCylinder (u8 b 0) (u32 b 1) (u8 b 5)
  | .armBand => armBand l (u8 b 0) (u8 b 1)
  | .disarm => disarm
  | .startBand => startBand
  | .pauseBand => pauseBand
  | .resumeBand => resumeBand
  | .stopAtSeam => stopAtSeam
  | .stopAtOnce => stopAtOnce
  | .ackEnd => ackEnd
  | .setStallLimit => setStallLimit (u16 b 0)
  | .clearHeadFault => clearHeadFault (u8 b 0)
  | .claimCustody => claimCustody l
  | .releaseCustody => releaseCustody l
  | .passCustody => passCustody l (u8 b 0)
  | .seizeCustody => seizeCustody
  | .writeDescriptor => writeDescriptor l (u8 b 0) (rawOfBytes b)
  | .clearDescriptor => clearDescriptor l (u8 b 0)
  | .writeCurve => writeCurve l (u8 b 0) (Vector.ofFn fun n => u16 b (1 + 2 * n.val))
  | .writeHeadParams => writeHeadParams l (u8 b 0) (paramsOfBytes b)
  | .setStylusCount => setStylusCount l (u8 b 0) (u32 b 1)
  | .readDescriptor => readDescriptor (u8 b 0)
  | .readBandStatus => readBandStatus (u8 b 0)
  | .readCurve => readCurve (u8 b 0)
  | .readHead => readHead (u8 b 0)
  | .readEngine => readEngine
  | .readEvents => readEvents l
  | .setNoticeMask => setNoticeMask l (u16 b 0)
  | .relayNote => relayNote l (u8 b 0) (b.drop 1)
  | .fetchRelay => fetchRelay l
  | .ringSegment => ringSegment (u8 b 0) (u16 b 1) (u16 b 3) (b.drop 5)
  | .ringClose => ringClose (u8 b 0) (u16 b 1) (u16 b 3) (u8 b 5)
  | .discardRings => discardRings (u8 b 0)

/-- A taken request frame: routed to its owning block, or answered UNKNOWN_KIND (R177, steps 3 to 5). -/
def route (l : LinkId) (kind : Byte) (body : List Byte) (s : State) : State :=
  match ReqKind.ofCode kind with
  | none => reply l kind Result.unknownKind.bytes s
  | some k => answer l k (handler l k body) s

/-- A frame whose last check byte has come (R176, R177). -/
def frameReceived (l : LinkId) (kind : Byte) (body : List Byte) (check : BitVec 16) (s : State) : State :=
  if Config.maxBody < body.length || check ≠ frameCheck kind body then linkError l s
  else takeRequest l (route l kind body) s

/-- The transmitter of link `l` finishes its frame (R177, R180). -/
def LinkUnit.frameSent (u : LinkUnit) : LinkUnit :=
  match u.sending with
  | some (.reply _) => LinkUnit.transmit { u with sending := none, replyPending := false }
  | some (.notice _) => LinkUnit.transmit { u with sending := none }
  | none => u

/-! ### The commands -/

/-- LINK_SIGNAL_LOSS (R175). -/
def execLinkSignalLoss (l : LinkId) (s : State) : Host.Outcome State Fault Refusal :=
  .next (linkSignalLoss l s)

/-- LINK_UP (R175). -/
def execLinkUp (l : LinkId) (s : State) : Host.Outcome State Fault Refusal := .next (linkUp l s)

/-- FRAME_RECEIVED (R177). -/
def execFrameReceived (l : LinkId) (kind : Byte) (body : List Byte) (check : BitVec 16) (s : State) :
    Host.Outcome State Fault Refusal :=
  .next (outsideReset (frameReceived l kind body check) s)

/-- FRAME_SENT (R180). -/
def execFrameSent (l : LinkId) (s : State) : Host.Outcome State Fault Refusal :=
  .next (outsideReset (fun s => s.modLink l LinkUnit.frameSent) s)

/-- BODY_LENGTH_IMPOSSIBLE (R176). -/
def execBodyLengthImpossible (l : LinkId) (s : State) : Host.Outcome State Fault Refusal :=
  .next (outsideReset (linkError l) s)

end Sys2Proof.Machine
end

