-- ==== Sys2Proof/Machine/PositionLine.lean ====
section
/-! DEFINITION. The cylinder position line: steps (R1, R2, R9, R10, R151, R155), index events (R3, R4, R8, R14, R16,
R156) and the expiry of the index timing (R15). -/

namespace Sys2Proof.Machine

/-- The position count after a step (R2). -/
def movePosition (dir : Direction) (p : Nat) : Nat :=
  match dir with
  | .forward => (p + 1) % Config.stepsPerRev
  | .reverse => (p + (Config.stepsPerRev - 1)) % Config.stepsPerRev

/-- A forward step of a RUNNING grid: the accumulator advances by Nc, and a carry is a boundary, unless the boundary
count already stands at Nc + 1 (R9, R11). -/
def gridStep (d : Descriptor) (s : State) : State :=
  let sum := s.grid.acc + d.nc
  if sum < Config.stepsPerRev then s.modGrid fun g => { g with acc := sum }
  else
    let t := s.modGrid fun g => { g with acc := sum - Config.stepsPerRev }
    if s.grid.boundaries ≤ d.nc then
      boundary s.grid.boundaries (t.modGrid fun g => { g with boundaries := g.boundaries + 1 })
    else t

/-- A forward step reaches the grid (R7, R9). -/
def forwardStep (s : State) : State :=
  match s.grid.state, s.band with
  | .running, some d => gridStep d s
  | _, _ => s

/-- A step reaches the stall counter (R151). -/
def stepStall (s : State) : State :=
  s.modSup fun u => if u.active then { u with stall := 0, warnArmed := true } else u

/-- A step event at time `atTime`: the position count, the stall counter, then the grid for a forward step and
reverse-rotation supervision for a backward one (R1, R2, R9, R10, R151, R155). -/
def stepEvent (dir : Direction) (atTime : Nat) (s : State) : State :=
  let t := stepStall ((passTimeTo atTime s).modGrid fun g => { g with position := movePosition dir g.position })
  match dir with
  | .forward => forwardStep t
  | .reverse => if s.sup.active then motionFault .reverseRotation t else t

/-- The revolution period measured at an index at time `now` (R14; log entry 2). -/
def measuredPeriod (now : Nat) : Option Nat → Option Nat
  | some t => if now - t ≤ Config.maxPeriod then some (max 1 (now - t)) else none
  | none => none

/-- The stagger of the current band (R6). -/
def State.stagger (s : State) : Nat :=
  match s.band with
  | some d => d.stagger
  | none => 0

/-- The grid accumulator's preset for ring `r` under stagger `g` (R8). -/
def presetFor (r g : Nat) : Nat := r * g % 16 * Config.presetUnit

/-- The grid at an index taken at time `now`: position, reference, period, and the preset unless it is STOPPED (R3, R8,
R14). -/
def Grid.index (now preset : Nat) (g : Grid) : Grid :=
  { position := 0
    reference := .referenced
    state := if g.state = .stopped then .stopped else .running
    acc := if g.state = .stopped then g.acc else preset
    boundaries := if g.state = .stopped then g.boundaries else 0
    lastPeriod := measuredPeriod now g.indexTime
    indexTime := some now }

/-- An index event at time `t` (R3, R4, R8, R14, R16, R156). -/
def indexEvent (t : Nat) (s : State) : State :=
  let a := passTimeTo t s
  let c := indexClass a.grid.reference a.grid.position
  let b := a.modGrid (Grid.index a.now (presetFor a.nextRing a.stagger))
  let e := if c = .slip ∧ b.ringBeingCut then postAll .motionFault b else b
  engineIndex c e

/-- The index timing expires (R15). -/
def indexTimingExpiry (s : State) : State :=
  match s.grid.indexTime with
  | some t => (passTimeTo (t + Config.maxPeriod) s).modGrid fun g => { g with lastPeriod := none, indexTime := none }
  | none => s

/-! ### The commands -/

/-- STEP_EVENT (R1). -/
def execStepEvent (dir : Direction) (atTime : Nat) (s : State) : Host.Outcome State Fault Refusal :=
  .next (outsideReset (fun s => settle (stepEvent dir atTime s)) s)

/-- INDEX_EVENT (R3). -/
def execIndexEvent (atTime : Nat) (s : State) : Host.Outcome State Fault Refusal :=
  .next (outsideReset (fun s => settle (indexEvent atTime s)) s)

/-- INDEX_TIMING_EXPIRY (R15). -/
def execIndexTimingExpiry (s : State) : Host.Outcome State Fault Refusal :=
  .next (outsideReset indexTimingExpiry s)

end Sys2Proof.Machine
end

