-- ==== Sys2Proof/Machine/ResetLines.lean ====
section
/-! DEFINITION. The two reset lines, their filters, the cut-abort reset and master reset (R158 to R162, and each
block's own reset rule). -/

namespace Sys2Proof.Machine

/-- The blocks at their master reset values (R17, R38, R43, R73, R99, R119, R147, R162, R172, R184), the two filters as
given. The time base, the levels at the lines and the queue belong to no block and stay. -/
def blocksReset (cutAbort masterReset : LineFilter) (s : State) : State where
  now := s.now
  pins := s.pins
  grid := Grid.reset
  cells := PerHead.pure CellUnit.reset
  store := Store.reset
  heads := ⟨HeadUnit.reset s.pins.landed.h0 s.pins.ampFault.h0, HeadUnit.reset s.pins.landed.h1 s.pins.ampFault.h1,
    HeadUnit.reset s.pins.landed.h2 s.pins.ampFault.h2, HeadUnit.reset s.pins.landed.h3 s.pins.ampFault.h3⟩
  jobs := Vector.replicate 64 JobSlot.empty
  staging := Staging.reset
  engine := Engine.reset
  sup := Supervisor.reset cutAbort masterReset
  custody := none
  links := PerLink.pure LinkUnit.reset
  pending := s.pending

/-- A line filter at a change of its line's level (R158, R160). -/
def LineFilter.change (now : Nat) (asserted : Bool) (f : LineFilter) : LineFilter :=
  match f, asserted with
  | .released, true => .qualifying now
  | .released, false => .released
  | .qualifying t, true => .qualifying t
  | .qualifying _, false => .released
  | .taken, true => .taken
  | .taken, false => .released

/-- The cut-abort reset's effect on the engine (R148). -/
def cutAbortEngine (s : State) : State :=
  if s.engine.state = .armed then disarmBand s else abort .cutAbortLine none s

/-- Every head under the cut-abort reset: LOWERING and ENGAGED heads lift, a LIFTING head's lower request is cleared,
every drive output is 0 and every prepared cell EMPTY (R39, R74). -/
def cutAbortHeads (s : State) : State :=
  (s.withHeads (s.heads.mapH fun h u => { u.lift s.now (s.params h) with drive := 0 })).withCells
    (s.cells.mapH fun _ c => { c with prepared := none })

/-- The cut-abort reset taken in every block, and CUT_ABORT posted (R159). -/
def cutAbortReset (s : State) : State :=
  postAll .cutAbort (cutAbortEngine (cutAbortHeads (emptyStaging (s.modSup fun u => { u with cutAbort := .taken }))))

/-- A change of the cut-abort line; in master reset the event is not taken (R158, R160, R161). -/
def cutAbortLineChange (asserted : Bool) (s : State) : State :=
  let t := s.withPins { s.pins with cutAbort := asserted }
  if s.inMasterReset then t else t.modSup fun u => { u with cutAbort := u.cutAbort.change s.now asserted }

/-- 2,000 µs pass with the cut-abort filter QUALIFYING (R158, R159). -/
def cutAbortQualified (s : State) : State :=
  match s.sup.cutAbort with
  | .qualifying t => settle (cutAbortReset (passTimeTo (t + Config.lineFilter) s))
  | .released => s
  | .taken => s

/-- The end of master reset: every block at its reset values, the cut-abort filter reading its line, and every link that
shows signal UP at once (R160, R161, R184). -/
def endMasterReset (s : State) : State :=
  let t := blocksReset (if s.pins.cutAbort then .qualifying s.now else .released) .released s
  t.withLinks (t.links.mapL fun l u => { u with up := s.pins.signal.get l })

/-- The entry to master reset (R160; log entry 3). -/
def enterMasterReset (s : State) : State := blocksReset .released .taken s

/-- A change of the master reset line (R160). -/
def masterResetLineChange (asserted : Bool) (s : State) : State :=
  let t := s.withPins { s.pins with masterReset := asserted }
  if s.inMasterReset then if asserted then t else endMasterReset t
  else t.modSup fun u => { u with masterReset := u.masterReset.change s.now asserted }

/-- 2,000 µs pass with the master reset filter QUALIFYING (R160). -/
def masterResetQualified (s : State) : State :=
  match s.sup.masterReset with
  | .qualifying t => enterMasterReset (passTimeTo (t + Config.lineFilter) s)
  | .released => s
  | .taken => s

/-- Power-on: master reset as if its filter were TAKEN, which ends at once if the line is found released (R160). -/
def powerOn (s : State) : State :=
  if s.pins.masterReset then enterMasterReset s else endMasterReset (enterMasterReset s)

/-! ### The commands -/

/-- CUT_ABORT_LINE_CHANGE (R158). -/
def execCutAbortLineChange (asserted : Bool) (s : State) : Host.Outcome State Fault Refusal :=
  .next (cutAbortLineChange asserted s)

/-- CUT_ABORT_QUALIFIED (R159). -/
def execCutAbortQualified (s : State) : Host.Outcome State Fault Refusal :=
  .next (outsideReset cutAbortQualified s)

/-- MASTER_RESET_LINE_CHANGE (R160). -/
def execMasterResetLineChange (asserted : Bool) (s : State) : Host.Outcome State Fault Refusal :=
  .next (masterResetLineChange asserted s)

/-- MASTER_RESET_QUALIFIED (R160). -/
def execMasterResetQualified (s : State) : Host.Outcome State Fault Refusal := .next (masterResetQualified s)

/-- POWER_ON (R160). -/
def execPowerOn (s : State) : Host.Outcome State Fault Refusal := .next (powerOn s)

end Sys2Proof.Machine
end

