-- ==== Sys2Proof/Machine/Stall.lean ====
section
/-! DEFINITION. The stall counter reaching its thresholds (R152, R153). -/

namespace Sys2Proof.Machine

/-- The counter reaches the warning threshold with the warning ARMED (R152). -/
def stallWarn (s : State) : State :=
  if s.sup.active ∧ s.sup.warnArmed then checkWarn (passTime (warnThreshold s.sup.limit - s.sup.stall) s) else s

/-- The counter reaches the fault threshold while supervision is ACTIVE; on its way it has reached the warning
threshold (R153). -/
def motionStall (s : State) : State :=
  if s.sup.active then checkStall (checkWarn (passTime (faultThreshold s.sup.limit - s.sup.stall) s)) else s

/-- STALL_WARN (R152). -/
def execStallWarn (s : State) : Host.Outcome State Fault Refusal :=
  .next (outsideReset (fun s => settle (stallWarn s)) s)

/-- MOTION_STALL (R153). -/
def execMotionStall (s : State) : Host.Outcome State Fault Refusal :=
  .next (outsideReset (fun s => settle (motionStall s)) s)

end Sys2Proof.Machine
end

