-- ==== Sys2Proof/Machine/Dispatch.lean ====
section
/-! DEFINITION. The meaning of every command: one arm for each row of spec/opcode_table.json. -/

namespace Sys2Proof.Machine

def exec (i : Instr) (s : State) : Host.Outcome State Fault Refusal :=
  match i with
  | .stepEvent dir atTime => Sys2Proof.Machine.execStepEvent dir atTime s
  | .indexEvent atTime => Sys2Proof.Machine.execIndexEvent atTime s
  | .indexTimingExpiry => Sys2Proof.Machine.execIndexTimingExpiry s
  | .carriageArrival pos => Sys2Proof.Machine.execCarriageArrival pos s
  | .landedSenseChange h on => Sys2Proof.Machine.execLandedSenseChange h on s
  | .ampFaultChange h on => Sys2Proof.Machine.execAmpFaultChange h on s
  | .lowerTimeoutExpiry h => Sys2Proof.Machine.execLowerTimeoutExpiry h s
  | .liftTimeoutExpiry h => Sys2Proof.Machine.execLiftTimeoutExpiry h s
  | .stallWarn => Sys2Proof.Machine.execStallWarn s
  | .motionStall => Sys2Proof.Machine.execMotionStall s
  | .cutAbortLineChange asserted => Sys2Proof.Machine.execCutAbortLineChange asserted s
  | .cutAbortQualified => Sys2Proof.Machine.execCutAbortQualified s
  | .masterResetLineChange asserted => Sys2Proof.Machine.execMasterResetLineChange asserted s
  | .masterResetQualified => Sys2Proof.Machine.execMasterResetQualified s
  | .powerOn => Sys2Proof.Machine.execPowerOn s
  | .linkSignalLoss l => Sys2Proof.Machine.execLinkSignalLoss l s
  | .linkUp l => Sys2Proof.Machine.execLinkUp l s
  | .frameReceived l kind body check => Sys2Proof.Machine.execFrameReceived l kind body check s
  | .frameSent l => Sys2Proof.Machine.execFrameSent l s
  | .mountCylinder l form job separation => Sys2Proof.Machine.execMountCylinder l form job separation s
  | .armBand l slot restart => Sys2Proof.Machine.execArmBand l slot restart s
  | .disarm l => Sys2Proof.Machine.execDisarm l s
  | .startBand l => Sys2Proof.Machine.execStartBand l s
  | .pauseBand l => Sys2Proof.Machine.execPauseBand l s
  | .resumeBand l => Sys2Proof.Machine.execResumeBand l s
  | .stopAtSeam l => Sys2Proof.Machine.execStopAtSeam l s
  | .stopAtOnce l => Sys2Proof.Machine.execStopAtOnce l s
  | .ackEnd l => Sys2Proof.Machine.execAckEnd l s
  | .setStallLimit l ms => Sys2Proof.Machine.execSetStallLimit l ms s
  | .clearHeadFault l head => Sys2Proof.Machine.execClearHeadFault l head s
  | .claimCustody l => Sys2Proof.Machine.execClaimCustody l s
  | .releaseCustody l => Sys2Proof.Machine.execReleaseCustody l s
  | .passCustody l target => Sys2Proof.Machine.execPassCustody l target s
  | .seizeCustody l => Sys2Proof.Machine.execSeizeCustody l s
  | .writeDescriptor l slot d => Sys2Proof.Machine.execWriteDescriptor l slot d s
  | .clearDescriptor l slot => Sys2Proof.Machine.execClearDescriptor l slot s
  | .writeCurve l curve knots => Sys2Proof.Machine.execWriteCurve l curve knots s
  | .writeHeadParams l head p => Sys2Proof.Machine.execWriteHeadParams l head p s
  | .setStylusCount l head count => Sys2Proof.Machine.execSetStylusCount l head count s
  | .readDescriptor l slot => Sys2Proof.Machine.execReadDescriptor l slot s
  | .readBandStatus l slot => Sys2Proof.Machine.execReadBandStatus l slot s
  | .readCurve l curve => Sys2Proof.Machine.execReadCurve l curve s
  | .readHead l head => Sys2Proof.Machine.execReadHead l head s
  | .readEngine l => Sys2Proof.Machine.execReadEngine l s
  | .readEvents l => Sys2Proof.Machine.execReadEvents l s
  | .setNoticeMask l mask => Sys2Proof.Machine.execSetNoticeMask l mask s
  | .relayNote l target bytes => Sys2Proof.Machine.execRelayNote l target bytes s
  | .fetchRelay l => Sys2Proof.Machine.execFetchRelay l s
  | .ringSegment l head ring offset tones => Sys2Proof.Machine.execRingSegment l head ring offset tones s
  | .ringClose l head ring check stopMark => Sys2Proof.Machine.execRingClose l head ring check stopMark s
  | .discardRings l head => Sys2Proof.Machine.execDiscardRings l head s
  | .bodyLengthImpossible l => Sys2Proof.Machine.execBodyLengthImpossible l s

end Sys2Proof.Machine
end

