-- ==== Sys2Proof/Machine/Tick.lean ====
section
/-! DEFINITION. One µs of the time base, which is what a step does on an empty queue: time passes, and the expiries
that are due are put into the queue (log entry 1). -/

namespace Sys2Proof.Machine

/-- Whether a line filter has been QUALIFYING for 2,000 µs (R158, R160). -/
def LineFilter.due (now : Nat) : LineFilter → Bool
  | .qualifying t => t + Config.lineFilter ≤ now
  | .released => false
  | .taken => false

/-- The expiry a head's running timeout has come to (R62, R64). -/
def HeadUnit.due (now : Nat) (h : HeadId) (u : HeadUnit) : List Instr :=
  match u.timeout with
  | some (.lower, t) => if t ≤ now then [.lowerTimeoutExpiry h] else []
  | some (.lift, t) => if t ≤ now then [.liftTimeoutExpiry h] else []
  | none => []

/-- The expiries that are due now, in a fixed order (log entry 1). -/
def State.due (s : State) : List Instr :=
  (if s.sup.masterReset.due s.now then [.masterResetQualified] else []) ++
  (if s.sup.cutAbort.due s.now then [.cutAbortQualified] else []) ++
  (match s.grid.indexTime with
    | some t => if t + Config.maxPeriod ≤ s.now then [.indexTimingExpiry] else []
    | none => []) ++
  (HeadId.all.flatMap fun h => (s.heads.get h).due s.now h) ++
  (if s.sup.active ∧ s.sup.warnArmed ∧ warnThreshold s.sup.limit ≤ s.sup.stall then [.stallWarn] else []) ++
  (if s.sup.active ∧ faultThreshold s.sup.limit ≤ s.sup.stall then [.motionStall] else [])

/-- One µs passes (00_scope.md, Units; R151), and the expiries then due join the queue. -/
def tick (s : State) : State :=
  let t := passTime 1 s
  t.withPending (t.pending ++ t.due)

end Sys2Proof.Machine
end

