-- ==== Sys2Proof/WellFormed.lean ====
section
/-! DEFINITION. Which commands can arise at the part's ports: the lengths a frame can carry (R176), a patch list of the
length it announces (R80), and the axial range of an arrival (00_scope.md, Units). `exec` gives every command a
meaning, well-formed or not. -/

namespace Sys2Proof

/-- A body that the receiver reads has at most 1,100 bytes (R176). -/
def bodyFits (n : Nat) : Bool := decide (n ≤ Config.maxBody)

/-- A command that can arise at the ports. -/
def Instr.wellFormed : Instr → Bool
  | .stepEvent _ _ => true
  | .indexEvent _ => true
  | .indexTimingExpiry => true
  | .carriageArrival pos => decide (pos ≤ Config.maxAxial)
  | .landedSenseChange _ _ => true
  | .ampFaultChange _ _ => true
  | .lowerTimeoutExpiry _ => true
  | .liftTimeoutExpiry _ => true
  | .stallWarn => true
  | .motionStall => true
  | .cutAbortLineChange _ => true
  | .cutAbortQualified => true
  | .masterResetLineChange _ => true
  | .masterResetQualified => true
  | .powerOn => true
  | .linkSignalLoss _ => true
  | .linkUp _ => true
  | .frameReceived _ _ body _ => bodyFits body.length
  | .frameSent _ => true
  | .mountCylinder _ _ _ _ => true
  | .armBand _ _ _ => true
  | .disarm _ => true
  | .startBand _ => true
  | .pauseBand _ => true
  | .resumeBand _ => true
  | .stopAtSeam _ => true
  | .stopAtOnce _ => true
  | .ackEnd _ => true
  | .setStallLimit _ _ => true
  | .clearHeadFault _ _ => true
  | .claimCustody _ => true
  | .releaseCustody _ => true
  | .passCustody _ _ => true
  | .seizeCustody _ => true
  | .writeDescriptor _ _ d => d.patches.length == d.patchCount.toNat && bodyFits (34 + 3 * d.patches.length)
  | .clearDescriptor _ _ => true
  | .writeCurve _ _ _ => true
  | .writeHeadParams _ _ _ => true
  | .setStylusCount _ _ _ => true
  | .readDescriptor _ _ => true
  | .readBandStatus _ _ => true
  | .readCurve _ _ => true
  | .readHead _ _ => true
  | .readEngine _ => true
  | .readEvents _ => true
  | .setNoticeMask _ _ => true
  | .relayNote _ _ bytes => bodyFits (1 + bytes.length)
  | .fetchRelay _ => true
  | .ringSegment _ _ _ _ tones => bodyFits (5 + tones.length)
  | .ringClose _ _ _ _ _ => true
  | .discardRings _ _ => true
  | .bodyLengthImpossible _ => true

end Sys2Proof
end

