-- ==== Sys2Proof/Safety.lean ====
section
/-! DEFINITION. The terms the statements are written in: when a request is taken, what a reply is, what an abort leaves,
the limits of Tables 3-2 and 5-2, and the invariants of the part. -/

namespace Sys2Proof.Machine

/-! ### Requests and replies (R175, R177, R184) -/

/-- A request frame on link `l` is taken: the part is outside master reset, the link is UP and no reply is pending. -/
def Ready (l : LinkId) (s : State) : Prop :=
  s.inMasterReset = false ∧ (s.links.get l).up = true ∧ (s.links.get l).replyPending = false

/-- The state `x` of the blocks with the reply of kind `k` and body `body` formed on link `l`: reply pending SET, the
reply handed to the transmitter, and every idle transmitter at work (R177, R180). -/
def State.answered (l : LinkId) (k : ReqKind) (body : List Byte) (x : State) : State :=
  transmitAll (x.modLink l fun u =>
    { u with replyPending := true, waitingReply := some ⟨replyKind k.code, body⟩ })

/-- In `t` the reply of kind `k` and body `body` is on its way on link `l`: on the line if the transmitter was idle in
`s`, and waiting behind the frame in transmission otherwise (R177, R180). -/
def Replied (l : LinkId) (k : ReqKind) (body : List Byte) (s t : State) : Prop :=
  (t.links.get l).replyPending = true ∧
    if (s.links.get l).sending = none then
      (t.links.get l).sending = some (.reply ⟨replyKind k.code, body⟩) ∧ (t.links.get l).waitingReply = none
    else
      (t.links.get l).sending = (s.links.get l).sending ∧
        (t.links.get l).waitingReply = some ⟨replyKind k.code, body⟩

/-- Event `e` is in the set of every link that is UP (R175, R179). -/
def PendingAll (e : EventKind) (t : State) : Prop := ∀ l, (t.links.get l).up = true → (t.links.get l).events.has e = true

end Sys2Proof.Machine

namespace Sys2Proof

open Machine

/-! ### The request a command is -/

/-- A command that is a request frame of a kind: the link, the kind and the body of Table 10-9. -/
def Instr.asFrame : Instr → Option (LinkId × ReqKind × List Byte)
  | .stepEvent _ _ => none
  | .indexEvent _ => none
  | .indexTimingExpiry => none
  | .carriageArrival _ => none
  | .landedSenseChange _ _ => none
  | .ampFaultChange _ _ => none
  | .lowerTimeoutExpiry _ => none
  | .liftTimeoutExpiry _ => none
  | .stallWarn => none
  | .motionStall => none
  | .cutAbortLineChange _ => none
  | .cutAbortQualified => none
  | .masterResetLineChange _ => none
  | .masterResetQualified => none
  | .powerOn => none
  | .linkSignalLoss _ => none
  | .linkUp _ => none
  | .frameReceived _ _ _ _ => none
  | .frameSent _ => none
  | .mountCylinder l form job separation =>
    some (l, .mountCylinder, be1 form.toNat ++ be4 job.toNat ++ be1 separation.toNat)
  | .armBand l slot restart => some (l, .armBand, be1 slot.toNat ++ be1 restart.toNat)
  | .disarm l => some (l, .disarm, [])
  | .startBand l => some (l, .startBand, [])
  | .pauseBand l => some (l, .pauseBand, [])
  | .resumeBand l => some (l, .resumeBand, [])
  | .stopAtSeam l => some (l, .stopAtSeam, [])
  | .stopAtOnce l => some (l, .stopAtOnce, [])
  | .ackEnd l => some (l, .ackEnd, [])
  | .setStallLimit l ms => some (l, .setStallLimit, be2 ms.toNat)
  | .clearHeadFault l head => some (l, .clearHeadFault, be1 head.toNat)
  | .claimCustody l => some (l, .claimCustody, [])
  | .releaseCustody l => some (l, .releaseCustody, [])
  | .passCustody l target => some (l, .passCustody, be1 target.toNat)
  | .seizeCustody l => some (l, .seizeCustody, [])
  | .writeDescriptor l slot d =>
    some (l, .writeDescriptor,
      be1 slot.toNat ++ be1 d.kind.toNat ++ be4 d.job.toNat ++ be1 d.separation.toNat ++ be1 d.headSet.toNat ++
        be4 d.x0.toNat ++ be2 d.pitch.toNat ++ be2 d.nr.toNat ++ be2 d.nc.toNat ++ be2 d.cut.toNat ++
        be1 d.stagger.toNat ++ be1 d.curves.h0.toNat ++ be1 d.curves.h1.toNat ++ be1 d.curves.h2.toNat ++
        be1 d.curves.h3.toNat ++ be1 d.policy.toNat ++ be2 d.texp.toNat ++ be1 d.speedTol.toNat ++
        be2 d.posTol.toNat ++ be1 d.starve.toNat ++ be1 d.nextSlot.toNat ++ be1 d.patchCount.toNat ++
        d.patches.flatMap fun p => be1 p.1.toNat ++ be2 p.2.toNat)
  | .clearDescriptor l slot => some (l, .clearDescriptor, be1 slot.toNat)
  | .writeCurve l curve knots =>
    some (l, .writeCurve, be1 curve.toNat ++ knots.toList.flatMap fun k => be2 k.toNat)
  | .writeHeadParams l head p =>
    some (l, .writeHeadParams,
      be1 head.toNat ++ be1 p.fitted.toNat ++ be2 p.gain.toNat ++ be2 p.bias.toNat ++ be1 p.dmin.toNat ++
        be1 p.wearRate.toNat ++ be1 p.wearCap.toNat ++ be2 p.lowerMs.toNat ++ be2 p.liftMs.toNat)
  | .setStylusCount l head count => some (l, .setStylusCount, be1 head.toNat ++ be4 count.toNat)
  | .readDescriptor l slot => some (l, .readDescriptor, be1 slot.toNat)
  | .readBandStatus l slot => some (l, .readBandStatus, be1 slot.toNat)
  | .readCurve l curve => some (l, .readCurve, be1 curve.toNat)
  | .readHead l head => some (l, .readHead, be1 head.toNat)
  | .readEngine l => some (l, .readEngine, [])
  | .readEvents l => some (l, .readEvents, [])
  | .setNoticeMask l mask => some (l, .setNoticeMask, be2 mask.toNat)
  | .relayNote l target bytes => some (l, .relayNote, be1 target.toNat ++ bytes)
  | .fetchRelay l => some (l, .fetchRelay, [])
  | .ringSegment l head ring offset tones =>
    some (l, .ringSegment, be1 head.toNat ++ be2 ring.toNat ++ be2 offset.toNat ++ tones)
  | .ringClose l head ring check stopMark =>
    some (l, .ringClose, be1 head.toNat ++ be2 ring.toNat ++ be2 check.toNat ++ be1 stopMark.toNat)
  | .discardRings l head => some (l, .discardRings, be1 head.toNat)
  | .bodyLengthImpossible _ => none

/-- A command of a machine line that is not taken in master reset and holds no level (R160). -/
def Instr.lineEvent : Instr → Bool
  | .stepEvent _ _ | .indexEvent _ | .indexTimingExpiry | .carriageArrival _ | .lowerTimeoutExpiry _
  | .liftTimeoutExpiry _ | .stallWarn | .motionStall | .cutAbortQualified
  | .frameReceived _ _ _ _ | .frameSent _ | .bodyLengthImpossible _ => true
  | .landedSenseChange _ _ | .ampFaultChange _ _ | .cutAbortLineChange _ | .masterResetLineChange _
  | .masterResetQualified | .powerOn | .linkSignalLoss _ | .linkUp _ | .mountCylinder _ _ _ _ | .armBand _ _ _
  | .disarm _ | .startBand _ | .pauseBand _ | .resumeBand _ | .stopAtSeam _ | .stopAtOnce _ | .ackEnd _ | .setStallLimit _ _
  | .clearHeadFault _ _ | .claimCustody _ | .releaseCustody _ | .passCustody _ _ | .seizeCustody _
  | .writeDescriptor _ _ _ | .clearDescriptor _ _ | .writeCurve _ _ _ | .writeHeadParams _ _ _
  | .setStylusCount _ _ _ | .readDescriptor _ _ | .readBandStatus _ _ | .readCurve _ _ | .readHead _ _
  | .readEngine _ | .readEvents _ | .setNoticeMask _ _ | .relayNote _ _ _ | .fetchRelay _
  | .ringSegment _ _ _ _ _ | .ringClose _ _ _ _ _ | .discardRings _ _ => false

/-- The parameter set that a written set within Table 3-2 gives. -/
def ParamsBody.toParams (p : ParamsBody) : HeadParams where
  fitted := p.fitted = 1#8
  gain := p.gain.toNat
  bias := p.bias.toInt
  dmin := p.dmin.toNat
  wearRate := p.wearRate.toNat
  wearCap := p.wearCap.toNat
  lowerMs := p.lowerMs.toNat
  liftMs := p.liftMs.toNat

end Sys2Proof

namespace Sys2Proof.Machine

/-! ### Limits (Tables 3-2 and 5-2) -/

/-- The range of field `n` of a written parameter set (Table 3-2). -/
def paramFieldOk (p : ParamsBody) : Nat → Prop
  | 1 => p.fitted.toNat ≤ 1
  | 2 => 64 ≤ p.gain.toNat ∧ p.gain.toNat ≤ 1023
  | 3 => -512 ≤ p.bias.toInt ∧ p.bias.toInt ≤ 511
  | 4 => p.dmin.toNat ≤ 200
  | 5 => True
  | 6 => p.wearCap.toNat ≤ 100
  | 7 => 10 ≤ p.lowerMs.toNat ∧ p.lowerMs.toNat ≤ 500
  | 8 => 10 ≤ p.liftMs.toNat ∧ p.liftMs.toNat ≤ 500
  | _ => True

/-- A parameter set within the ranges of Table 3-2. -/
def HeadParams.fits (p : HeadParams) : Prop :=
  64 ≤ p.gain ∧ p.gain ≤ 1023 ∧ -512 ≤ p.bias ∧ p.bias ≤ 511 ∧ p.dmin ≤ 200 ∧ p.wearRate ≤ 255 ∧ p.wearCap ≤ 100 ∧
    10 ≤ p.lowerMs ∧ p.lowerMs ≤ 500 ∧ 10 ≤ p.liftMs ∧ p.liftMs ≤ 500

/-- A curve's knots within R40: each 600 or less, none below the knot before it. -/
def Curve.fits (k : Curve) : Prop :=
  (∀ i : Fin 17, k[i] ≤ 600) ∧ ∀ i : Fin 16, k[i.val] ≤ k[i.val + 1]

/-- The lengths of the first `n` patches of a written list, added up (Table 5-2). -/
def patchSum (n : Nat) (ps : List (Byte × BitVec 16)) : Nat := ((ps.take n).map fun p => p.2.toNat).sum

/-- Whether bit `n` of a head set byte is set. -/
def inSet (headSet : Byte) (n : Nat) : Bool := headSet.getLsbD n

/-- The curve field of head `n` against the head set: a curve number for a head in the set, NONE for another (R80). -/
def curveFieldOk (headSet curve : Byte) (n : Nat) : Prop :=
  if inSet headSet n then curve.toNat ≤ 15 else curve = 255#8

/-- The range and the limit of field `n` of a descriptor written to slot `slot` (Table 5-2). -/
def descriptorFieldOk (slot : Byte) (d : DescriptorBody) : Nat → Prop
  | 1 => d.kind.toNat ≤ 2
  | 2 => True
  | 3 => d.separation.toNat ≤ 15
  | 4 => 1 ≤ d.headSet.toNat ∧ d.headSet.toNat ≤ 15
  | 5 => d.x0.toNat ≤ 40000000
  | 6 => 200 ≤ d.pitch.toNat ∧ d.pitch.toNat ≤ 5000
  | 7 => 1 ≤ d.nr.toNat ∧ d.x0.toNat + (d.nr.toNat - 1) * d.pitch.toNat ≤ 40000000
  | 8 => 1024 ≤ d.nc.toNat
  | 9 => 1 ≤ d.cut.toNat ∧ d.cut.toNat ≤ 65519 ∧ d.cut.toNat + 16 ≤ d.nc.toNat
  | 10 => d.stagger.toNat ≤ 15
  | 11 => curveFieldOk d.headSet d.curves.h0 0
  | 12 => curveFieldOk d.headSet d.curves.h1 1
  | 13 => curveFieldOk d.headSet d.curves.h2 2
  | 14 => curveFieldOk d.headSet d.curves.h3 3
  | 15 => d.policy.toNat ≤ 1
  | 16 => 50 ≤ d.texp.toNat ∧ d.texp.toNat ≤ 60000
  | 17 => 1 ≤ d.speedTol.toNat ∧ d.speedTol.toNat ≤ 20
  | 18 => d.posTol.toNat ≤ 500
  | 19 => 1 ≤ d.starve.toNat
  | 20 => (d.nextSlot.toNat ≤ 63 ∨ d.nextSlot = 255#8) ∧ d.nextSlot ≠ slot
  | 21 => if d.kind = 1#8 then 1 ≤ d.patchCount.toNat ∧ d.patchCount.toNat ≤ 16 else d.patchCount = 0#8
  | n + 22 =>
    match d.patches[n / 2]? with
    | none => True
    | some p =>
      if n % 2 = 0 then 1 ≤ p.1.toNat
      else 1 ≤ p.2.toNat ∧ p.2.toNat ≤ 65519 ∧ patchSum (n / 2 + 1) d.patches ≤ d.cut.toNat
  | 0 => True

/-- A descriptor of slot `i` within Table 5-2. -/
def Descriptor.fits (i : Fin 64) (d : Descriptor) : Prop :=
  d.cylinder.job ≤ 4294967295 ∧ d.cylinder.separation ≤ 15 ∧ (∃ h, d.heads.get h = true) ∧ d.x0 ≤ 40000000 ∧
    200 ≤ d.pitch ∧ d.pitch ≤ 5000 ∧ 1 ≤ d.nr ∧ d.nr ≤ 65535 ∧ d.x0 + (d.nr - 1) * d.pitch ≤ 40000000 ∧
    1024 ≤ d.nc ∧ d.nc ≤ 65535 ∧ 1 ≤ d.cut ∧ d.cut ≤ 65519 ∧ d.cut + 16 ≤ d.nc ∧ d.stagger ≤ 15 ∧
    (∀ h, (d.curves.get h).isSome = d.heads.get h) ∧ 50 ≤ d.texp ∧ d.texp ≤ 60000 ∧ 1 ≤ d.speedTol ∧
    d.speedTol ≤ 20 ∧ d.posTol ≤ 500 ∧ 1 ≤ d.starve ∧ d.starve ≤ 255 ∧ d.nextSlot ≠ some i ∧
    (if d.kind = .testCut then 1 ≤ d.patches.length ∧ d.patches.length ≤ 16 else d.patches = []) ∧
    (∀ p ∈ d.patches, 1 ≤ p.tone ∧ p.tone ≤ 255 ∧ 1 ≤ p.length ∧ p.length ≤ 65519) ∧
    (d.patches.map fun p => p.length).sum ≤ d.cut

/-! ### An abort (R34, R89, R91, R114, R143, R144) -/

/-- Whether every head of the descriptor's set is LIFTED, FAULTED or OFFLINE in `t` (R144). -/
def Descriptor.atRest (d : Descriptor) (t : State) : Bool :=
  HeadId.all.all fun h => !d.heads.get h || (t.heads.get h).state.atRest

/-- The current band, in slot `i` with descriptor `d`, is aborted from `s` to `t` with cause `c` and faulted head `f`. -/
def Aborted (c : EndCause) (f : Option HeadId) (i : Fin 64) (d : Descriptor) (s t : State) : Prop :=
  t.jobs[i].record.cause = some c ∧ t.jobs[i].record.faultedHead = f ∧
  t.jobs[i].record.nextRing = s.jobs[i].record.nextRing ∧ t.jobs[i].record.ringsCut = s.jobs[i].record.ringsCut ∧
  t.jobs[i].record.partialRing =
    (if s.engine.revPos = some .cut then some s.jobs[i].record.nextRing else s.jobs[i].record.partialRing) ∧
  (∀ h, d.heads.get h = true →
    (t.heads.get h).drive = 0 ∧ (t.cells.get h).prepared = none ∧ (t.heads.get h).state.lowered = false ∧
      (t.staging.heads.get h).cuttingRing = none) ∧
  t.engine.slot = some i ∧ t.engine.target = none ∧ t.engine.pause = false ∧ t.engine.stopAtSeam = none ∧
  t.engine.revPos = none ∧ t.engine.hold = none ∧
  t.grid.state = .stopped ∧ t.grid.acc = 0 ∧ t.grid.boundaries = 0 ∧
  (if d.atRest t then
    t.engine.state = .ended ∧ t.jobs[i].record.phase = .aborted ∧ t.jobs[i].record.outcome = none ∧
      PendingAll .bandEnded t
  else
    t.engine.state = .ending ∧ t.jobs[i].record.phase = s.jobs[i].record.phase ∧
      t.jobs[i].record.outcome = some .aborted)

/-! ### Invariants -/

/-- Supervision stands as the heads say; while it is INACTIVE the stall counter is 0 and the warning ARMED (R150). -/
def Supervised (s : State) : Prop :=
  s.sup.active = s.anyLowered ∧ (s.sup.active = false → s.sup.stall = 0 ∧ s.sup.warnArmed = true)

/-- A head controller's fields agree with its state (Table 4-1; R57, R61 to R66). -/
def HeadUnit.ok (u : HeadUnit) : Prop :=
  (u.cause.isSome = true ↔ u.state = .faulted) ∧ (u.lowerRequest = true → u.state = .lifting) ∧
  (match u.timeout with
    | none => u.state ≠ .lowering ∧ u.state ≠ .lifting
    | some (.lower, _) => u.state = .lowering
    | some (.lift, _) => u.state = .lifting) ∧
  (0 < u.drive → u.state = .engaged) ∧ u.drive ≤ 4095 ∧
  (u.state = .lifted ∨ u.state = .lowering → u.landed = false) ∧
  (u.state = .engaged ∨ u.state = .lifting → u.landed = true)

/-- Every head controller is consistent, an unfitted head is OFFLINE, a pending parameter set is fitted, and a prepared
cell's code is one the head port carries (Table 4-1; R25, R41, R56). -/
def HeadsOk (s : State) : Prop :=
  ∀ h, (s.heads.get h).ok ∧ ((s.params h).fitted = false → (s.heads.get h).state = .offline) ∧
    (∀ p, (s.store.params.get h).pending = some p → p.fitted = true) ∧
    (∀ p, (s.cells.get h).prepared = some p → p.code ≤ 4095)

/-- The position count and the accumulator lie in their ranges, the boundary count does not exceed Nc + 1, and the grid
is STOPPED outside PREPARING, CUTTING and HELD and stands at 0 unless it is RUNNING (Table 1-1; R2, R7, R9). -/
def GridOk (s : State) : Prop :=
  s.grid.position < 1048576 ∧ s.grid.acc < 1048576 ∧ (∀ d, s.band = some d → s.grid.boundaries ≤ d.nc + 1) ∧
    (s.engine.state.abortable = false → s.grid.state = .stopped) ∧
    (s.grid.state ≠ .running → s.grid.acc = 0 ∧ s.grid.boundaries = 0)

/-- Every descriptor lies within Table 5-2 (R79). -/
def DescriptorsFit (s : State) : Prop := ∀ i : Fin 64, ∀ d, s.jobs[i].desc = some d → d.fits i

/-- Whether a record counts as complete: phase COMPLETE, or CURRENT with outcome COMPLETE (R95). -/
def StatusRecord.isComplete (r : StatusRecord) : Prop :=
  r.phase = .complete ∨ (r.phase = .current ∧ r.outcome = some .complete)

/-- The job table agrees with the engine: the record of the current slot alone is CURRENT (R77), an outcome stands in
ENDING alone (R87), and the progress fields keep the law of R95. -/
def RecordsOk (s : State) : Prop :=
  (s.engine.state.isCurrent = true → ∃ i, s.engine.slot = some i ∧ s.jobs[i].desc.isSome = true) ∧
  ∀ i : Fin 64,
    (s.jobs[i].record.phase = .current ↔ s.slotInUse i = true) ∧
    (s.jobs[i].record.outcome.isSome = true ↔ s.slotInUse i = true ∧ s.engine.state = .ending) ∧
    s.jobs[i].record.ringsCut ≤ s.jobs[i].record.nextRing ∧
    (∀ d, s.jobs[i].desc = some d →
      s.jobs[i].record.nextRing ≤ d.nr ∧ (s.jobs[i].record.nextRing = d.nr ↔ s.jobs[i].record.isComplete)) ∧
    (s.jobs[i].desc = none ∨ s.jobs[i].record.phase = .neverRun → s.jobs[i].record.nextRing = 0)

/-- With no band current, staging is EMPTY and no pending copy waits (R42, R44, R102, R118). -/
def NothingHeld (s : State) : Prop :=
  s.engine.state.isCurrent = false →
    s.staging = Staging.reset ∧ (∀ c : Fin 16, s.store.curves[c].pending = none) ∧
      ∀ h, (s.store.params.get h).pending = none

/-- The ring number of an occupied slot (R101). -/
def RingSlot.ring : RingSlot → Option Nat
  | .empty => none
  | .filling r _ _ => some r
  | .ready r _ _ _ => some r
  | .cutting r _ _ _ => some r

/-- The rings that a slot holds closed: 1 for a READY or CUTTING slot (R101). -/
def RingSlot.closedRings : RingSlot → Nat
  | .empty => 0
  | .filling _ _ _ => 0
  | .ready _ _ _ _ => 1
  | .cutting _ _ _ _ => 1

/-- What a slot may hold in a band of `nr` rings of `cut` tones with next ring `n`, for a head with next-fill ring `nf`
(R102): FILLING ring nf with at most L tones and their running check (R105), READY ring n or n + 1 and CUTTING ring n
with L tones and their ring check (R109). -/
def RingSlot.lawful (n nr cut : Nat) (nf : Option Nat) : RingSlot → Prop
  | .empty => True
  | .filling r tones check => nf = some r ∧ r < nr ∧ tones.length ≤ cut ∧ check = ringCheck tones
  | .ready r tones check _ => (r = n ∨ r = n + 1) ∧ r < nr ∧ tones.length = cut ∧ check = ringCheck tones
  | .cutting r tones check _ => r = n ∧ r < nr ∧ tones.length = cut ∧ check = ringCheck tones

/-- The law of R102 for one head: each slot as it may be, two occupied slots with consecutive rings (so at most one
CUTTING and at most one FILLING), and the next-fill ring from n to n + 2. -/
def HeadStaging.lawful (n nr cut : Nat) (t : HeadStaging) : Prop :=
  t.slotA.lawful n nr cut t.nf ∧ t.slotB.lawful n nr cut t.nf ∧
    (∀ a b, t.slotA.ring = some a → t.slotB.ring = some b → a + 1 = b ∨ b + 1 = a) ∧
    ∀ f, t.nf = some f → n ≤ f ∧ f ≤ n + 2

/-- Ring staging keeps the law of R102. With no band current it is EMPTY (R118); a head outside the set and every head of
a TEST_CUT band has EMPTY slots and no next-fill ring (R103, R117); outside ENDING the next-fill ring of another head is
n plus its closed rings, which lie below it; and while a ring is being cut each such head has it in a CUTTING slot
(R111). -/
def StagingOk (s : State) : Prop :=
  (s.band = none → s.staging = Staging.reset) ∧
  ∀ d, s.band = some d → (d.kind ≠ .testCut → s.staging.synth = none) ∧ ∀ h,
    let t := s.staging.heads.get h
    (d.heads.get h = false ∨ d.kind = .testCut → t = ⟨.empty, .empty, none⟩) ∧
    (d.heads.get h = true → d.kind ≠ .testCut →
      t.lawful s.nextRing d.nr d.cut ∧
      (s.engine.state ≠ .ending →
        t.nf = some (s.nextRing + t.slotA.closedRings + t.slotB.closedRings) ∧
          ∀ x, (x = t.slotA ∨ x = t.slotB) → x.closedRings = 1 → ∀ r f, x.ring = some r → t.nf = some f → r < f) ∧
      (s.engine.state = .cutting → s.engine.revPos = some .cut → t.cuttingRing = some s.nextRing))

/-- Where a drive output or a prepared cell may stand (R31, R32, R35): in CUTTING, in a cutting revolution, on a head of
the set. A drive output above 0 needs a band that is no DRY_PASS and a cell period of 0 to L − 1; a prepared cell has the
index of the next boundary, which lies below L; and boundary L has not come in a cutting revolution. -/
def DriveOk (s : State) : Prop :=
  (s.engine.state = .cutting → s.engine.revPos = some .cut → ∀ d, s.band = some d → s.grid.boundaries ≤ d.cut) ∧
  ∀ h,
    (0 < (s.heads.get h).drive →
      s.engine.state = .cutting ∧ s.engine.revPos = some .cut ∧ ∃ d, s.band = some d ∧ d.heads.get h = true ∧
        d.kind ≠ .dryPass ∧ 1 ≤ s.grid.boundaries ∧ s.grid.boundaries ≤ d.cut) ∧
    (∀ p, (s.cells.get h).prepared = some p →
      s.engine.state = .cutting ∧ s.engine.revPos = some .cut ∧ ∃ d, s.band = some d ∧ d.heads.get h = true ∧
        p.index = s.grid.boundaries ∧ p.index < d.cut)

/-- Custody is never held by a link that is down (R164). -/
def CustodyUp (s : State) : Prop := ∀ l, s.custody = some l → (s.links.get l).up = true

/-- A DOWN link holds nothing (R175, R184), an idle transmitter has no work, reply pending is SET exactly while a reply
waits or is sent and there is one such reply (R177), no kind waits twice (R180), and a relay queue holds at most 4 notes
(R181). -/
def LinksOk (s : State) : Prop :=
  ∀ l, ((s.links.get l).up = false → s.links.get l = LinkUnit.reset) ∧
    ((s.links.get l).sending = none → (s.links.get l).waitingReply = none ∧ (s.links.get l).notices = []) ∧
    ((s.links.get l).replyPending = true ↔
      (s.links.get l).waitingReply.isSome = true ∨ ∃ f, (s.links.get l).sending = some (.reply f)) ∧
    (∀ f, (s.links.get l).sending = some (.reply f) → (s.links.get l).waitingReply = none) ∧
    (s.links.get l).notices.Nodup ∧ (s.links.get l).relay.length ≤ 4

end Sys2Proof.Machine
end

