-- ==== Sys2Proof/Certificates/Slice0/Obligations.lean ====
section
/-! DEFINITION. The statements for the provers. Each docstring names the rules of spec/ that the statement formalises. -/

section
open Sys2Proof Sys2Proof.Machine

/-! ### Steps -/

/-- A step takes the command at the front of the queue and runs it with the queue's rest. -/
def Obligations.StepTakesFrontCommand : Prop :=
  ∀ (c : Instr) (rest : List Instr) (s : State), step (s.withPending (c :: rest)) = exec c (s.withPending rest)

/-- The expiries that are due, in the order in which they join the queue (log entry 1): a reset line's filter after 2,000
µs of QUALIFYING (R158, R160), the index timing after 60,000,000 µs (R15), each running head timeout (R62, R64), and the
stall counter at its two thresholds (R152, R153). -/
def expiriesDue (s : State) : List Instr :=
  (match s.sup.masterReset with
    | .qualifying q => if q + 2000 ≤ s.now then [.masterResetQualified] else []
    | _ => []) ++
  (match s.sup.cutAbort with
    | .qualifying q => if q + 2000 ≤ s.now then [.cutAbortQualified] else []
    | _ => []) ++
  (match s.grid.indexTime with
    | some p => if p + 60000000 ≤ s.now then [.indexTimingExpiry] else []
    | none => []) ++
  ([HeadId.h0, .h1, .h2, .h3].flatMap fun h =>
    match (s.heads.get h).timeout with
    | some (.lower, x) => if x ≤ s.now then [.lowerTimeoutExpiry h] else []
    | some (.lift, x) => if x ≤ s.now then [.liftTimeoutExpiry h] else []
    | none => []) ++
  (if s.sup.active = true ∧ s.sup.warnArmed = true ∧ s.sup.limit / 2 * 1000 ≤ s.sup.stall then [.stallWarn] else []) ++
  (if s.sup.active = true ∧ s.sup.limit * 1000 ≤ s.sup.stall then [.motionStall] else [])

/-- The model's choice (log entry 1): a step on an empty queue passes 1 µs of the time base, which raises the stall
counter of an ACTIVE supervision, puts the expiries then due into the queue and changes nothing else. -/
def Obligations.IdleStepPassesOneMicrosecond : Prop :=
  ∀ s : State, ∃ t, step (s.withPending []) = .next t ∧ t.now = s.now + 1 ∧
    t.sup = { s.sup with stall := if s.sup.active then min 2000000 (s.sup.stall + 1) else s.sup.stall } ∧
    t.pending = expiriesDue t ∧ t = ((s.withNow t.now).withSup t.sup).withPending t.pending

/-- The model's reading: every command completes in every state, since the spec leaves none without an effect (log entry
14); it leaves the waiting commands alone (log entry 15), and the time base never runs back, not even at POWER_ON (log
entries 1 and 4). -/
def Obligations.EveryCommandCompletes : Prop :=
  ∀ (c : Instr) (s : State), ∃ t, exec c s = .next t ∧ t.pending = s.pending ∧ s.now ≤ t.now

/-- A command that is not taken changes nothing, or LINK_ERROR alone: events in master reset (R160), requests in master
reset or on a DOWN link (R175, R184), and a request taken for an overrun while a reply is pending (R177, step 1). A
link's signal in master reset is recorded at its port and nothing more (R184). The model's readings: an expiry in master
reset has no effect (log entry 6), a request row is a frame that has arrived (log entry 10), and the port holds a level
of the signal (log entry 16). -/
def Obligations.CommandsNotTaken : Prop :=
  ∀ (c : Instr) (s : State),
    (c.lineEvent = true → s.inMasterReset = true → exec c s = .next s) ∧
    (s.inMasterReset = true → ∀ l,
      exec (.linkUp l) s = .next (s.withPins { s.pins with signal := s.pins.signal.set l true }) ∧
        exec (.linkSignalLoss l) s = .next (s.withPins { s.pins with signal := s.pins.signal.set l false })) ∧
    ∀ l k body, c.asFrame = some (l, k, body) →
      (s.inMasterReset = true → exec c s = .next s) ∧
      ((s.links.get l).up = false → exec c s = .next s) ∧
      (s.inMasterReset = false → (s.links.get l).up = true → (s.links.get l).replyPending = true →
        exec c s = .next (transmitAll (postTo l .linkError s)))

/-! ### Cell grid -/

/-- R2: the position count follows the line in every engine state: forward +1 and backward −1 modulo P, 0 at an index,
and it stays below P. -/
def Obligations.PositionFollowsTheLine : Prop :=
  ∀ (s : State) (a : Nat), s.inMasterReset = false →
    (∃ t, exec (.stepEvent .forward a) s = .next t ∧ t.grid.position = (s.grid.position + 1) % 1048576) ∧
    (∃ t, exec (.stepEvent .reverse a) s = .next t ∧ t.grid.position = (s.grid.position + 1048575) % 1048576) ∧
    (∃ t, exec (.indexEvent a) s = .next t ∧ t.grid.position = 0) ∧
    (s.grid.position < 1048576 → ∀ c t, exec c s = .next t → t.grid.position < 1048576)

/-- An index event sets the position, the reference, the period and the index timing (R3, R14), and presets a grid that
is not STOPPED, which ends STOPPED when the index aborts the band (R7, R8). The expiry of the index timing makes it not
valid and the period unknown 60,000,000 µs after the index, and changes nothing else but the time (R15). The model's
choices: an index timed in the past is taken now (log entry 2), an expiry brings the time base to its moment (log entry
1), and an expiry of an index timing that is not valid changes nothing (log entry 6). -/
def Obligations.IndexSetsTheGrid : Prop :=
  ∀ (s : State) (a : Nat), s.inMasterReset = false →
    (s.grid.indexTime = none → exec .indexTimingExpiry s = .next s) ∧
    (∀ p, s.grid.indexTime = some p →
      exec .indexTimingExpiry s =
        .next ((passTimeTo (p + 60000000) s).withGrid { s.grid with lastPeriod := none, indexTime := none })) ∧
    ∃ t, exec (.indexEvent a) s = .next t ∧
      t.grid.position = 0 ∧ t.grid.reference = .referenced ∧ t.grid.indexTime = some (max s.now a) ∧
      (s.grid.indexTime = none → t.grid.lastPeriod = none) ∧
      (∀ p, s.grid.indexTime = some p → p < max s.now a →
        t.grid.lastPeriod = if max s.now a - p ≤ 60000000 then some (max s.now a - p) else none) ∧
      (s.grid.state = .stopped → s.grid.acc = 0 → s.grid.boundaries = 0 →
        t.grid.state = .stopped ∧ t.grid.acc = 0 ∧ t.grid.boundaries = 0) ∧
      (∀ d, s.band = some d → s.engine.state.abortable = true → s.grid.state ≠ .stopped →
        if t.engine.state.abortable then
          t.grid.state = .running ∧ t.grid.acc = s.nextRing * d.stagger % 16 * 65536 ∧ t.grid.boundaries = 0
        else t.grid.state = .stopped ∧ t.grid.acc = 0 ∧ t.grid.boundaries = 0)

/-- The grid after a step that makes no boundary (R2, R9, R10). -/
def stepGrid (dir : Direction) (s : State) : Grid :=
  match dir, s.grid.state, s.band with
  | .forward, .running, some d =>
    { s.grid with
      position := (s.grid.position + 1) % 1048576
      acc := if s.grid.acc + d.nc < 1048576 then s.grid.acc + d.nc else s.grid.acc + d.nc - 1048576 }
  | .forward, _, _ => { s.grid with position := (s.grid.position + 1) % 1048576 }
  | .reverse, _, _ => { s.grid with position := (s.grid.position + 1048575) % 1048576 }

/-- A step that makes no boundary and no reverse rotation moves the grid and the stall counter and nothing else: every
backward step with supervision INACTIVE (R10, R155), every forward step of a grid that is not RUNNING (R7), and every
forward step that makes no carry or finds the boundary count at Nc + 1 (R9). A step timed in the past is taken now
(log entry 2). -/
def Obligations.StepsWithoutBoundary : Prop :=
  ∀ (dir : Direction) (a : Nat) (s : State), s.inMasterReset = false → Supervised s →
    (dir = .reverse → s.sup.active = false) →
    (dir = .forward → s.grid.state = .running → ∀ d, s.band = some d →
      s.grid.acc + d.nc < 1048576 ∨ s.grid.boundaries = d.nc + 1) →
    exec (.stepEvent dir a) s =
      .next (transmitAll (((s.withNow (max s.now a)).withSup
        { s.sup with
          stall := if s.sup.active then 0 else s.sup.stall
          warnArmed := if s.sup.active then true else s.sup.warnArmed }).withGrid (stepGrid dir s)))

/-- Every command keeps the ranges of Table 1-1 (R2, R7, R9) and every descriptor within the limits of Table 5-2 (R79). -/
def Obligations.GridStaysInRange : Prop :=
  ∀ s t : State, GridOk s → DescriptorsFit s → step s = .next t → GridOk t ∧ DescriptorsFit t

/-! ### Cells and boundaries -/

/-- A step that brings boundary `b` of the current band `d` (R9, R11). -/
def BringsBoundary (b : Nat) (d : Descriptor) (s : State) : Prop :=
  s.inMasterReset = false ∧ s.grid.state = .running ∧ s.band = some d ∧ 1048576 ≤ s.grid.acc + d.nc ∧
    s.grid.boundaries = b ∧ b ≤ d.nc

/-- The grid after the step that brings a boundary (R2, R9, R11). -/
def boundaryGrid (d : Descriptor) (s : State) : Grid :=
  { s.grid with
    position := (s.grid.position + 1) % 1048576
    acc := s.grid.acc + d.nc - 1048576
    boundaries := s.grid.boundaries + 1 }

/-- Whether a head cuts the cell it latches: ENGAGED, in a band that is no DRY_PASS, with a code above 0 (R29). -/
def cuts (d : Descriptor) (u : HeadUnit) (code : Nat) : Bool :=
  u.state == .engaged && d.kind != .dryPass && decide (0 < code)

/-- The three counts after a latch with outcome `o` (R27, Table 2-3). -/
def countsAfter (o : CellOutcome) (c : HeadCounts) : HeadCounts :=
  { dropped := if o = .dropped then min 4294967295 (c.dropped + 1) else c.dropped
    clipHigh := if o = .clipHigh then min 4294967295 (c.clipHigh + 1) else c.clipHigh
    clipLow := if o = .clipLow then min 4294967295 (c.clipLow + 1) else c.clipLow }

/-- Whether a latch with outcome `o` raises a clip count of `c`, and so posts CLIP (R28). -/
def RaisesClip (o : CellOutcome) (c : HeadCounts) : Prop :=
  (o = .clipHigh ∧ c.clipHigh < 4294967295) ∨ (o = .clipLow ∧ c.clipLow < 4294967295)

/-- The tone of cell `k` that the cell computer reads for head `h`: of the synthesised ring for a TEST_CUT band, and of
the head's CUTTING slot otherwise (R37). -/
def cellTone (g : Staging) (d : Descriptor) (h : HeadId) (k : Nat) : Nat :=
  let ring : List Byte :=
    if d.kind = .testCut then g.synth.getD []
    else
      match (g.heads.get h).slotA, (g.heads.get h).slotB with
      | .cutting _ tones _ _, _ => tones
      | _, .cutting _ tones _ _ => tones
      | _, _ => []
  (ring.getD k 0#8).toNat

/-- Cell `k` of head `h`: its tone through the active curve that the band names for the head, and the head's active
parameter set, under wear term `wear` (R20 to R25, R37). -/
def cellOf (g : Staging) (t : Store) (d : Descriptor) (h : HeadId) (wear k : Nat) : PreparedCell :=
  let curve : Curve :=
    match d.curves.get h with
    | some c => t.curves[c].active.getD (Vector.replicate 17 0)
    | none => Vector.replicate 17 0
  let x := driveOfTone curve (t.params.get h).active d.policy wear (cellTone g d h k)
  { index := k, code := x.1, outcome := x.2 }

/-- `s` after a forward step that brings a boundary, before the boundary is acted on: the grid, the time and the stall
counter (R2, R9, R11, R151). A step timed in the past is taken now (the model's choice, log entry 2). -/
def movedToBoundary (a : Nat) (d : Descriptor) (s : State) : State :=
  ((s.withNow (max s.now a)).withSup
    { s.sup with
      stall := if s.sup.active then 0 else s.sup.stall
      warnArmed := if s.sup.active then true else s.sup.warnArmed }).withGrid (boundaryGrid d s)

/-- The boundaries that end no ring. At boundary b below L of a cutting revolution (R27, R29, R30, R32, R33): each head
of the set presents its prepared code while it is ENGAGED and the band is no DRY_PASS, and 0 otherwise; the stylus count
rises for a cut cell; the named count rises; the next cell is prepared; an EMPTY prepared cell gives drive 0 and moves
no count. Heads outside the set and every other block are left alone; CLIP is posted when a clip count rises (R28).
Outside a cutting revolution a boundary below L latches nothing and leaves drive 0 and EMPTY prepared cells; boundary L
outside a cutting revolution and every boundary above L change nothing but the grid and the stall counter (R33, R35,
R137). A step timed in the past is taken now (the model's choice, log entry 2). -/
def Obligations.BoundaryLatchesCells : Prop :=
  ∀ (s : State) (a b : Nat) (d : Descriptor) (i : Fin 64), BringsBoundary b d s → s.engine.slot = some i →
    Supervised s →
    (d.cut < b ∨ (b = d.cut ∧ ¬ (s.engine.state = .cutting ∧ s.engine.revPos = some .cut)) →
      exec (.stepEvent .forward a) s = .next (transmitAll (movedToBoundary a d s))) ∧
    (b < d.cut → ¬ (s.engine.state = .cutting ∧ s.engine.revPos = some .cut) →
      exec (.stepEvent .forward a) s =
        .next (transmitAll (((movedToBoundary a d s).withHeads
          (s.heads.mapH fun h u => if d.heads.get h then { u with drive := 0 } else u)).withCells
          (s.cells.mapH fun h c => if d.heads.get h then { c with prepared := none } else c)))) ∧
    (b < d.cut → s.engine.state = .cutting → s.engine.revPos = some .cut →
      ∃ t, exec (.stepEvent .forward a) s = .next t ∧ t.grid = boundaryGrid d s ∧
        (∀ h, d.heads.get h = false →
          t.heads.get h = s.heads.get h ∧ t.cells.get h = s.cells.get h ∧
            t.jobs[i].record.counts.get h = s.jobs[i].record.counts.get h) ∧
        (∀ h, d.heads.get h = true → (s.cells.get h).prepared = none →
          t.heads.get h = { s.heads.get h with drive := 0 } ∧ t.cells.get h = s.cells.get h ∧
            t.jobs[i].record.counts.get h = s.jobs[i].record.counts.get h) ∧
        (∀ h p, d.heads.get h = true → (s.cells.get h).prepared = some p →
          t.heads.get h =
            { s.heads.get h with
              drive := if cuts d (s.heads.get h) p.code then p.code else 0
              stylus :=
                if cuts d (s.heads.get h) p.code then min 4294967295 ((s.heads.get h).stylus + 1)
                else (s.heads.get h).stylus } ∧
          t.cells.get h =
            { s.cells.get h with
              prepared :=
                if b + 1 < d.cut then some (cellOf s.staging s.store d h (s.cells.get h).wear (b + 1)) else none } ∧
          t.jobs[i].record.counts.get h = (s.jobs[i].record.counts.get h).map (countsAfter p.outcome)) ∧
        t.jobs = s.jobs.set i
          { s.jobs[i] with record := { s.jobs[i].record with counts := t.jobs[i].record.counts } } ∧
        (let clips := ∃ h p c, d.heads.get h = true ∧ (s.cells.get h).prepared = some p ∧
           s.jobs[i].record.counts.get h = some c ∧ RaisesClip p.outcome c
         (clips → t.links = (transmitAll (postAll .clip s)).links) ∧ (¬ clips → t.links = (transmitAll s).links)) ∧
        t.engine = s.engine ∧ t.staging = s.staging ∧ t.store = s.store ∧ t.custody = s.custody ∧ t.pins = s.pins)

/-- The store with every pending copy made the active one (R53). -/
def promoted (t : Store) : Store :=
  { curves := t.curves.map fun c => ⟨if c.pending.isSome then c.pending else c.active, none⟩
    params := t.params.mapH fun _ c => ⟨c.pending.getD c.active, none⟩ }

/-- ARM_BAND's check 9, also taken by a chain (R126, R145): every head of the descriptor's set is fitted and LIFTED. -/
def HeadsFitAndLifted (d : Descriptor) (s : State) : Prop :=
  ∀ h, d.heads.get h = true → (s.params h).fitted = true ∧ (s.heads.get h).state = .lifted

/-- ARM_BAND's check 10, also taken by a chain (R126, R145): every curve that the descriptor names for a head of its set
is SET. -/
def CurvesSet (d : Descriptor) (s : State) : Prop :=
  ∀ h c, d.heads.get h = true → d.curves.get h = some c → s.store.curves[c].active.isSome = true

/-- The band in slot `i` with descriptor `d` and outcome `o` has left ENDING in `t`, its heads at rest as in `x` (R145,
R54). Its phase is its outcome and the pending copies are promoted. A COMPLETE band with a next slot that qualifies
chains into it, and one that does not qualify stops the chain; a chained band ends at its entry to PREPARING while the
cut-abort line is taken or the machine link is down (R130); every other band ends with BAND_ENDED. -/
def BandLeft (o : BandOutcome) (i : Fin 64) (d : Descriptor) (x t : State) : Prop :=
  t.jobs[i].record.phase = o.phase ∧ t.jobs[i].record.outcome = none ∧ t.store = promoted x.store ∧
  (o ≠ .complete ∨ d.nextSlot = none →
    t.engine.state = .ended ∧ t.engine.slot = some i ∧ t.engine.ring = none ∧ t.staging = Staging.reset ∧
      PendingAll .bandEnded t) ∧
  ∀ m, o = .complete → d.nextSlot = some m → m ≠ i →
    (∀ e, x.jobs[m].desc = some e → x.jobs[m].record.phase = .neverRun → x.engine.mounted = some e.cylinder →
      HeadsFitAndLifted e (x.withStore (promoted x.store)) → CurvesSet e (x.withStore (promoted x.store)) →
      t.engine.slot = some m ∧ t.jobs[m].record.nextRing = 0 ∧
      if x.cutAbortTaken then
        t.engine.state = .ended ∧ t.jobs[m].record.phase = .aborted ∧
          t.jobs[m].record.cause = some .cutAbortLine ∧ PendingAll .bandEnded t
      else if (x.links.get .machine).up then
        t.engine.state = .preparing ∧ t.engine.ring = some 0 ∧ t.grid.state = .awaitingIndex ∧
          t.jobs[m].record = { StatusRecord.fresh e.heads with phase := .current }
      else
        t.engine.state = .ended ∧ t.jobs[m].record.phase = .stopped ∧
          t.jobs[m].record.cause = some .linkLost ∧ PendingAll .bandEnded t) ∧
    ((x.jobs[m].desc = none ∨ x.jobs[m].record.phase ≠ .neverRun ∨
        ∃ e, x.jobs[m].desc = some e ∧
          (x.engine.mounted ≠ some e.cylinder ∨ ¬ HeadsFitAndLifted e (x.withStore (promoted x.store)) ∨
            ¬ CurvesSet e (x.withStore (promoted x.store)))) →
      t.engine.state = .ended ∧ t.engine.slot = some i ∧ t.engine.ring = none ∧ PendingAll .chainStopped t)

/-- The band in slot `i` with descriptor `d` ends at boundary L with outcome `o` and cause `c` (R89, R138, R140, R144):
ENDING waits for a head of the set that is ENGAGED or LIFTING, and is left at once when every head was at rest, as in a
DRY_PASS. -/
def EndsAtSeam (o : BandOutcome) (c : Option EndCause) (i : Fin 64) (d : Descriptor) (s t : State) : Prop :=
  t.jobs[i].record.cause = c ∧ t.jobs[i].record.faultedHead = none ∧
  ((∃ h, d.heads.get h = true ∧ ((s.heads.get h).state = .engaged ∨ (s.heads.get h).state = .lifting)) →
    t.engine.state = .ending ∧ t.engine.slot = some i ∧ t.jobs[i].record.outcome = some o ∧
      t.grid.state = .stopped ∧ t.grid.acc = 0 ∧ t.grid.boundaries = 0) ∧
  (d.atRest s = true → BandLeft o i d s t)

/-- Whether the CUTTING slot of a head of the set carries stop mark YES; a TEST_CUT ring carries none (R113, R117). -/
def StopMarked (d : Descriptor) (s : State) : Prop :=
  d.kind ≠ .testCut ∧ ∃ h, d.heads.get h = true ∧ ∃ r tones check,
    (s.staging.heads.get h).slotA = .cutting r tones check true ∨
      (s.staging.heads.get h).slotB = .cutting r tones check true

/-- A head controller after a lift command (R63, R64): a LOWERING head, whose landed sense is off, is LIFTED at once. -/
def liftedHead (now : Nat) (p : HeadParams) (u : HeadUnit) : HeadUnit :=
  match u.state with
  | .lowering => { u with state := .lifted, timeout := none }
  | .engaged => { u with state := .lifting, timeout := some (.lift, now + p.liftMs * 1000) }
  | .lifting => { u with lowerRequest := false }
  | _ => u

/-- The band with descriptor `d` has entered HELD for reason `r` from `s` to `t` (R141): reason stored, pause requested
CLEAR, revolution position and settle count none, BAND_HELD posted, and every head of the set after a lift command, with
drive 0 and neither LOWERING nor ENGAGED; the other heads are as before. -/
def Held (r : HoldReason) (d : Descriptor) (s t : State) : Prop :=
  t.engine.state = .held ∧ t.engine.hold = some r ∧ t.engine.pause = false ∧ t.engine.revPos = none ∧
  t.engine.settleCount = none ∧ PendingAll .bandHeld t ∧
  (∀ h, d.heads.get h = false → t.heads.get h = s.heads.get h) ∧
  (HeadsOk s → ∀ h, d.heads.get h = true →
    (t.heads.get h).state.lowered = false ∧
      t.heads.get h = { liftedHead t.now (s.params h) (s.heads.get h) with drive := 0 })

/-- Boundary L of the cutting revolution of ring r (R33, R113, R138): next ring and rings cut rise, every head of the
set has drive 0, an EMPTY prepared cell and no CUTTING slot, RING_FREED is posted, and for a TEST_CUT band none is. Then
the last ring ends the band COMPLETE and a waiting stop ends it STOPPED, through ENDING or, with every head at rest, at
once (R144, R145); else a stop mark or a pause holds it (R141), or a carriage request is made, in that order. -/
def Obligations.BoundaryLEndsTheRing : Prop :=
  ∀ (s : State) (a : Nat) (d : Descriptor) (i : Fin 64), BringsBoundary d.cut d s → s.engine.slot = some i →
    s.engine.state = .cutting → s.engine.revPos = some .cut → HeadsOk s →
    ∃ t, exec (.stepEvent .forward a) s = .next t ∧
      t.jobs[i].record.nextRing = s.jobs[i].record.nextRing + 1 ∧
      t.jobs[i].record.ringsCut = s.jobs[i].record.ringsCut + 1 ∧
      (∀ h, d.heads.get h = true →
        (t.heads.get h).drive = 0 ∧ (t.cells.get h).prepared = none ∧
          (t.staging.heads.get h).cuttingRing = none) ∧
      t.staging.synth = none ∧
      (d.kind ≠ .testCut → PendingAll .ringFreed t) ∧
      (d.kind = .testCut → ∀ l, (t.links.get l).events.has .ringFreed = (s.links.get l).events.has .ringFreed) ∧
      (if s.jobs[i].record.nextRing + 1 = d.nr then EndsAtSeam .complete none i d s t
      else
        match s.engine.stopAtSeam with
        | some c => EndsAtSeam .stopped (some c.endCause) i d s t
        | none =>
          t.engine.slot = some i ∧ t.engine.ring = some (s.jobs[i].record.nextRing + 1) ∧
          (StopMarked d s → Held .stopMark d s t) ∧
          (¬ StopMarked d s →
            if s.engine.pause then Held .pauseRequest d s t
            else
              t.engine.state = .cutting ∧ t.engine.revPos = some .seam ∧
                (s.engine.target = none →
                  t.engine.target = some (d.x0 + (s.jobs[i].record.nextRing + 1) * d.pitch) ∧
                    t.engine.arrived = false ∧ t.engine.late = 0)))

/-- The clamp of R25. -/
def clampedCode (a : Int) : Nat × CellOutcome :=
  if 4096 ≤ a then (4095, .clipHigh) else if 1 ≤ a then (a.toNat, .cut) else (0, .clipLow)

/-- The computation for one cell, stage by stage (R20, R21, R22, R24, R25), with the ranges the rules give: the depth
lies between its knots, the raw code of a depth of 1 or more lies in −511 to 11,700, and the drive code in 0 to 4095. -/
def Obligations.CellComputation : Prop :=
  ∀ (k : Curve) (p : HeadParams) (policy : Policy) (wear : Nat) (i f : Fin 16), k.fits → p.fits → wear ≤ 100 →
    let tone := 16 * i.val + f.val
    let depth := k[i.val] + ((k[i.val + 1] - k[i.val]) * f.val + 8) / 16
    let code (x : Nat) : Int := p.bias + (((x + wear) * p.gain + 32) / 64 : Nat)
    k[i.val] ≤ depth ∧ depth ≤ k[i.val + 1] ∧ depth ≤ 600 ∧ (f.val = 0 → depth = k[i.val]) ∧
    (∀ x, 1 ≤ x → x ≤ 600 → -511 ≤ code x ∧ code x ≤ 11700) ∧
    (driveOfTone k p policy wear tone).1 ≤ 4095 ∧
    (tone = 0 → driveOfTone k p policy wear tone = (0, .noCell)) ∧
    (tone ≠ 0 →
      driveOfTone k p policy wear tone =
        if depth < p.dmin then
          (if policy = .drop then (0, .dropped) else clampedCode (code p.dmin))
        else if depth = 0 then (0, .noCell)
        else clampedCode (code depth))

/-! ### Indexes -/

/-- An index taken at time `a` at which the engine decides the coming revolution: it finds the engine in CUTTING, in
position CUT only if it is no SLIP, or in PREPARING with the heads ready, the carriage there and the speed settled by this
index (R131, R135). `d` is the current band, in slot `i`. A carriage request that is outstanding is not yet late (R134). -/
def DecidingIndex (a : Nat) (d : Descriptor) (i : Fin 64) (s : State) : Prop :=
  s.inMasterReset = false ∧ s.band = some d ∧ s.engine.slot = some i ∧
    (s.engine.target.isSome = true → s.engine.late < 2) ∧
    ((s.engine.state = .cutting ∧
        (s.engine.revPos = some .cut →
          s.grid.reference = .unreferenced ∨ s.grid.position ≤ 8 ∨ 1048568 ≤ s.grid.position)) ∨
      (s.engine.state = .preparing ∧ s.engine.settleCount.isSome = true ∧ s.engine.arrived = true ∧
        1 ≤ s.engine.settleRun ∧
        judgeSpeed d.texp d.speedTol (measuredPeriod (max s.now a) s.grid.indexTime) = .inside))

/-- The judgement of the revolution that the index at time `a` ends (R16, R157). An index timed in the past is taken
now, and ends a revolution of that length (the model's choice, log entry 2). -/
def judged (a : Nat) (d : Descriptor) (s : State) : Judgement :=
  judgeSpeed d.texp d.speedTol (measuredPeriod (max s.now a) s.grid.indexTime)

/-- Whether staging reports ring `r` ready: always for a TEST_CUT band, and otherwise when every head of the set has a
READY slot that holds it (R111, R117). -/
def DataReady (d : Descriptor) (r : Nat) (s : State) : Prop :=
  d.kind = .testCut ∨ ∀ h, d.heads.get h = true → ∃ tones check mark,
    (s.staging.heads.get h).slotA = .ready r tones check mark ∨
      (s.staging.heads.get h).slotB = .ready r tones check mark

/-- A slot after the index that begins the cutting revolution of ring `r`: READY with ring `r` becomes CUTTING (R111). -/
def takenForCutting (r : Nat) : RingSlot → RingSlot
  | .ready n tones check mark => if n = r then .cutting n tones check mark else .ready n tones check mark
  | x => x

/-- The tone of cell `n` of a TEST_CUT ring: the patches one after another from cell 0, and 0 past the last (R81). -/
def patchTone : List Patch → Nat → Nat
  | [], _ => 0
  | p :: rest, n => if n < p.length then p.tone else patchTone rest (n - p.length)

/-- A cutting revolution begins when data, carriage and speed are in order (R136): the READY slots of ring r become
CUTTING, or the TEST_CUT ring of L tones is synthesised from the patches (R81, R111, R117); each head of the set has its
wear term fixed, cell 0 prepared and drive 0 (R23, R31); the counters are 0 and the record is as it was. An index that
comes before boundary L of a cutting revolution decides as every other does (log entry 20). The index and the period it
judges are timed as log entry 2 says. -/
def Obligations.CuttingRevolutionBegins : Prop :=
  ∀ (s : State) (a : Nat) (d : Descriptor) (i : Fin 64), DecidingIndex a d i s → s.engine.arrived = true →
    judged a d s = .inside → DataReady d s.jobs[i].record.nextRing s →
    ∃ t, exec (.indexEvent a) s = .next t ∧ t.engine.state = .cutting ∧ t.engine.revPos = some .cut ∧
      t.engine.dataIdle = 0 ∧ t.engine.speedDev = 0 ∧ t.jobs = s.jobs ∧
      (d.kind = .testCut → d.fits i → ∃ ring, t.staging = { s.staging with synth := some ring } ∧
        ring.length = d.cut ∧ ∀ n, n < d.cut → (ring.getD n 0#8).toNat = patchTone d.patches n) ∧
      (d.kind ≠ .testCut →
        t.staging.synth = s.staging.synth ∧
        ∀ h, (t.staging.heads.get h).nf = (s.staging.heads.get h).nf ∧
          (t.staging.heads.get h).slotA =
            (if d.heads.get h then takenForCutting s.jobs[i].record.nextRing (s.staging.heads.get h).slotA
             else (s.staging.heads.get h).slotA) ∧
          (t.staging.heads.get h).slotB =
            (if d.heads.get h then takenForCutting s.jobs[i].record.nextRing (s.staging.heads.get h).slotB
             else (s.staging.heads.get h).slotB)) ∧
      (∀ h, d.heads.get h = true →
        (t.cells.get h).wear =
          min (s.params h).wearCap ((s.heads.get h).stylus * (s.params h).wearRate / 16777216) ∧
        (t.cells.get h).prepared = some (cellOf t.staging s.store d h (t.cells.get h).wear 0)) ∧
      (∀ h, d.heads.get h = false → t.cells.get h = s.cells.get h) ∧
      t.heads = (s.heads.mapH fun h u => if d.heads.get h then { u with drive := 0 } else u) ∧
      t.store = s.store ∧ t.custody = s.custody

/-- An idle revolution begins when a condition fails (R136): the record's idle revolutions rise, the data-idle counter
rises for reason DATA alone, an outstanding carriage request is counted (R134), a deviation posts SPEED_DEVIATION and
counts (R135, step 3), every prepared cell of the set is EMPTY (R31) and no slot changes. The engine is HELD for SPEED,
STARVED or a pause that finds no request outstanding, in that order, or goes on in position IDLE with drive 0. An index
that comes before boundary L of a cutting revolution decides as every other does (log entry 20). The index and the
period it judges are timed as log entry 2 says. -/
def Obligations.IdleRevolutionBegins : Prop :=
  ∀ (s : State) (a : Nat) (d : Descriptor) (i : Fin 64), DecidingIndex a d i s →
    (¬ DataReady d s.jobs[i].record.nextRing s ∨ s.engine.arrived = false ∨ judged a d s ≠ .inside) →
    ∃ t, exec (.indexEvent a) s = .next t ∧
      t.engine.speedDev = (if judged a d s = .inside then 0 else min 2 (s.engine.speedDev + 1)) ∧
      (DataReady d s.jobs[i].record.nextRing s → t.engine.dataIdle = s.engine.dataIdle) ∧
      (¬ DataReady d s.jobs[i].record.nextRing s → t.engine.dataIdle = min 255 (s.engine.dataIdle + 1)) ∧
      t.engine.late = (if s.engine.target.isSome then s.engine.late + 1 else s.engine.late) ∧
      t.engine.target = s.engine.target ∧ t.engine.arrived = s.engine.arrived ∧
      t.jobs[i].record.idleRevs = min 4294967295 (s.jobs[i].record.idleRevs + 1) ∧
      t.jobs[i].record.offSpeed =
        (if judged a d s ≠ .inside ∧ s.engine.revPos = some .seam then
          min 4294967295 (s.jobs[i].record.offSpeed + 1) else s.jobs[i].record.offSpeed) ∧
      t.jobs[i].record.nextRing = s.jobs[i].record.nextRing ∧
      (judged a d s ≠ .inside → PendingAll .speedDeviation t) ∧
      t.staging = s.staging ∧ t.store = s.store ∧
      t.cells = (s.cells.mapH fun h c => if d.heads.get h then { c with prepared := none } else c) ∧
      (if t.engine.speedDev = 2 then Held .speed d s t
      else if d.starve ≤ t.engine.dataIdle then Held .starved d s t
      else if s.engine.pause = true ∧ s.engine.target = none then Held .pauseRequest d s t
      else
        t.engine.state = .cutting ∧ t.engine.revPos = some .idle ∧ t.engine.pause = s.engine.pause ∧
          t.heads = s.heads.mapH fun h u => if d.heads.get h then { u with drive := 0 } else u)

/-- An index that decides no revolution. In PREPARING without entering CUTTING (R131): a period inside the window raises
the settle run and any other sets it to 0, the settle count rises once the heads are ready, an outstanding request is
counted (R134), and the eighth index without a settled speed holds the band. In HELD (R134, R141): an outstanding
request is counted and nothing else of the engine moves. In IDLE, ARMED, ENDING and ENDED an index moves nothing of the
engine, heads, cells, jobs, staging, store and custody, and posts nothing (R16). The index and the period it judges are
timed as log entry 2 says. -/
def Obligations.PreparingCountsIndexes : Prop :=
  (∀ (s : State) (a : Nat) (d : Descriptor) (i : Fin 64), s.inMasterReset = false → s.band = some d →
    s.engine.slot = some i → (s.engine.target.isSome = true → s.engine.late < 2) →
    let late := if s.engine.target.isSome then s.engine.late + 1 else s.engine.late
    (s.engine.state = .preparing → s.engine.settleRun ≤ 2 →
      (s.engine.settleCount = none ∨ s.engine.arrived = false ∨ s.engine.settleRun = 0 ∨ judged a d s ≠ .inside) →
      ∃ t, exec (.indexEvent a) s = .next t ∧
        t.engine.settleRun = (if judged a d s = .inside then min 2 (s.engine.settleRun + 1) else 0) ∧
        t.engine.late = late ∧ t.engine.target = s.engine.target ∧ t.engine.arrived = s.engine.arrived ∧
        t.jobs = s.jobs ∧ t.staging = s.staging ∧ t.cells = s.cells ∧ t.store = s.store ∧
        (if t.engine.settleRun < 2 ∧ 7 ≤ s.engine.settleCount.getD 0 then Held .speed d s t
        else
          t.engine.state = .preparing ∧ t.engine.settleCount = s.engine.settleCount.map (fun n => min 8 (n + 1)) ∧
            t.heads = s.heads)) ∧
    (s.engine.state = .held →
      ∃ t, exec (.indexEvent a) s = .next t ∧ t.engine = { s.engine with late := late } ∧ t.heads = s.heads ∧
        t.jobs = s.jobs ∧ t.staging = s.staging ∧ t.cells = s.cells ∧ t.store = s.store ∧ t.custody = s.custody)) ∧
  ∀ (s : State) (a : Nat), s.inMasterReset = false → s.engine.state.abortable = false →
    ∃ t, exec (.indexEvent a) s = .next t ∧ t.engine = s.engine ∧ t.heads = s.heads ∧ t.cells = s.cells ∧
      t.jobs = s.jobs ∧ t.staging = s.staging ∧ t.store = s.store ∧ t.custody = s.custody ∧
      t.links = (transmitAll s).links

/-- An index aborts the band in two cases: a SLIP with a ring being cut, which posts MOTION_FAULT (R4, R135, step 1;
R156), and the third index after a carriage request (R134). -/
def Obligations.IndexesThatAbort : Prop :=
  ∀ (s : State) (a : Nat) (d : Descriptor) (i : Fin 64), s.inMasterReset = false → s.band = some d →
    s.engine.slot = some i → HeadsOk s →
    (s.engine.state = .cutting → s.engine.revPos = some .cut → s.grid.reference = .referenced →
      9 ≤ s.grid.position → s.grid.position ≤ 1048567 →
      ∃ t, exec (.indexEvent a) s = .next t ∧ Aborted .indexSlip none i d s t ∧ PendingAll .motionFault t) ∧
    (s.engine.state.abortable = true → s.engine.target.isSome = true → s.engine.late = 2 →
      s.engine.revPos ≠ some .cut →
      ∃ t, exec (.indexEvent a) s = .next t ∧ Aborted .carriageTimeout none i d s t)

/-- The speed window is a closed range (R157): a known period is INSIDE exactly from Texp × 1,000 − Texp × tol × 10 to
Texp × 1,000 + Texp × tol × 10, OUTSIDE elsewhere, and an unknown one UNKNOWN. -/
def Obligations.SpeedWindowIsClosed : Prop :=
  ∀ texp tol p : Nat,
    judgeSpeed texp tol none = .unknown ∧
    judgeSpeed texp tol (some p) =
      if texp * 1000 - texp * tol * 10 ≤ p ∧ p ≤ texp * 1000 + texp * tol * 10 then .inside else .outside

/-! ### Calibration store -/

/-- A knot of a written curve that offends: above 600, or less than the knot before it (R45). -/
def knotBad (k : Vector (BitVec 16) 17) (n : Fin 17) : Prop :=
  600 < k[n].toNat ∨ ∃ m : Fin 17, m.val + 1 = n.val ∧ k[n].toNat < k[m].toNat

/-- WRITE_CURVE: the checks of Table 3-4 in order, with the first offending knot named (R45), and for an accepted write
the knots applied to the active copy, or staged as the pending copy while the curve is in use (R46). -/
def Obligations.WriteCurveIsAppliedOrStaged : Prop :=
  ∀ (l : LinkId) (curve : Byte) (k : Vector (BitVec 16) 17) (s : State), Ready l s →
    (s.custody ≠ some l → exec (.writeCurve l curve k) s = .next (s.answered l .writeCurve [4#8])) ∧
    (s.custody = some l → 16 ≤ curve.toNat →
      exec (.writeCurve l curve k) s = .next (s.answered l .writeCurve [17#8, 0#8])) ∧
    (∀ n : Fin 17, s.custody = some l → curve.toNat < 16 → knotBad k n → (∀ m : Fin 17, m < n → ¬ knotBad k m) →
      exec (.writeCurve l curve k) s = .next (s.answered l .writeCurve [17#8, BitVec.ofNat 8 (n.val + 1)])) ∧
    (∀ c : Fin 16, s.custody = some l → curve.toNat = c.val → (∀ n, ¬ knotBad k n) →
      exec (.writeCurve l curve k) s =
        .next ((s.withStore
          { s.store with
            curves := s.store.curves.set c
              (if s.curveInUse c then ⟨s.store.curves[c].active, some (k.map BitVec.toNat)⟩
               else ⟨some (k.map BitVec.toNat), none⟩) }).answered l .writeCurve
            [0#8, if s.curveInUse c then 1#8 else 0#8]))

/-- A head controller after its fitted flag changed (R59, R60). -/
def fittedHead (now : Nat) (before : Bool) (p : HeadParams) (u : HeadUnit) : HeadUnit :=
  match before, p.fitted with
  | false, true =>
    if u.ampFault then
      { u with state := .faulted, cause := some .ampFault, drive := 0, timeout := none, lowerRequest := false }
    else if u.landed then { u with state := .lifting, timeout := some (.lift, now + p.liftMs * 1000) }
    else { u with state := .lifted }
  | true, false =>
    { u with state := .offline, cause := none, drive := 0, timeout := none, lowerRequest := false }
  | _, _ => u

/-- WRITE_HEAD_PARAMS: the checks of Table 3-5 in order (R47, R48), and for an accepted write the set staged while the
head is in use, or applied, with the change of the fitted flag handed to the head controller in the same step (R49, R50,
R59, R60). -/
def Obligations.WriteHeadParamsIsAppliedOrStaged : Prop :=
  ∀ (l : LinkId) (head : Byte) (p : ParamsBody) (s : State), Ready l s →
    (s.custody ≠ some l → exec (.writeHeadParams l head p) s = .next (s.answered l .writeHeadParams [4#8])) ∧
    (s.custody = some l → 4 ≤ head.toNat →
      exec (.writeHeadParams l head p) s = .next (s.answered l .writeHeadParams [17#8, 0#8])) ∧
    (∀ n, s.custody = some l → head.toNat < 4 → ¬ paramFieldOk p n → (∀ m, m < n → paramFieldOk p m) →
      exec (.writeHeadParams l head p) s = .next (s.answered l .writeHeadParams [17#8, BitVec.ofNat 8 n])) ∧
    ∀ h : HeadId, s.custody = some l → head.toNat = h.num → (∀ n, paramFieldOk p n) →
      (p.fitted = 0#8 → s.headInUse h = true →
        exec (.writeHeadParams l head p) s = .next (s.answered l .writeHeadParams [14#8])) ∧
      (p.fitted = 1#8 → s.headInUse h = true →
        exec (.writeHeadParams l head p) s =
          .next ((s.withStore
            { s.store with
              params := s.store.params.set h ⟨s.params h, some p.toParams⟩ }).answered l .writeHeadParams
              [0#8, 1#8])) ∧
      (s.headInUse h = false →
        let t := (s.withStore { s.store with params := s.store.params.set h ⟨p.toParams, none⟩ }).withHeads
          (s.heads.set h (fittedHead s.now (s.params h).fitted p.toParams (s.heads.get h)))
        exec (.writeHeadParams l head p) s =
          .next ((if (s.params h).fitted = false ∧ p.fitted = 1#8 ∧ (s.heads.get h).ampFault = true then
            postAll .headFault t else t).answered l .writeHeadParams [0#8, 0#8]))

/-- R51: the active copy of a curve that the current band names, and the active parameters of a head in its set, do not
change while that band stays current. -/
def Obligations.ActiveCalibrationIsFixed : Prop :=
  ∀ (s t : State) (d : Descriptor), step s = .next t → s.band = some d → t.engine.state.isCurrent = true →
    t.engine.slot = s.engine.slot →
    t.band = some d ∧
    (∀ c : Fin 16, s.curveInUse c = true → t.store.curves[c].active = s.store.curves[c].active) ∧
    (∀ h, s.headInUse h = true → t.params h = s.params h)

/-- With no band current nothing is staged and no pending copy waits, and every command keeps it so (R42, R44, R53, R102,
R118). Every command also keeps the law of ring staging (R101 to R103, R105, R109, R111, R117): at most two occupied slots
a head, with consecutive rings below Nr, at most one of them CUTTING, which holds the next ring, and at most one FILLING,
which holds the next-fill ring. -/
def Obligations.NothingIsHeldWithoutBand : Prop :=
  (∀ s t : State, NothingHeld s → step s = .next t → NothingHeld t) ∧
  ∀ s t : State, StagingOk s → RecordsOk s → DescriptorsFit s → step s = .next t → StagingOk t

/-! ### Head controllers -/

/-- A head controller after its landed sense has changed to `on`, for every change that is no fault (R58, R62, R64, R65,
R68). -/
def sensedHead (now : Nat) (p : HeadParams) (on : Bool) (u : HeadUnit) : HeadUnit :=
  match u.state, on with
  | .lowering, true => { u with landed := true, state := .engaged, timeout := none }
  | .lifted, true =>
    { u with landed := true, state := .lifting, drive := 0, timeout := some (.lift, now + p.liftMs * 1000) }
  | .lifting, false =>
    if u.lowerRequest then
      { u with
        landed := false, lowerRequest := false, state := .lowering
        timeout := some (.lower, now + p.lowerMs * 1000) }
    else { u with landed := false, state := .lifted, timeout := none }
  | _, _ => { u with landed := on }

/-- A change of the landed sense, a contact lost in ENGAGED apart (R58, R62, R64, R65, R68, R160): the level is recorded
and the head moves as its state requires, every other head controller is left alone, and for a head not in use nothing
else changes; the last landing of the set starts the settle count (R131), and a band in ENDING waits on unless the
change completes the lift of a head of its set (R144; EndingEndsAtRest has that case). A level that does not change is
no event, and in master reset the line's level alone is followed. The amplifier fault input going off, or coming on in
OFFLINE or FAULTED, is recorded and nothing more (R67, R68), and an expiry whose timeout does not run has no effect (log
entry 6). -/
def Obligations.HeadPortEvents : Prop :=
  ∀ (h : HeadId) (on : Bool) (s : State),
    let p := s.withPins { s.pins with landed := s.pins.landed.set h on }
    (s.inMasterReset = true ∨ (s.heads.get h).landed = on → exec (.landedSenseChange h on) s = .next p) ∧
    (s.inMasterReset = false → (s.heads.get h).landed ≠ on → ¬ ((s.heads.get h).state = .engaged ∧ on = false) →
      (s.headInUse h = false → Supervised s →
        exec (.landedSenseChange h on) s =
          .next (transmitAll (p.withHeads
            (s.heads.set h (sensedHead s.now (s.params h) on (s.heads.get h)))))) ∧
      (¬ (s.engine.state = .ending ∧ s.headInUse h = true ∧ (s.heads.get h).state = .lifting ∧ on = false ∧
          (s.heads.get h).lowerRequest = false) →
        ∃ t, exec (.landedSenseChange h on) s = .next t ∧
        t.heads = s.heads.set h (sensedHead s.now (s.params h) on (s.heads.get h)) ∧
        t.engine =
          { s.engine with
            settleCount :=
              if s.engine.state = .preparing ∧ s.engine.settleCount = none ∧ s.headInUse h = true ∧
                  (s.band.map fun d => d.kind) ≠ some .dryPass ∧ (s.heads.get h).state = .lowering ∧
                  t.setEngaged = true
              then some 0 else s.engine.settleCount } ∧
        t.jobs = s.jobs ∧ t.staging = s.staging ∧ t.store = s.store ∧ t.cells = s.cells ∧ t.grid = s.grid ∧
        t.custody = s.custody)) ∧
    (let q := s.withPins { s.pins with ampFault := s.pins.ampFault.set h on }
     (s.inMasterReset = true ∨ (s.heads.get h).ampFault = on → exec (.ampFaultChange h on) s = .next q) ∧
     (s.inMasterReset = false → Supervised s → (s.heads.get h).ampFault ≠ on →
      (on = false ∨ (s.heads.get h).state = .offline ∨ (s.heads.get h).state = .faulted) →
      exec (.ampFaultChange h on) s =
        .next (transmitAll (q.withHeads (s.heads.set h { s.heads.get h with ampFault := on }))))) ∧
    (s.inMasterReset = false → Supervised s →
      ((∀ t, (s.heads.get h).timeout ≠ some (.lower, t)) →
        exec (.lowerTimeoutExpiry h) s = .next (transmitAll s)) ∧
      ((∀ t, (s.heads.get h).timeout ≠ some (.lift, t)) →
        exec (.liftTimeoutExpiry h) s = .next (transmitAll s)))

/-- What brings a head into FAULTED, and with which cause (R62, R64, R65, R67). -/
def Faults (s : State) (h : HeadId) : Instr → HeadCause → Prop
  | .ampFaultChange k on, .ampFault =>
    k = h ∧ on = true ∧ (s.heads.get h).ampFault = false ∧ (s.heads.get h).state ≠ .offline ∧
      (s.heads.get h).state ≠ .faulted
  | .landedSenseChange k on, .lostContact =>
    k = h ∧ on = false ∧ (s.heads.get h).landed = true ∧ (s.heads.get h).state = .engaged
  | .lowerTimeoutExpiry k, .landTimeout =>
    k = h ∧ (s.heads.get h).state = .lowering ∧ ∃ t, (s.heads.get h).timeout = some (.lower, t)
  | .liftTimeoutExpiry k, .liftTimeout =>
    k = h ∧ (s.heads.get h).state = .lifting ∧ ∃ t, (s.heads.get h).timeout = some (.lift, t)
  | _, _ => False

/-- A head enters FAULTED (R66): drive 0, no timeout, no lower request, the cause stored, the stylus count kept, and
HEAD_FAULT posted to all links. A head in use aborts a band in PREPARING, CUTTING or HELD with the cause and the head of
R69, and a stall that has reached its threshold at that moment posts its MOTION_FAULT, and a STALL_WARN still ARMED, all
the same (R153; the model's reading, log entry 12). In ENDING the cause and the faulted head stand, and the outcome stands
or becomes the phase when this was the last head to come to rest (R89, R144); in ARMED, and for a head not in use, no band
ends. -/
def Obligations.HeadFaultsAreLatchedAndReported : Prop :=
  ∀ (s : State) (h : HeadId) (c : Instr) (cause : HeadCause), s.inMasterReset = false → Faults s h c cause →
    ∃ t, exec c s = .next t ∧
      (t.heads.get h).state = .faulted ∧ (t.heads.get h).cause = some cause ∧ (t.heads.get h).drive = 0 ∧
      (t.heads.get h).timeout = none ∧ (t.heads.get h).lowerRequest = false ∧
      (t.heads.get h).stylus = (s.heads.get h).stylus ∧ PendingAll .headFault t ∧
      (∀ i d, HeadsOk s → s.band = some d → s.engine.slot = some i → s.headInUse h = true →
        s.engine.state.abortable = true →
        Aborted (if cause = .landTimeout then .landTimeout else .headFault) (some h) i d s t ∧
          (s.sup.active = true → s.sup.limit * 1000 ≤ s.sup.stall →
            PendingAll .motionFault t ∧ (s.sup.warnArmed = true → PendingAll .stallWarn t))) ∧
      (∀ i o, s.engine.state = .ending → s.engine.slot = some i → s.headInUse h = true →
        s.jobs[i].record.outcome = some o →
        t.jobs[i].record.cause = s.jobs[i].record.cause ∧
          t.jobs[i].record.faultedHead = s.jobs[i].record.faultedHead ∧
          ((∀ k, k ≠ h → s.headInUse k = true → (s.heads.get k).state.atRest = true) →
            t.jobs[i].record.phase = o.phase ∧ t.jobs[i].record.outcome = none) ∧
          (∀ k, k ≠ h → s.headInUse k = true → (s.heads.get k).state.atRest = false →
            t.engine = s.engine ∧ t.jobs = s.jobs ∧ t.staging = s.staging ∧ t.store = s.store ∧ t.grid = s.grid)) ∧
      (s.headInUse h = false ∨ s.engine.state = .armed →
        t.engine = s.engine ∧ t.jobs = s.jobs ∧ (∀ k, k ≠ h → t.heads.get k = s.heads.get k) ∧ t.cells = s.cells ∧
          t.staging = s.staging ∧ t.store = s.store ∧ t.grid = s.grid ∧ t.custody = s.custody)

/-- CLEAR_HEAD_FAULT on the machine link, row by row of R70: a head number outside 0 to 3, a head that is not FAULTED, an
amplifier fault level that is ON, and the clearing, which leaves the head LIFTED or LIFTING by its landed sense and, for
a head not in use or a band not ENDING, changes nothing else. -/
def Obligations.ClearHeadFaultClears : Prop :=
  ∀ (head : Byte) (s : State), Ready .machine s →
    (4 ≤ head.toNat →
      exec (.clearHeadFault .machine head) s = .next (s.answered .machine .clearHeadFault [17#8, 0#8])) ∧
    ∀ h : HeadId, head.toNat = h.num →
      ((s.heads.get h).state ≠ .faulted →
        exec (.clearHeadFault .machine head) s = .next (s.answered .machine .clearHeadFault [0#8])) ∧
      ((s.heads.get h).state = .faulted → (s.heads.get h).ampFault = true →
        exec (.clearHeadFault .machine head) s = .next (s.answered .machine .clearHeadFault [25#8])) ∧
      ((s.heads.get h).state = .faulted → (s.heads.get h).ampFault = false → Supervised s →
        (s.headInUse h = true → s.engine.state ≠ .ending) →
        exec (.clearHeadFault .machine head) s =
          .next ((s.withHeads (s.heads.set h
            (if (s.heads.get h).landed then
              { s.heads.get h with
                state := .lifting, cause := none, timeout := some (.lift, s.now + (s.params h).liftMs * 1000) }
             else { s.heads.get h with state := .lifted, cause := none }))).answered .machine .clearHeadFault [0#8]))

/-- SET_STYLUS_COUNT: the checks of R71 in order, and the count set, whatever the head's state. -/
def Obligations.SetStylusCountSets : Prop :=
  ∀ (l : LinkId) (head : Byte) (n : BitVec 32) (s : State), Ready l s →
    (s.custody ≠ some l → exec (.setStylusCount l head n) s = .next (s.answered l .setStylusCount [4#8])) ∧
    (s.custody = some l → 4 ≤ head.toNat →
      exec (.setStylusCount l head n) s = .next (s.answered l .setStylusCount [17#8, 0#8])) ∧
    ∀ h : HeadId, s.custody = some l → head.toNat = h.num →
      (s.headInUse h = true → exec (.setStylusCount l head n) s = .next (s.answered l .setStylusCount [14#8])) ∧
      (s.headInUse h = false →
        exec (.setStylusCount l head n) s =
          .next ((s.withHeads (s.heads.set h { s.heads.get h with stylus := n.toNat })).answered l .setStylusCount
            [0#8]))

/-- Every command keeps each head controller consistent (Table 4-1; R25, R57, R61 to R66): in particular a drive output
above 0 stands only at an ENGAGED head and never exceeds 4095. Every command keeps the rest of R35 too, and what R31 and
R32 say of a prepared cell: both stand only in a cutting revolution, on a head of the set, a drive output only in a band
that is no DRY_PASS and in a cell period of 0 to L − 1, and a prepared cell only with the index of the next boundary. -/
def Obligations.HeadsStayConsistent : Prop :=
  (∀ s t : State, HeadsOk s → step s = .next t → HeadsOk t) ∧
  ∀ s t : State, DriveOk s → GridOk s → HeadsOk s → RecordsOk s → DescriptorsFit s → step s = .next t → DriveOk t

/-- The law of R29: a head's stylus count never decreases, except through SET_STYLUS_COUNT or master reset. -/
def Obligations.StylusCountNeverFalls : Prop :=
  ∀ (c : Instr) (s t : State) (h : HeadId), exec c s = .next t → s.inMasterReset = false →
    t.inMasterReset = false → c ≠ .powerOn → (∀ l head n, c ≠ .setStylusCount l head n) →
    (∀ l body check, c ≠ .frameReceived l 0x14#8 body check) → (s.heads.get h).stylus ≤ 4294967295 →
    (s.heads.get h).stylus ≤ (t.heads.get h).stylus ∧ (t.heads.get h).stylus ≤ 4294967295

/-! ### Job table -/

/-- WRITE_DESCRIPTOR and CLEAR_DESCRIPTOR (R82 to R85): the checks in order, with the first offending field named, and
for an accepted request the slot's descriptor written within the limits of Table 5-2 or made EMPTY and its record reset
to NEVER_RUN; a refusal changes nothing. -/
def Obligations.DescriptorsAreWrittenAndCleared : Prop :=
  ∀ (l : LinkId) (slot : Byte) (d : DescriptorBody) (s : State), Ready l s →
    d.patches.length = d.patchCount.toNat →
    (s.custody ≠ some l →
      exec (.writeDescriptor l slot d) s = .next (s.answered l .writeDescriptor [4#8]) ∧
        exec (.clearDescriptor l slot) s = .next (s.answered l .clearDescriptor [4#8])) ∧
    (s.custody = some l → 64 ≤ slot.toNat →
      exec (.writeDescriptor l slot d) s = .next (s.answered l .writeDescriptor [17#8, 0#8]) ∧
        exec (.clearDescriptor l slot) s = .next (s.answered l .clearDescriptor [17#8, 0#8])) ∧
    ∀ i : Fin 64, s.custody = some l → slot.toNat = i.val →
      (∀ n, ¬ descriptorFieldOk slot d n → (∀ m, m < n → descriptorFieldOk slot d m) →
        exec (.writeDescriptor l slot d) s =
          .next (s.answered l .writeDescriptor [17#8, BitVec.ofNat 8 n])) ∧
      (s.slotInUse i = true →
        ((∀ n, descriptorFieldOk slot d n) →
          exec (.writeDescriptor l slot d) s = .next (s.answered l .writeDescriptor [18#8])) ∧
        exec (.clearDescriptor l slot) s = .next (s.answered l .clearDescriptor [18#8])) ∧
      (s.slotInUse i = false →
        ((∀ n, descriptorFieldOk slot d n) →
          ∃ e : Descriptor, e.fits i ∧
            e.kind.code = d.kind.toNat ∧ e.cylinder = ⟨d.job.toNat, d.separation.toNat⟩ ∧
            (∀ h : HeadId, e.heads.get h = inSet d.headSet h.num) ∧ e.x0 = d.x0.toNat ∧ e.pitch = d.pitch.toNat ∧
            e.nr = d.nr.toNat ∧ e.nc = d.nc.toNat ∧ e.cut = d.cut.toNat ∧ e.stagger = d.stagger.toNat ∧
            (∀ h : HeadId, e.heads.get h = true →
              (e.curves.get h).map (fun c => c.val) = some (d.curves.get h).toNat) ∧
            e.policy.code = d.policy.toNat ∧ e.texp = d.texp.toNat ∧ e.speedTol = d.speedTol.toNat ∧
            e.posTol = d.posTol.toNat ∧ e.starve = d.starve.toNat ∧
            e.nextSlot.map (fun m => m.val) = (if d.nextSlot = 255#8 then none else some d.nextSlot.toNat) ∧
            e.patches = d.patches.map (fun p => ⟨p.1.toNat, p.2.toNat⟩) ∧
            exec (.writeDescriptor l slot d) s =
              .next ((s.withJobs (s.jobs.set i ⟨some e, StatusRecord.fresh e.heads⟩)).answered l .writeDescriptor
                [0#8])) ∧
        exec (.clearDescriptor l slot) s =
          .next ((s.withJobs (s.jobs.set i ⟨none, StatusRecord.fresh (PerHead.pure false)⟩)).answered l
            .clearDescriptor [0#8]))

/-- R77 and R95: the record of the current slot alone is CURRENT, and exactly while a band is current; an outcome stands
in ENDING alone; rings cut never exceeds next ring and next ring never the ring count, which it reaches in a complete
band alone. Every command keeps it so. -/
def Obligations.RecordsAgreeWithTheEngine : Prop :=
  ∀ s t : State, RecordsOk s → DescriptorsFit s → step s = .next t → RecordsOk t

/-- R89: an outcome that stands is not replaced while the band stays in ENDING, nor are the cause and the faulted head,
whatever command comes. -/
def Obligations.FirstCauseStands : Prop :=
  ∀ (c : Instr) (s t : State) (i : Fin 64), exec c s = .next t → s.engine.state = .ending → t.engine.state = .ending →
    s.engine.slot = some i → t.engine.slot = some i →
    t.jobs[i].record.outcome = s.jobs[i].record.outcome ∧ t.jobs[i].record.cause = s.jobs[i].record.cause ∧
      t.jobs[i].record.faultedHead = s.jobs[i].record.faultedHead

/-! ### Ring staging -/

/-- Head `h` takes ring data of the current band, which has descriptor `d` (R104, check 4): the engine is ARMED,
PREPARING, CUTTING or HELD, the band is no TEST_CUT, and the head is in its set. -/
def TakesRings (h : HeadId) (d : Descriptor) (s : State) : Prop :=
  (s.engine.state = .armed ∨ s.engine.state = .preparing ∨ s.engine.state = .cutting ∨ s.engine.state = .held) ∧
    (∃ i, s.engine.slot = some i ∧ s.jobs[i].desc = some d) ∧ d.kind ≠ .testCut ∧ d.heads.get h = true

/-- `n` bytes of a value, most significant byte first (R185). -/
def bytesOf : Nat → Nat → List Byte
  | 0, _ => []
  | n + 1, v => BitVec.ofNat 8 (v / 256 ^ n) :: bytesOf n v

/-- The tones received of a head's FILLING slot; none when it has none (R106). -/
def tonesReceived (t : HeadStaging) : Option Nat :=
  match t.slotA, t.slotB with
  | .filling _ tones _, _ => some tones.length
  | _, .filling _ tones _ => some tones.length
  | _, _ => none

/-- A head's staging position in a reply: its next-fill ring in 3 bytes, 16,777,215 for none, and the tones received of
its FILLING slot in 2 bytes, 0 when there is none (R106, Table 10-10). -/
def positionBytes (t : HeadStaging) : List Byte :=
  (match t.nf with
    | some n => bytesOf 3 n
    | none => [0xFF#8, 0xFF#8, 0xFF#8]) ++ bytesOf 2 ((tonesReceived t).getD 0)

/-- What tones stored from cell `k` on add to the running check (R105). -/
def checkSum (k : Nat) (tones : List Byte) : Nat :=
  ((List.range tones.length).map fun j => (tones.getD j 0#8).toNat * ((k + j) % 251 + 1)).sum

/-- A FILLING slot after a segment is stored at its end; another slot is as it was (R105). -/
def filledWith (tones : List Byte) : RingSlot → RingSlot
  | .filling r old check => .filling r (old ++ tones) ((check + checkSum old.length tones) % 65536)
  | x => x

/-- RING_SEGMENT on the prepress link (R104, R105, R106): the checks of Table 6-2 in order, each with its result and the
staging position, and for an accepted segment its tones stored at the end of the FILLING slot with the running check, or
in a new FILLING slot begun in slot A if that is EMPTY and in slot B otherwise. A refusal changes nothing. -/
def Obligations.RingSegmentIsStored : Prop :=
  ∀ (head : Byte) (ring offset : BitVec 16) (tones : List Byte) (s : State), Ready .prepress s →
    let run := exec (.ringSegment .prepress head ring offset tones) s
    (4 ≤ head.toNat → run = .next (s.answered .prepress .ringSegment [17#8, 0#8])) ∧
    ∀ h : HeadId, head.toNat = h.num →
      let st := s.staging.heads.get h
      let refused (b : List Byte) : Prop :=
        run = .next (s.answered .prepress .ringSegment (b ++ positionBytes st))
      let stored (x : HeadStaging) : Prop :=
        run = .next ((s.withStaging { s.staging with heads := s.staging.heads.set h x }).answered .prepress .ringSegment
          (0#8 :: positionBytes x))
      (tones.length = 0 ∨ 1024 < tones.length → refused [17#8, 3#8]) ∧
      (1 ≤ tones.length → tones.length ≤ 1024 →
        ((∀ d, ¬ TakesRings h d s) → refused [19#8]) ∧
        ∀ d, TakesRings h d s →
          (d.nr ≤ ring.toNat → refused [17#8, 1#8]) ∧
          (ring.toNat < d.nr →
            (st.nf ≠ some ring.toNat → refused [20#8]) ∧
            (st.nf = some ring.toNat →
              (∀ n, tonesReceived st = some n →
                (offset.toNat ≠ n → refused [21#8]) ∧
                (offset.toNat = n → d.cut < n + tones.length → refused [23#8]) ∧
                (offset.toNat = n → n + tones.length ≤ d.cut →
                  stored { st with slotA := filledWith tones st.slotA, slotB := filledWith tones st.slotB })) ∧
              (tonesReceived st = none →
                (st.slotA ≠ .empty → st.slotB ≠ .empty → refused [22#8]) ∧
                (st.slotA = .empty ∨ st.slotB = .empty →
                  (offset.toNat ≠ 0 → refused [21#8]) ∧
                  (offset.toNat = 0 → d.cut < tones.length → refused [23#8]) ∧
                  (offset.toNat = 0 → tones.length ≤ d.cut →
                    let slot : RingSlot := .filling ring.toNat tones (checkSum 0 tones % 65536)
                    stored (if st.slotA = .empty then { st with slotA := slot } else { st with slotB := slot })))))))

/-- The slots of a head that holds one FILLING slot, with that slot changed to `x`. -/
def replaceFilling (x : RingSlot) (t : HeadStaging) : HeadStaging :=
  match t.slotA, t.slotB with
  | .filling _ _ _, _ => { t with slotA := x }
  | _, .filling _ _ _ => { t with slotB := x }
  | _, _ => t

/-- RING_CLOSE on the prepress link (R108, R109): the checks of Table 6-3 in order; a short ring and a wrong check empty
the FILLING slot; an accepted close makes it READY with its stop mark and raises nf. A head holds at most one FILLING
slot, by the law of R102. -/
def Obligations.RingCloseMakesReady : Prop :=
  ∀ (head : Byte) (ring check : BitVec 16) (mark : Byte) (s : State), Ready .prepress s →
    let run := exec (.ringClose .prepress head ring check mark) s
    (4 ≤ head.toNat → run = .next (s.answered .prepress .ringClose [17#8, 0#8])) ∧
    ∀ h : HeadId, head.toNat = h.num →
      let st := s.staging.heads.get h
      let refused (b : List Byte) : Prop := run = .next (s.answered .prepress .ringClose (b ++ positionBytes st))
      let answer (b : List Byte) (x : HeadStaging) : Prop :=
        run = .next ((s.withStaging { s.staging with heads := s.staging.heads.set h x }).answered .prepress .ringClose
          (b ++ positionBytes x))
      (∀ r tones c r' tones' c', ¬ (st.slotA = .filling r tones c ∧ st.slotB = .filling r' tones' c')) →
      (2 ≤ mark.toNat → refused [17#8, 3#8]) ∧
      (mark.toNat < 2 →
        ((∀ d, ¬ TakesRings h d s) → refused [19#8]) ∧
        ∀ d, TakesRings h d s →
          (d.nr ≤ ring.toNat → refused [17#8, 1#8]) ∧
          (ring.toNat < d.nr →
            (tonesReceived st = none → refused [20#8]) ∧
            ∀ r tones c, (st.slotA = .filling r tones c ∨ st.slotB = .filling r tones c) →
              (r ≠ ring.toNat → refused [20#8]) ∧
              (r = ring.toNat → tones.length ≠ d.cut → answer [23#8] (replaceFilling .empty st)) ∧
              (r = ring.toNat → tones.length = d.cut → check.toNat ≠ c →
                answer [24#8] (replaceFilling .empty st)) ∧
              (r = ring.toNat → tones.length = d.cut → check.toNat = c →
                answer [0#8]
                  { replaceFilling (.ready r tones c (mark == 1#8)) st with nf := st.nf.map fun n => n + 1 })))

/-- The ring that a CUTTING slot holds (R101). -/
def ringCut : RingSlot → Option Nat
  | .cutting r _ _ _ => some r
  | _ => none

/-- DISCARD_RINGS on the prepress link (R115): FILLING and READY slots of the head become EMPTY, a CUTTING slot is kept,
and nf becomes the CUTTING ring + 1, or the record's next ring; a head that takes no ring data is refused. -/
def Obligations.DiscardRingsEmptiesTheHead : Prop :=
  ∀ (head : Byte) (s : State), Ready .prepress s →
    let run := exec (.discardRings .prepress head) s
    (4 ≤ head.toNat → run = .next (s.answered .prepress .discardRings [17#8, 0#8])) ∧
    ∀ h : HeadId, head.toNat = h.num →
      let st := s.staging.heads.get h
      ((∀ d, ¬ TakesRings h d s) →
        run = .next (s.answered .prepress .discardRings (19#8 :: positionBytes st))) ∧
      (∀ d i, TakesRings h d s → s.engine.slot = some i →
        let x : HeadStaging :=
          { slotA := if (ringCut st.slotA).isSome then st.slotA else .empty
            slotB := if (ringCut st.slotB).isSome then st.slotB else .empty
            nf :=
              match ringCut st.slotA, ringCut st.slotB with
              | some r, _ => some (r + 1)
              | none, some r => some (r + 1)
              | none, none => some s.jobs[i].record.nextRing }
        run = .next ((s.withStaging { s.staging with heads := s.staging.heads.set h x }).answered .prepress
          .discardRings (0#8 :: positionBytes x)))

/-- R110: the ring check is the sum of each tone times (k mod 251) + 1, mod 65,536, and does not depend on how the ring
was cut into segments. -/
def Obligations.RingCheckIsTheWeightedSum : Prop :=
  ∀ tones more : List Byte,
    ringCheck tones =
      ((List.range tones.length).map fun k => (tones.getD k 0#8).toNat * (k % 251 + 1)).sum % 65536 ∧
    ringCheck (tones ++ more) = runCheck tones.length (ringCheck tones) more

/-! ### Band engine -/

/-- R124, Table 7-2: a request taken in a state outside its column is refused with the result given, and changes
nothing. The codes are those of R185: BUSY 7, NOT_ARMED 8, NOT_HELD 9, NOT_ENDED 10. They come from the machine link,
STOP_AT_ONCE from any link (R178). -/
def Obligations.RequestsOutOfState : Prop :=
  ∀ s : State, (Ready .machine s →
    (s.engine.state ≠ .idle → ∀ form job separation,
      exec (.mountCylinder .machine form job separation) s = .next (s.answered .machine .mountCylinder [7#8])) ∧
    (s.engine.state ≠ .idle → s.custody = some .machine → ∀ slot restart,
      exec (.armBand .machine slot restart) s = .next (s.answered .machine .armBand [7#8])) ∧
    (s.engine.state ≠ .armed →
      exec (.disarm .machine) s = .next (s.answered .machine .disarm [8#8]) ∧
        exec (.startBand .machine) s = .next (s.answered .machine .startBand [8#8])) ∧
    (s.engine.state ≠ .preparing → s.engine.state ≠ .cutting →
      exec (.pauseBand .machine) s = .next (s.answered .machine .pauseBand [7#8])) ∧
    (s.engine.state ≠ .held →
      exec (.resumeBand .machine) s = .next (s.answered .machine .resumeBand [9#8])) ∧
    (s.engine.state.abortable = false →
      exec (.stopAtSeam .machine) s = .next (s.answered .machine .stopAtSeam [7#8])) ∧
    (s.engine.state ≠ .ended → exec (.ackEnd .machine) s = .next (s.answered .machine .ackEnd [10#8]))) ∧
    ∀ l, Ready l s → s.engine.state.abortable = false →
      exec (.stopAtOnce l) s = .next (s.answered l .stopAtOnce [7#8])

/-- R125 and R129. MOUNT_CYLINDER in IDLE sets the mounted identity to the identity given or to NONE; another form is
refused at field 0 and a separation outside 0 to 15 at field 2. ACK_END takes the engine from ENDED to IDLE with the
current slot and the current ring none, and changes no record; while the engine is ENDED, MOUNT_CYLINDER and ARM_BAND are
refused BUSY. -/
def Obligations.MountAndAcknowledge : Prop :=
  (∀ (form : Byte) (job : BitVec 32) (separation : Byte) (s : State), Ready .machine s → s.engine.state = .idle →
    exec (.mountCylinder .machine form job separation) s =
      .next (if form = 0#8 then
          (s.withEngine { s.engine with mounted := none }).answered .machine .mountCylinder [0#8]
        else if form = 1#8 then
          (if separation.toNat ≤ 15 then
            (s.withEngine { s.engine with mounted := some ⟨job.toNat, separation.toNat⟩ }).answered .machine
              .mountCylinder [0#8]
          else s.answered .machine .mountCylinder [17#8, 2#8])
        else s.answered .machine .mountCylinder [17#8, 0#8])) ∧
  ∀ s : State, Ready .machine s → s.engine.state = .ended →
    exec (.ackEnd .machine) s =
      .next ((s.withEngine { s.engine with state := .idle, slot := none, ring := none }).answered .machine .ackEnd
        [0#8]) ∧
    (∀ form job separation,
      exec (.mountCylinder .machine form job separation) s = .next (s.answered .machine .mountCylinder [7#8])) ∧
    (s.custody = some .machine → ∀ slot restart,
      exec (.armBand .machine slot restart) s = .next (s.answered .machine .armBand [7#8]))

/-- The record of a slot that is armed (R94). -/
def armedRecord (d : Descriptor) (restart : Bool) (r : StatusRecord) : StatusRecord :=
  if restart = true ∨ r.phase = .neverRun then { StatusRecord.fresh d.heads with phase := .current }
  else { r with phase := .current, outcome := none, cause := none, faultedHead := none, partialRing := none }

/-- R126: ARM_BAND's checks in order, and the arming, which sets the record (R94), the next-fill rings (R103) and the
engine, lowers no head and changes nothing else. -/
def Obligations.ArmBandArms : Prop :=
  ∀ (slot restart : Byte) (s : State), Ready .machine s →
    let run := exec (.armBand .machine slot restart) s
    let refused (b : List Byte) : Prop := run = .next (s.answered .machine .armBand b)
    (s.custody ≠ some .machine → refused [4#8]) ∧
    (s.custody = some .machine → s.engine.state = .idle →
      (64 ≤ slot.toNat → refused [17#8, 0#8]) ∧
      ∀ i : Fin 64, slot.toNat = i.val →
        (2 ≤ restart.toNat → refused [17#8, 1#8]) ∧
        (restart.toNat < 2 →
          (s.jobs[i].desc = none → refused [11#8]) ∧
          ∀ d, s.jobs[i].desc = some d →
            (s.engine.mounted ≠ some d.cylinder → refused [12#8]) ∧
            (s.engine.mounted = some d.cylinder →
              (¬ HeadsFitAndLifted d s → refused [13#8]) ∧
              (HeadsFitAndLifted d s →
                (¬ CurvesSet d s → refused [15#8]) ∧
                (CurvesSet d s →
                  (restart = 0#8 → s.jobs[i].record.phase = .complete → refused [16#8]) ∧
                  (restart = 1#8 ∨ s.jobs[i].record.phase ≠ .complete → Supervised s →
                    let r := armedRecord d (restart == 1#8) s.jobs[i].record
                    run = .next ((((s.withJobs (s.jobs.set i ⟨some d, r⟩)).withStaging
                      { s.staging with
                        heads := s.staging.heads.mapH fun h t =>
                          { t with
                            nf :=
                              if d.heads.get h = true ∧ d.kind ≠ .testCut then some r.nextRing
                              else none } }).withEngine
                      { s.engine with
                        state := .armed, slot := some i, ring := some r.nextRing, pause := false,
                        stopAtSeam := none, dataIdle := 0, speedDev := 0, settleRun := 0, settleCount := none,
                        hold := none, target := none }).answered .machine .armBand [0#8])))))))

/-- R127: DISARM in ARMED takes the engine to IDLE; the record takes STOPPED with cause OPERATOR_STOP if its next ring or
a count is above 0 and NEVER_RUN otherwise (R88), the pending copies are promoted (R53), every slot is emptied (R118),
and nothing else changes. -/
def Obligations.DisarmReturnsToIdle : Prop :=
  ∀ (s : State) (i : Fin 64), Ready .machine s → s.engine.state = .armed → s.engine.slot = some i → Supervised s →
    s.sup.active = false →
    exec (.disarm .machine) s =
      .next (((((s.withJobs (s.jobs.set i
        { s.jobs[i] with
          record :=
            if 0 < s.jobs[i].record.nextRing ∨ s.jobs[i].record.anyCount = true then
              { s.jobs[i].record with phase := .stopped, cause := some .operatorStop }
            else { s.jobs[i].record with phase := .neverRun } })).withStaging Staging.reset).withStore
        (promoted s.store)).withEngine { s.engine with state := .idle, slot := none, ring := none }).answered .machine
        .disarm [0#8])

/-- A head controller after a lower command (R61). -/
def loweredHead (now : Nat) (p : HeadParams) (u : HeadUnit) : HeadUnit :=
  match u.state with
  | .lifted => { u with state := .lowering, timeout := some (.lower, now + p.lowerMs * 1000) }
  | .lifting => { u with lowerRequest := true }
  | _ => u

/-- START_BAND in ARMED and RESUME_BAND in HELD enter PREPARING (R128, R130, R141): refused ABORT_ASSERTED while the
cut-abort line is taken; an abort naming the lowest FAULTED head in place of the entry actions; and otherwise the lower
commands, the counters, the carriage put to the record's next ring, and for START_BAND the grid AWAITING_INDEX. -/
def Obligations.StartAndResumeEnterPreparing : Prop :=
  ∀ (s : State) (i : Fin 64) (d : Descriptor) (start : Bool), Ready .machine s → s.band = some d →
    s.engine.slot = some i → s.engine.state = (if start then .armed else .held) →
    let run := exec (if start then .startBand .machine else .resumeBand .machine) s
    let kind : ReqKind := if start then .startBand else .resumeBand
    (s.cutAbortTaken = true → run = .next (s.answered .machine kind [26#8])) ∧
    (s.cutAbortTaken = false →
      (∀ h, HeadsOk s → d.heads.get h = true → (s.heads.get h).state = .faulted →
        (∀ k : HeadId, k.num < h.num → d.heads.get k = true → (s.heads.get k).state ≠ .faulted) →
        ∃ t, run = .next t ∧ Replied .machine kind [0#8] s t ∧
          Aborted (if (s.heads.get h).cause = some .landTimeout then .landTimeout else .headFault) (some h) i d s t) ∧
      ((∀ h, d.heads.get h = true → (s.heads.get h).state ≠ .faulted) →
        ∃ t, run = .next t ∧ Replied .machine kind [0#8] s t ∧
          t.heads =
            (if d.kind = .dryPass then s.heads else
              s.heads.mapH fun h u => if d.heads.get h then loweredHead s.now (s.params h) u else u) ∧
          t.grid = (if start then { s.grid with state := .awaitingIndex, acc := 0, boundaries := 0 } else s.grid) ∧
          t.engine.state = .preparing ∧ t.engine.hold = none ∧ t.engine.settleRun = 0 ∧ t.engine.speedDev = 0 ∧
          t.engine.dataIdle = s.engine.dataIdle ∧
          t.engine.settleCount = (if d.kind = .dryPass then some 0 else none) ∧
          (let target := d.x0 + s.jobs[i].record.nextRing * d.pitch
           match s.engine.target, s.engine.lastArrival with
           | some x, _ => t.engine.target = some x ∧ t.engine.late = s.engine.late ∧
               t.engine.arrived = s.engine.arrived
           | none, some p =>
             if absDiff p target ≤ d.posTol then t.engine.target = none ∧ t.engine.arrived = true
             else t.engine.target = some target ∧ t.engine.late = 0 ∧ t.engine.arrived = false
           | none, none => t.engine.target = some target ∧ t.engine.late = 0 ∧ t.engine.arrived = false) ∧
          (Supervised s → Supervised t) ∧ t.jobs = s.jobs ∧ t.staging = s.staging ∧ t.store = s.store ∧ t.cells = s.cells ∧
          t.custody = s.custody))

/-- R139: PAUSE_BAND sets pause requested in PREPARING, in position CUT and while a carriage request is outstanding,
holds the band at once in the seam or an idle revolution with none outstanding, and changes nothing when it is SET. -/
def Obligations.PauseBandHoldsAtASeam : Prop :=
  ∀ s : State, Ready .machine s →
    let set := s.withEngine { s.engine with pause := true }
    (s.engine.state = .preparing → exec (.pauseBand .machine) s = .next (set.answered .machine .pauseBand [0#8])) ∧
    (s.engine.state = .cutting → s.engine.pause = true →
      exec (.pauseBand .machine) s = .next (s.answered .machine .pauseBand [0#8])) ∧
    (s.engine.state = .cutting → s.engine.pause = false →
      s.engine.revPos = some .cut ∨ s.engine.target.isSome = true →
      exec (.pauseBand .machine) s = .next (set.answered .machine .pauseBand [0#8])) ∧
    (s.engine.state = .cutting → s.engine.pause = false → s.engine.revPos ≠ some .cut → s.engine.target = none →
      HeadsOk s →
      ∃ t, exec (.pauseBand .machine) s = .next t ∧ Replied .machine .pauseBand [0#8] s t ∧
        t.engine =
          { s.engine with
            state := .held, hold := some .pauseRequest, pause := false, revPos := none, settleCount := none } ∧
        (∀ h, s.headInUse h = true → (t.heads.get h).state.lowered = false ∧ (t.heads.get h).drive = 0) ∧
        (∀ h, s.headInUse h = false → t.heads.get h = s.heads.get h) ∧
        PendingAll .bandHeld t ∧ t.jobs = s.jobs ∧ t.staging = s.staging ∧ t.store = s.store ∧ t.grid = s.grid ∧
        t.cells = s.cells)

/-- The current band is stopped from `s` to `t` with cause `c` (R89, R140, R144, R145). -/
def Stopped (c : EndCause) (i : Fin 64) (d : Descriptor) (s t : State) : Prop :=
  t.jobs[i].record.cause = some c ∧ t.jobs[i].record.faultedHead = none ∧
  t.jobs[i].record.nextRing = s.jobs[i].record.nextRing ∧
  t.jobs[i].record.partialRing = s.jobs[i].record.partialRing ∧
  t.engine.slot = some i ∧ t.engine.target = none ∧ t.engine.pause = false ∧ t.engine.stopAtSeam = none ∧
  t.engine.revPos = none ∧ t.engine.hold = none ∧
  t.grid.state = .stopped ∧ t.grid.acc = 0 ∧ t.grid.boundaries = 0 ∧
  (∀ h, d.heads.get h = true → (t.heads.get h).state.lowered = false) ∧
  (if d.atRest t then
    t.engine.state = .ended ∧ t.jobs[i].record.phase = .stopped ∧ t.jobs[i].record.outcome = none ∧
      PendingAll .bandEnded t
  else
    t.engine.state = .ending ∧ t.jobs[i].record.phase = s.jobs[i].record.phase ∧
      t.jobs[i].record.outcome = some .stopped)

/-- R140: STOP_AT_SEAM waits for boundary L in position CUT and stops the band at once elsewhere; STOP_AT_ONCE, from any
link, aborts it with cause OPERATOR_ABORT. -/
def Obligations.StopRequestsEndTheBand : Prop :=
  ∀ (s : State) (i : Fin 64) (d : Descriptor) (l : LinkId), s.band = some d → s.engine.slot = some i →
    s.engine.state.abortable = true → HeadsOk s →
    (Ready .machine s → s.engine.state = .cutting → s.engine.revPos = some .cut → Supervised s →
      exec (.stopAtSeam .machine) s =
        .next ((s.withEngine
          { s.engine with
            stopAtSeam := some (match s.engine.stopAtSeam with
              | some c => c
              | none => .operatorStop) }).answered .machine .stopAtSeam [0#8])) ∧
    (Ready .machine s → ¬ (s.engine.state = .cutting ∧ s.engine.revPos = some .cut) →
      ∃ t, exec (.stopAtSeam .machine) s = .next t ∧ Replied .machine .stopAtSeam [0#8] s t ∧
        Stopped .operatorStop i d s t) ∧
    (Ready l s →
      ∃ t, exec (.stopAtOnce l) s = .next t ∧ Replied l .stopAtOnce [0#8] s t ∧ Aborted .operatorAbort none i d s t)

/-- A band in ENDING leaves it when its last head comes to rest (R144, R145, R54), and stays in it while another head of
the set is not at rest. Head `h` of the set comes to rest by completing its lift, by a fault (R69), or by CLEAR_HEAD_FAULT
with its landed sense off; a cleared head whose sense is on lifts, and the band waits for it (R70). -/
def Obligations.EndingEndsAtRest : Prop :=
  ∀ (s : State) (i : Fin 64) (d : Descriptor) (h : HeadId) (o : BandOutcome), s.inMasterReset = false →
    s.engine.state = .ending → s.band = some d → s.engine.slot = some i → s.jobs[i].record.outcome = some o →
    d.heads.get h = true →
    let othersRest := ∀ k, k ≠ h → d.heads.get k = true → (s.heads.get k).state.atRest = true
    let waits (t : State) : Prop :=
      t.engine = s.engine ∧ t.jobs = s.jobs ∧ t.store = s.store ∧ t.staging = s.staging ∧ t.grid = s.grid
    let withState (x : HeadState) : State := s.withHeads (s.heads.set h { s.heads.get h with state := x })
    ((s.heads.get h).state = .lifting → (s.heads.get h).landed = true → (s.heads.get h).lowerRequest = false →
      ∃ t, exec (.landedSenseChange h false) s = .next t ∧
        (othersRest → BandLeft o i d (withState .lifted) t) ∧
          (¬ othersRest → (t.heads.get h).state = .lifted ∧ waits t)) ∧
    (∀ c cause, Faults s h c cause →
      ∃ t, exec c s = .next t ∧ (t.heads.get h).state = .faulted ∧
        (othersRest → BandLeft o i d (withState .faulted) t) ∧ (¬ othersRest → waits t)) ∧
    (∀ head : Byte, Ready .machine s → head.toNat = h.num → (s.heads.get h).state = .faulted →
      (s.heads.get h).ampFault = false →
      ∃ t, exec (.clearHeadFault .machine head) s = .next t ∧ Replied .machine .clearHeadFault [0#8] s t ∧
        ((s.heads.get h).landed = true → (t.heads.get h).state = .lifting ∧ waits t) ∧
        ((s.heads.get h).landed = false →
          (othersRest → BandLeft o i d (withState .lifted) t) ∧
            (¬ othersRest → (t.heads.get h).state = .lifted ∧ waits t)))

/-- R133: an arrival within the position tolerance of the outstanding target is accepted and one outside it aborts the
band with cause POSITION_MISMATCH; with no target outstanding it is ignored. -/
def Obligations.CarriageArrivalIsJudged : Prop :=
  ∀ (s : State) (p : Nat), s.inMasterReset = false → Supervised s →
    (s.engine.target = none → exec (.carriageArrival p) s = .next (transmitAll s)) ∧
    ∀ i d x, s.engine.target = some x → s.band = some d → s.engine.slot = some i →
      (absDiff p x ≤ d.posTol →
        exec (.carriageArrival p) s =
          .next (transmitAll (s.withEngine
            { s.engine with arrived := true, lastArrival := some p, target := none }))) ∧
      (d.posTol < absDiff p x → s.engine.state.abortable = true → HeadsOk s →
        ∃ t, exec (.carriageArrival p) s = .next t ∧ Aborted .positionMismatch none i d s t)

/-! ### Motion supervision and the reset lines -/

/-- R154: the limit is clamped to 5 to 2,000 ms and answered DONE or ADJUSTED with the limit in force; while supervision
is INACTIVE nothing else changes; while it is ACTIVE the counter is compared with the new thresholds at once: STALL_WARN
is posted and the warning SPENT, and MOTION_FAULT is posted and the band aborted. The limit already in force changes
nothing. -/
def Obligations.SetStallLimitClampsAndCompares : Prop :=
  ∀ (ms : BitVec 16) (s : State), Ready .machine s → Supervised s →
    let limit := if ms.toNat < 5 then 5 else if 2000 < ms.toNat then 2000 else ms.toNat
    let body := (if limit = ms.toNat then 0#8 else 1#8) :: be2 limit
    let run := exec (.setStallLimit .machine ms) s
    (limit = ms.toNat → limit = s.sup.limit → run = .next (s.answered .machine .setStallLimit body)) ∧
    (s.sup.active = false →
      run = .next ((s.withSup { s.sup with limit := limit }).answered .machine .setStallLimit body)) ∧
    (s.sup.active = true → limit ≠ ms.toNat ∨ limit ≠ s.sup.limit →
      (s.sup.stall < limit * 1000 →
        let warns := s.sup.warnArmed = true ∧ limit / 2 * 1000 ≤ s.sup.stall
        let t := s.withSup { s.sup with limit := limit, warnArmed := if warns then false else s.sup.warnArmed }
        run = .next ((if warns then postAll .stallWarn t else t).answered .machine .setStallLimit body)) ∧
      (limit * 1000 ≤ s.sup.stall → HeadsOk s → ∀ i d, s.band = some d → s.engine.slot = some i →
        s.engine.state.abortable = true →
        ∃ t, run = .next t ∧ Replied .machine .setStallLimit body s t ∧ Aborted .motionStall none i d s t ∧
          t.sup.limit = limit ∧ PendingAll .motionFault t ∧ (s.sup.warnArmed = true → PendingAll .stallWarn t)))

/-- R152, R153: at the warning threshold an ARMED warning posts STALL_WARN and becomes SPENT, and changes nothing else;
at the fault threshold MOTION_FAULT is posted, STALL_WARN with it if the warning was still ARMED, and the band is aborted
with cause MOTION_STALL. Neither acts while supervision is INACTIVE. The model's readings: the
threshold command brings the time base and the counter to the threshold, and MOTION_STALL posts a STALL_WARN still ARMED
(log entries 1 and 12), and a threshold command while supervision is INACTIVE or the warning SPENT has no effect (log
entry 6). -/
def Obligations.StallThresholds : Prop :=
  ∀ s : State, s.inMasterReset = false → Supervised s → 5 ≤ s.sup.limit → s.sup.limit ≤ 2000 →
    (s.sup.active = true → s.sup.warnArmed = true → s.sup.stall ≤ s.sup.limit / 2 * 1000 →
      exec .stallWarn s =
        .next (transmitAll (postAll .stallWarn
          ((s.withNow (s.now + (s.sup.limit / 2 * 1000 - s.sup.stall))).withSup
            { s.sup with stall := s.sup.limit / 2 * 1000, warnArmed := false })))) ∧
    (s.sup.active = false ∨ s.sup.warnArmed = false → exec .stallWarn s = .next (transmitAll s)) ∧
    (s.sup.active = false → exec .motionStall s = .next (transmitAll s)) ∧
    (∀ i d, s.sup.active = true → HeadsOk s → s.band = some d → s.engine.slot = some i →
      s.engine.state.abortable = true →
      ∃ t, exec .motionStall s = .next t ∧ Aborted .motionStall none i d s t ∧ PendingAll .motionFault t ∧
        (s.sup.warnArmed = true → PendingAll .stallWarn t) ∧
        t.now = s.now + (s.sup.limit * 1000 - s.sup.stall) ∧ Supervised t)

/-- R155: a backward step with supervision ACTIVE posts MOTION_FAULT and aborts the band with cause REVERSE_ROTATION. -/
def Obligations.ReverseRotationAborts : Prop :=
  ∀ (s : State) (a : Nat) (i : Fin 64) (d : Descriptor), s.inMasterReset = false → s.sup.active = true →
    s.band = some d → s.engine.slot = some i → s.engine.state.abortable = true → HeadsOk s →
    ∃ t, exec (.stepEvent .reverse a) s = .next t ∧ Aborted .reverseRotation none i d s t ∧
      PendingAll .motionFault t ∧ t.grid.position = (s.grid.position + 1048575) % 1048576 ∧ Supervised t

/-- Every command keeps supervision standing as the heads say, with the stall counter at 0 and the warning ARMED while it
is INACTIVE (R150). -/
def Obligations.SupervisionFollowsTheHeads : Prop :=
  ∀ s t : State, Supervised s → step s = .next t → Supervised t

/-- The filter of a reset line after a change of the line (R158, R160). -/
def filterAfter (now : Nat) (asserted : Bool) : LineFilter → LineFilter
  | .released => if asserted then .qualifying now else .released
  | .qualifying t => if asserted then .qualifying t else .released
  | .taken => if asserted then .taken else .released

/-- R159: when the cut-abort filter becomes TAKEN, CUT_ABORT is posted, a band in PREPARING, CUTTING or HELD is aborted
with cause CUT_ABORT_LINE, an ARMED band is disarmed, every other engine state is kept; LOWERING heads are lowered no
more, ENGAGED heads become LIFTING, FAULTED, LIFTED and OFFLINE heads stay, every drive output is 0 and every prepared
cell EMPTY; every ring slot is emptied; stylus counts, wear terms, the stall limit, custody, the mounted identity and the
last arrival are kept. -/
def Obligations.CutAbortResetActs : Prop :=
  ∀ (s : State) (q : Nat), s.inMasterReset = false → s.sup.cutAbort = .qualifying q → HeadsOk s → Supervised s →
    ∃ t, exec .cutAbortQualified s = .next t ∧ PendingAll .cutAbort t ∧ t.sup.cutAbort = .taken ∧
      t.staging = Staging.reset ∧ t.sup.limit = s.sup.limit ∧ t.custody = s.custody ∧
      t.engine.mounted = s.engine.mounted ∧ t.engine.lastArrival = s.engine.lastArrival ∧
      t.grid.position = s.grid.position ∧ t.grid.lastPeriod = s.grid.lastPeriod ∧
      t.grid.indexTime = s.grid.indexTime ∧ Supervised t ∧
      (∀ h, (t.heads.get h).drive = 0 ∧ (t.cells.get h).prepared = none ∧
        (t.heads.get h).stylus = (s.heads.get h).stylus ∧ (t.cells.get h).wear = (s.cells.get h).wear ∧
        (t.heads.get h).state.lowered = false ∧ (t.heads.get h).cause = (s.heads.get h).cause ∧
        ((s.heads.get h).state = .engaged → (t.heads.get h).state = .lifting) ∧
        ((s.heads.get h).state ≠ .engaged → (s.heads.get h).state ≠ .lowering →
          (t.heads.get h).state = (s.heads.get h).state)) ∧
      (∀ i d, s.band = some d → s.engine.slot = some i → s.engine.state.abortable = true →
        Aborted .cutAbortLine none i d s t) ∧
      (∀ i, s.engine.state = .armed → s.engine.slot = some i →
        t.engine.state = .idle ∧ t.engine.slot = none ∧ t.store = promoted s.store ∧
          t.jobs[i].record.phase =
            (if 0 < s.jobs[i].record.nextRing ∨ s.jobs[i].record.anyCount = true then .stopped else .neverRun)) ∧
      (s.engine.state ≠ .armed → s.engine.state.abortable = false →
        t.engine = s.engine ∧ t.jobs = s.jobs ∧ t.store = s.store ∧ t.grid = s.grid)

/-- The blocks after master reset, row by row of the reset tables (R17, R38, R43, R73, R99, R119, R147, R162, R172,
R184), with the head levels those at the ports and a link that shows signal UP once master reset has ended. -/
def ResetValues (s t : State) : Prop :=
  t.grid = { position := 0, reference := .unreferenced, state := .stopped, acc := 0, boundaries := 0
             lastPeriod := none, indexTime := none } ∧
  (∀ h, t.cells.get h = ⟨0, none⟩) ∧
  (∀ c : Fin 16, t.store.curves[c] = ⟨none, none⟩) ∧
  (∀ h, t.store.params.get h =
    ⟨{ fitted := false, gain := 64, bias := 0, dmin := 0, wearRate := 0, wearCap := 0, lowerMs := 100
       liftMs := 100 }, none⟩) ∧
  (∀ h, t.heads.get h =
    { state := .offline, cause := none, lowerRequest := false, timeout := none
      landed := s.pins.landed.get h, ampFault := s.pins.ampFault.get h, drive := 0, stylus := 0 } ∧
    (t.heads.get h).state.liftAsserted = true) ∧
  (∀ i : Fin 64, t.jobs[i].desc = none ∧
    t.jobs[i].record =
      { phase := .neverRun, outcome := none, cause := none, faultedHead := none, nextRing := 0, partialRing := none
        ringsCut := 0, idleRevs := 0, offSpeed := 0, counts := ⟨none, none, none, none⟩ }) ∧
  (∀ h, t.staging.heads.get h = ⟨.empty, .empty, none⟩) ∧ t.staging.synth = none ∧
  t.engine =
    { state := .idle, mounted := none, slot := none, ring := none, revPos := none, hold := none, pause := false
      stopAtSeam := none, dataIdle := 0, speedDev := 0, settleRun := 0, settleCount := none, target := none
      arrived := false, late := 0, lastArrival := none } ∧
  t.custody = none ∧
  (∀ l, t.links.get l =
    { up := if t.inMasterReset then false else s.pins.signal.get l
      replyPending := false, events := 0#14, mask := 0#14, notices := [], relay := []
      waitingReply := none, sending := none })

/-- The release of the master reset line ends master reset: every block takes the values its own rule gives, the heads
the levels at their ports, a link that shows signal UP (R184), supervision INACTIVE with the counter 0, the warning ARMED
and the limit 200 ms, and the cut-abort filter QUALIFYING from that moment if its line is asserted and RELEASED otherwise
(R160, R161, R162). That the time, the lines' levels and the waiting commands stay is the model's choice (log entry 4),
and so is the level held for a link's signal (log entry 16). -/
def Obligations.MasterResetValues : Prop :=
  ∀ s : State, s.inMasterReset = true →
    ∃ t, exec (.masterResetLineChange false) s = .next t ∧ ResetValues s t ∧ t.inMasterReset = false ∧
      t.sup =
        { active := false, stall := 0, warnArmed := true, limit := 200
          cutAbort := if s.pins.cutAbort then .qualifying s.now else .released, masterReset := .released } ∧
      t.now = s.now ∧ t.pins = { s.pins with masterReset := false } ∧ t.pending = s.pending

/-- The filters of the two reset lines (R158, R160): a change of a line moves its filter and nothing else, and a filter
that is not QUALIFYING takes no 2,000 µs (log entry 6). 2,000 µs of QUALIFYING enter master reset (log entry 3 for the
values while it lasts), and the qualifying command brings the time base to that moment (log entry 1); the line staying
asserted keeps it; power-on is taken as master reset and ends at once on a released line (log entry 4). -/
def Obligations.ResetLinesAndFilters : Prop :=
  ∀ s : State,
    (s.inMasterReset = false → ∀ asserted,
      exec (.cutAbortLineChange asserted) s =
        .next ((s.withPins { s.pins with cutAbort := asserted }).withSup
          { s.sup with cutAbort := filterAfter s.now asserted s.sup.cutAbort }) ∧
      exec (.masterResetLineChange asserted) s =
        .next ((s.withPins { s.pins with masterReset := asserted }).withSup
          { s.sup with masterReset := filterAfter s.now asserted s.sup.masterReset })) ∧
    ((∀ t, s.sup.cutAbort ≠ .qualifying t) → exec .cutAbortQualified s = .next s) ∧
    ((∀ t, s.sup.masterReset ≠ .qualifying t) → exec .masterResetQualified s = .next s) ∧
    (∀ q, s.sup.masterReset = .qualifying q →
      ∃ t, exec .masterResetQualified s = .next t ∧ t.inMasterReset = true ∧ ResetValues s t ∧
        t.now = max s.now (q + 2000)) ∧
    (s.inMasterReset = true →
      exec (.masterResetLineChange true) s = .next (s.withPins { s.pins with masterReset := true }) ∧
      ∀ h on,
        exec (.landedSenseChange h on) s =
          .next (s.withPins { s.pins with landed := s.pins.landed.set h on }) ∧
        exec (.ampFaultChange h on) s =
          .next (s.withPins { s.pins with ampFault := s.pins.ampFault.set h on }) ∧
        exec (.cutAbortLineChange on) s = .next (s.withPins { s.pins with cutAbort := on })) ∧
    ∃ t, exec .powerOn s = .next t ∧ ResetValues s t ∧ t.inMasterReset = s.pins.masterReset ∧ t.sup.limit = 200 ∧
      (s.pins.masterReset = false →
        t.sup.cutAbort = if s.pins.cutAbort then .qualifying s.now else .released)

/-! ### Custody -/

/-- R165 to R168: CLAIM_CUSTODY, RELEASE_CUSTODY and PASS_CUSTODY from any link and SEIZE_CUSTODY, which the machine link
alone may send, case by case, with the holder after the request in every reply. -/
def Obligations.CustodyRequests : Prop :=
  (∀ (l : LinkId) (s : State), Ready l s →
    (s.custody = none →
      exec (.claimCustody l) s =
        .next ((postTo l .custodyGranted (s.withCustody (some l))).answered l .claimCustody
          [0#8, BitVec.ofNat 8 l.num])) ∧
    (s.custody = some l →
      exec (.claimCustody l) s = .next (s.answered l .claimCustody [0#8, BitVec.ofNat 8 l.num])) ∧
    (∀ k, s.custody = some k → k ≠ l →
      exec (.claimCustody l) s = .next (s.answered l .claimCustody [5#8, BitVec.ofNat 8 k.num])) ∧
    (s.custody = some l →
      exec (.releaseCustody l) s = .next ((s.withCustody none).answered l .releaseCustody [0#8, 255#8])) ∧
    (∀ k, s.custody = some k → k ≠ l →
      exec (.releaseCustody l) s = .next (s.answered l .releaseCustody [4#8, BitVec.ofNat 8 k.num])) ∧
    (s.custody = none →
      exec (.releaseCustody l) s = .next (s.answered l .releaseCustody [4#8, 255#8]))) ∧
  (∀ (l : LinkId) (target : Byte) (s : State), Ready l s →
    (s.custody = none → exec (.passCustody l target) s = .next (s.answered l .passCustody [4#8, 255#8])) ∧
    (∀ k, s.custody = some k → k ≠ l →
      exec (.passCustody l target) s = .next (s.answered l .passCustody [4#8, BitVec.ofNat 8 k.num])) ∧
    (s.custody = some l →
      (3 ≤ target.toNat →
        exec (.passCustody l target) s =
          .next (s.answered l .passCustody [17#8, 0#8, BitVec.ofNat 8 l.num])) ∧
      ∀ t : LinkId, target.toNat = t.num →
        (t = l → exec (.passCustody l target) s = .next (s.answered l .passCustody [0#8, BitVec.ofNat 8 l.num])) ∧
        (t ≠ l → (s.links.get t).up = false →
          exec (.passCustody l target) s = .next (s.answered l .passCustody [6#8, BitVec.ofNat 8 l.num])) ∧
        (t ≠ l → (s.links.get t).up = true →
          exec (.passCustody l target) s =
            .next ((postTo l .custodyLost (postTo t .custodyGranted (s.withCustody (some t)))).answered l .passCustody
              [0#8, BitVec.ofNat 8 t.num])))) ∧
  (∀ (l : LinkId) (s : State), Ready l s → l ≠ .machine →
    exec (.seizeCustody l) s =
      .next (s.answered l .seizeCustody
        [3#8, match s.custody with
          | some k => BitVec.ofNat 8 k.num
          | none => 255#8])) ∧
  ∀ s : State, Ready .machine s →
    (s.custody = none →
      exec (.seizeCustody .machine) s =
        .next ((postTo .machine .custodyGranted (s.withCustody (some .machine))).answered .machine .seizeCustody
          [0#8, 0#8])) ∧
    (s.custody = some .machine →
      exec (.seizeCustody .machine) s = .next (s.answered .machine .seizeCustody [0#8, 0#8])) ∧
    (∀ k, s.custody = some k → k ≠ .machine →
      exec (.seizeCustody .machine) s =
        .next ((postTo .machine .custodyGranted
          (postTo k .custodyLost (s.withCustody (some .machine)))).answered .machine .seizeCustody [0#8, 0#8]))

/-- The law of R164: custody is never held by a link that is down; every command keeps it so. -/
def Obligations.CustodyHolderIsUp : Prop :=
  ∀ s t : State, CustodyUp s → step s = .next t → CustodyUp t

/-! ### Station links -/

/-- The place of a value in the list of its chapter's values, which is its code (R185). -/
def placeIn {α : Type} [DecidableEq α] (values : List α) (x : α) : Nat := values.idxOf x

/-- The kind byte of a request (Table 10-8). -/
def kindByte (k : ReqKind) : Byte :=
  BitVec.ofNat 8 (1 + placeIn [.mountCylinder, .armBand, .disarm, .startBand, .pauseBand, .resumeBand, .stopAtSeam,
    .stopAtOnce, .ackEnd, .setStallLimit, .clearHeadFault, .claimCustody, .releaseCustody, .passCustody, .seizeCustody,
    .writeDescriptor, .clearDescriptor, .writeCurve, .writeHeadParams, .setStylusCount, .readDescriptor,
    .readBandStatus, .readCurve, .readHead, .readEngine, .readEvents, .setNoticeMask, .relayNote, .fetchRelay,
    .ringSegment, .ringClose, .discardRings] k)

/-- The bits of a frame that its check covers, in the order in which they are processed: the body length, the kind byte
and the body, each byte from its most significant bit down (R176, Table 10-4). -/
def checkedBits (kind : Byte) (body : List Byte) : List Bool :=
  (bytesOf 2 body.length ++ kind :: body).flatMap fun b => [7, 6, 5, 4, 3, 2, 1, 0].map fun n => b.getLsbD n

/-- The check register after one bit: the bit enters at the top, and a 1 that leaves there adds the polynomial
x^16 + x^12 + x^5 + 1 (R176). -/
def checkRegister (r : BitVec 16) (bit : Bool) : BitVec 16 :=
  if (r.getLsbD 15 ^^ bit) = true then (r <<< 1) ^^^ 0x1021#16 else r <<< 1

/-- The bytes of each field of a request's body, in field order (Tables 10-5 and 10-9): job number and separation are
there when the form is identity, and the tones and the note bytes, which the body's length sizes, are left out. -/
def fieldSizes : Instr → List Nat
  | .mountCylinder _ form _ _ => if form = 1#8 then [1, 4, 1] else [1]
  | .armBand _ _ _ => [1, 1]
  | .setStallLimit _ _ | .setNoticeMask _ _ => [2]
  | .clearHeadFault _ _ | .discardRings _ _ | .readHead _ _ | .passCustody _ _ | .clearDescriptor _ _
  | .readDescriptor _ _ | .readBandStatus _ _ | .readCurve _ _ | .relayNote _ _ _ => [1]
  | .writeDescriptor _ _ d =>
    [1, 1, 4, 1, 1, 4, 2, 2, 2, 2, 1, 1, 1, 1, 1, 1, 2, 1, 2, 1, 1, 1] ++ d.patches.flatMap fun _ => [1, 2]
  | .writeCurve _ _ _ => 1 :: List.replicate 17 2
  | .writeHeadParams _ _ _ => [1, 1, 2, 2, 1, 1, 1, 2, 2]
  | .setStylusCount _ _ _ => [1, 4]
  | .ringSegment _ _ _ _ _ => [1, 2, 2]
  | .ringClose _ _ _ _ _ => [1, 2, 2, 1]
  | _ => []

/-- The bytes of the first `n` fields of a request's body. -/
def fieldsEnd (c : Instr) (n : Nat) : Nat := ((fieldSizes c).take n).sum

/-- R176: the check is the CRC-16 of that polynomial over length, kind and body, from 0xFFFF and not inverted. A frame
carries its request: for every well-formed request command, the frame of its kind with the body of Tables 10-5 and 10-9
and the right check does what the command does, and the kind byte names the kind (R177, R185). So does a frame whose
body has the same fields and any bytes after the last of them, for a kind whose last field is no list sized by the body
(R177). That a request row stands for such a frame is the model's reading (log entry 10). -/
def Obligations.FramesCarryRequests : Prop :=
  (∀ (kind : Byte) (body : List Byte),
    frameCheck kind body = (checkedBits kind body).foldl checkRegister 0xFFFF#16) ∧
  ∀ (c : Instr) (l : LinkId) (k : ReqKind) (body : List Byte) (s : State), c.wellFormed = true →
    c.asFrame = some (l, k, body) →
    let fields := fieldsEnd c (fieldSizes c).length
    body.length ≤ 1100 ∧ ReqKind.ofCode (kindByte k) = some k ∧ k.code = kindByte k ∧
      ∃ t, exec c s = .next t ∧ exec (.frameReceived l (kindByte k) body (frameCheck (kindByte k) body)) s = .next t ∧
        ∀ more : List Byte, k ≠ .relayNote → k ≠ .ringSegment → fields + more.length ≤ 1100 →
          let longer := body.take fields ++ more
          exec (.frameReceived l (kindByte k) longer (frameCheck (kindByte k) longer)) s = .next t

/-- Whether link `l` may not send a request of kind `k` (R178). -/
def MayNotSend (l : LinkId) (k : ReqKind) : Prop :=
  (l ≠ .machine ∧ k ∈ [ReqKind.mountCylinder, .armBand, .disarm, .startBand, .pauseBand, .resumeBand, .stopAtSeam,
    .ackEnd, .setStallLimit, .clearHeadFault, .seizeCustody]) ∨
  (l ≠ .prepress ∧ k ∈ [ReqKind.ringSegment, .ringClose, .discardRings])

/-- What every reply to a request of kind `k` carries after its result: the custody holder, 255 for NONE, or the stall
limit in force (Table 10-10). -/
def carriedAlways (k : ReqKind) (s : State) : List Byte :=
  match k with
  | .claimCustody | .releaseCustody | .passCustody | .seizeCustody =>
    [match s.custody with
      | some l => BitVec.ofNat 8 l.num
      | none => 0xFF#8]
  | .setStallLimit => bytesOf 2 s.sup.limit
  | _ => []

/-- The result of the checks on custody and state that a request's block makes before it looks at a field (R45, R47, R71,
R82, R85, R125, R126, R167): NO_CUSTODY 4 or BUSY 7. -/
def beforeFields (k : ReqKind) (l : LinkId) (s : State) : Option Byte :=
  match k with
  | .mountCylinder => if s.engine.state = .idle then none else some 7#8
  | .armBand => if s.custody ≠ some l then some 4#8 else if s.engine.state = .idle then none else some 7#8
  | .passCustody | .writeDescriptor | .clearDescriptor | .writeCurve | .writeHeadParams | .setStylusCount =>
    if s.custody = some l then none else some 4#8
  | _ => none

/-- Field `n` of a request passes the check its block makes on it before it looks at the next field. -/
def FieldPasses (c : Instr) (n : Nat) : Prop :=
  match c with
  | .armBand _ slot _ => slot.toNat < 64
  | .writeDescriptor _ slot d => if n = 0 then slot.toNat < 64 else descriptorFieldOk slot d n
  | .writeCurve _ curve k => if n = 0 then curve.toNat < 16 else ∀ m : Fin 17, m.val + 1 = n → ¬ knotBad k m
  | .writeHeadParams _ head p => if n = 0 then head.toNat < 4 else paramFieldOk p n
  | .setStylusCount _ head _ => head.toNat < 4
  | .ringSegment _ head _ _ _ | .ringClose _ head _ _ _ => n = 0 → head.toNat < 4
  | _ => True

/-- What a BAD_FIELD reply that names field `n` carries after it (Table 10-10): what every reply of the kind carries, and
for ring data the staging position once the head number has passed its check. -/
def badFieldTail (c : Instr) (k : ReqKind) (n : Nat) (s : State) : List Byte :=
  carriedAlways k s ++
    match c with
    | .ringSegment _ head _ _ _ | .ringClose _ head _ _ _ =>
      [HeadId.h0, .h1, .h2, .h3].flatMap fun h =>
        if head.toNat = h.num ∧ n ≠ 0 then positionBytes (s.staging.heads.get h) else []
    | _ => []

/-- Frames that do not do what a request row does. The receiver (R176): a byte other than 0xA5 outside a frame is
ignored; a body length above 1,100 discards the frame at once; a whole frame is handed over with its check; after each
of them the receiver hunts on at the next byte; a frame that has not ended brings nothing. A wrong check and an
impossible length give LINK_ERROR and nothing else (R176), and so does an intact frame of any kind while a reply is
pending; on a DOWN link an intact frame is not taken (R177, R175). A kind byte that names no request is answered
UNKNOWN_KIND and a request from a link that may not send it NOT_PERMITTED, with what every reply of the kind carries,
and neither changes anything (R177, R178). A body that ends before a field is complete (R177): the checks on custody and
state that come first keep their place, whatever the body; then BAD_FIELD names the first field that offends or is not
complete, and nothing changes. That the first field in field order is named, and that a ring request that lacks a field
is refused for it before its later checks, is the model's reading (log entry 7). -/
def Obligations.FramesRefused : Prop :=
  (∀ (l : LinkId) (b hi lo kind c1 c0 : Byte) (body rest : List Byte),
    receive l [] = [] ∧ receive l [0xA5#8] = [] ∧ receive l [0xA5#8, hi] = [] ∧
    (b ≠ 0xA5#8 → receive l (b :: rest) = receive l rest) ∧
    (1100 < hi.toNat * 256 + lo.toNat →
      receive l (0xA5#8 :: hi :: lo :: rest) = .bodyLengthImpossible l :: receive l rest) ∧
    (hi.toNat * 256 + lo.toNat ≤ 1100 → receive l [0xA5#8, hi, lo] = [] ∧
      (body.length = hi.toNat * 256 + lo.toNat →
        receive l (0xA5#8 :: hi :: lo :: kind :: (body ++ c1 :: c0 :: rest)) =
          .frameReceived l kind body (c1 ++ c0) :: receive l rest) ∧
      (body.length < hi.toNat * 256 + lo.toNat + 2 → receive l (0xA5#8 :: hi :: lo :: kind :: body) = []))) ∧
  (∀ (l : LinkId) (kind : Byte) (body : List Byte) (check : BitVec 16) (s : State), s.inMasterReset = false →
    (check ≠ frameCheck kind body →
      exec (.frameReceived l kind body check) s = .next (transmitAll (postTo l .linkError s))) ∧
    exec (.bodyLengthImpossible l) s = .next (transmitAll (postTo l .linkError s)) ∧
    (body.length ≤ 1100 → check = frameCheck kind body →
      ((s.links.get l).up = false → exec (.frameReceived l kind body check) s = .next s) ∧
      ((s.links.get l).up = true → (s.links.get l).replyPending = true →
        exec (.frameReceived l kind body check) s = .next (transmitAll (postTo l .linkError s)))) ∧
    (Ready l s → body.length ≤ 1100 → check = frameCheck kind body →
      (kind.toNat = 0 ∨ 32 < kind.toNat →
        exec (.frameReceived l kind body check) s =
          .next (transmitAll (s.modLink l fun u =>
            { u with replyPending := true, waitingReply := some ⟨kind ||| 0x80#8, [2#8]⟩ }))) ∧
      (∀ k, kind = kindByte k →
        (MayNotSend l k →
          exec (.frameReceived l kind body check) s = .next (s.answered l k (3#8 :: carriedAlways k s))) ∧
        (¬ MayNotSend l k → ∀ r, beforeFields k l s = some r →
          exec (.frameReceived l kind body check) s = .next (s.answered l k (r :: carriedAlways k s)))))) ∧
  ∀ (c : Instr) (l : LinkId) (k : ReqKind) (full : List Byte) (len cut bad : Nat) (s : State), c.wellFormed = true →
    c.asFrame = some (l, k, full) → Ready l s → ¬ MayNotSend l k → beforeFields k l s = none →
    cut < (fieldSizes c).length → fieldsEnd c cut ≤ len → len < fieldsEnd c (cut + 1) →
    bad ≤ cut → (∀ n, n < bad → FieldPasses c n) → bad = cut ∨ ¬ FieldPasses c bad →
    exec (.frameReceived l (kindByte k) (full.take len) (frameCheck (kindByte k) (full.take len))) s =
      .next (s.answered l k (17#8 :: BitVec.ofNat 8 bad :: badFieldTail c k bad s))

/-- A one-byte field that may be absent: 255 when it is (Tables 10-5 to 10-7, 10-10). -/
def optionalByte : Option Nat → Byte
  | some n => BitVec.ofNat 8 n
  | none => 0xFF#8

/-- A flag's byte: NO, OFF, CLEAR, FALSE and UNSET 0, YES, ON, SET and TRUE 1 (R185, Tables 10-6, 10-7, 10-10). -/
def flagByte (b : Bool) : Byte := if b then 1#8 else 0#8

/-- A head set's byte: bit n for Hn (Table 10-5). -/
def setByte (p : PerHead Bool) : Byte :=
  (if p.h0 then 1#8 else 0#8) + (if p.h1 then 2#8 else 0#8) + (if p.h2 then 4#8 else 0#8) + (if p.h3 then 8#8 else 0#8)

/-- The body of a READ_DESCRIPTOR reply (R97, Table 10-5): result, descriptor state, and of a VALID descriptor offsets 1
onward. -/
def descriptorReply (j : JobSlot) : List Byte :=
  match j.desc with
  | none => [0#8, 0#8]
  | some d =>
    [0#8, 1#8, BitVec.ofNat 8 (placeIn [.engrave, .testCut, .dryPass] d.kind)] ++ bytesOf 4 d.cylinder.job ++
      bytesOf 1 d.cylinder.separation ++ [setByte d.heads] ++ bytesOf 4 d.x0 ++ bytesOf 2 d.pitch ++ bytesOf 2 d.nr ++
      bytesOf 2 d.nc ++ bytesOf 2 d.cut ++ bytesOf 1 d.stagger ++
      [optionalByte (d.curves.h0.map fun c => c.val), optionalByte (d.curves.h1.map fun c => c.val),
        optionalByte (d.curves.h2.map fun c => c.val), optionalByte (d.curves.h3.map fun c => c.val),
        BitVec.ofNat 8 (placeIn [.drop, .raise] d.policy)] ++
      bytesOf 2 d.texp ++ bytesOf 1 d.speedTol ++ bytesOf 2 d.posTol ++ bytesOf 1 d.starve ++
      [optionalByte (d.nextSlot.map fun m => m.val)] ++ bytesOf 1 d.patches.length ++
      d.patches.flatMap fun p => bytesOf 1 p.tone ++ bytesOf 2 p.length

/-- The summary flag (R96): the band ABORTED, a clip count above 0, or an off-speed ring. -/
def summaryFlag (r : StatusRecord) : Bool :=
  r.phase == .aborted || (r.phase == .current && r.outcome == some .aborted) ||
    ([HeadId.h0, .h1, .h2, .h3].any fun h =>
      match r.counts.get h with
      | some c => c.clipHigh != 0 || c.clipLow != 0
      | none => false) ||
    r.offSpeed != 0

/-- The body of a READ_BAND_STATUS reply (R98, Table 10-6). -/
def statusReply (j : JobSlot) : List Byte :=
  let r := j.record
  [0#8, flagByte j.desc.isSome,
    BitVec.ofNat 8 (placeIn [.neverRun, .current, .stopped, .aborted, .complete] r.phase),
    optionalByte (r.outcome.map fun o => placeIn [.stopped, .aborted, .complete] o + 2),
    optionalByte (r.cause.map fun c => placeIn [.operatorStop, .linkLost, .operatorAbort, .cutAbortLine, .motionStall,
      .reverseRotation, .indexSlip, .headFault, .landTimeout, .positionMismatch, .carriageTimeout] c),
    optionalByte (r.faultedHead.map fun h => placeIn [.h0, .h1, .h2, .h3] h)] ++
    bytesOf 2 r.nextRing ++ bytesOf 2 (r.partialRing.getD 65535) ++ bytesOf 2 r.ringsCut ++ bytesOf 4 r.idleRevs ++
    bytesOf 4 r.offSpeed ++
    [flagByte (summaryFlag r), match j.desc with
      | some d => setByte d.heads
      | none => 0#8] ++
    [HeadId.h0, .h1, .h2, .h3].flatMap fun h =>
      match r.counts.get h with
      | some c => bytesOf 4 c.dropped ++ bytesOf 4 c.clipHigh ++ bytesOf 4 c.clipLow
      | none => []

/-- The body of a READ_CURVE reply (R55, Table 10-10). -/
def curveReplyBody (c : Fin 16) (s : State) : List Byte :=
  let knots (k : Option Curve) : List Byte :=
    match k with
    | some v => (List.range 17).flatMap fun n => bytesOf 2 (v.toList.getD n 0)
    | none => []
  [0#8, BitVec.ofNat 8 c.val, flagByte s.store.curves[c].active.isSome, flagByte (s.curveInUse c),
    flagByte s.store.curves[c].pending.isSome] ++ knots s.store.curves[c].active ++ knots s.store.curves[c].pending

/-- A parameter set's 12 bytes, the bias in 16-bit two's complement (Table 10-9, WRITE_HEAD_PARAMS offsets 1 to 12). -/
def paramsBytes (p : HeadParams) : List Byte :=
  flagByte p.fitted :: (bytesOf 2 p.gain ++ bytesOf 2 (BitVec.ofInt 16 p.bias).toNat ++ bytesOf 1 p.dmin ++
    bytesOf 1 p.wearRate ++ bytesOf 1 p.wearCap ++ bytesOf 2 p.lowerMs ++ bytesOf 2 p.liftMs)

/-- The code of a head state (Table 4-1, R185). -/
def headStateByte (x : HeadState) : Byte :=
  BitVec.ofNat 8 (placeIn [.offline, .lifted, .lowering, .engaged, .lifting, .faulted] x)

/-- The body of a READ_HEAD reply (R56, R75, Table 10-10). -/
def headReplyBody (h : HeadId) (s : State) : List Byte :=
  let u := s.heads.get h
  let p := s.store.params.get h
  [0#8, BitVec.ofNat 8 (placeIn [.h0, .h1, .h2, .h3] h), flagByte (s.headInUse h), flagByte p.pending.isSome,
    headStateByte u.state,
    optionalByte (u.cause.map fun c => placeIn [.landTimeout, .liftTimeout, .ampFault, .lostContact] c),
    flagByte u.lowerRequest, flagByte u.landed, flagByte u.ampFault] ++ bytesOf 4 u.stylus ++ paramsBytes p.active ++
    match p.pending with
    | some x => paramsBytes x
    | none => []

/-- A ring slot's six bytes in a READ_ENGINE reply: state, ring number, tones received and stop mark (Table 10-7). -/
def slotBytes : RingSlot → List Byte
  | .empty => [0#8, 0xFF#8, 0xFF#8, 0#8, 0#8, 0xFF#8]
  | .filling r tones _ => 1#8 :: (bytesOf 2 r ++ bytesOf 2 tones.length ++ [0xFF#8])
  | .ready r _ _ mark => 2#8 :: (bytesOf 2 r ++ [0#8, 0#8, flagByte mark])
  | .cutting r _ _ mark => 3#8 :: (bytesOf 2 r ++ [0#8, 0#8, flagByte mark])

/-- A ring number in 3 bytes, 16,777,215 for none (Table 10-7). -/
def ringBytes : Option Nat → List Byte
  | some r => bytesOf 3 r
  | none => [0xFF#8, 0xFF#8, 0xFF#8]

/-- The body of a READ_ENGINE reply (R122, R149, R183, Table 10-7). -/
def engineReplyBody (s : State) : List Byte :=
  [0#8, BitVec.ofNat 8 (placeIn [.idle, .armed, .preparing, .cutting, .held, .ending, .ended] s.engine.state),
    optionalByte (s.engine.slot.map fun i => i.val)] ++ ringBytes s.engine.ring ++
    [optionalByte (s.engine.hold.map fun r => placeIn [.stopMark, .pauseRequest, .starved, .speed] r)] ++
    bytesOf 4 (s.grid.lastPeriod.getD 0) ++ bytesOf 4 s.grid.position ++
    [optionalByte (s.custody.map fun l => placeIn [.machine, .prepress, .gauge] l)] ++
    [HeadId.h0, .h1, .h2, .h3].flatMap fun h =>
      headStateByte (s.heads.get h).state ::
        (slotBytes (s.staging.heads.get h).slotA ++ slotBytes (s.staging.heads.get h).slotB ++
          ringBytes (s.staging.heads.get h).nf)

/-- The five reads complete on every ready link, change no state and carry it as it stands, field by field in the layouts
of Tables 10-5, 10-6, 10-7 and 10-10 (R55, R56, R75, R96, R97, R98, R122, R149, R183, R185); a slot, curve or head number
out of range is refused at field 0. READ_ENGINE's body is 80 bytes, READ_BAND_STATUS' 22 bytes and 12 for each head with
counts, and a VALID descriptor's reply 35 bytes and 3 for each patch. -/
def Obligations.ReadsCarryTheState : Prop :=
  ∀ (l : LinkId) (n : Byte) (s : State), Ready l s →
    (64 ≤ n.toNat →
      exec (.readDescriptor l n) s = .next (s.answered l .readDescriptor [17#8, 0#8]) ∧
        exec (.readBandStatus l n) s = .next (s.answered l .readBandStatus [17#8, 0#8])) ∧
    (∀ i : Fin 64, n.toNat = i.val →
      exec (.readDescriptor l n) s = .next (s.answered l .readDescriptor (descriptorReply s.jobs[i])) ∧
      (∀ d, s.jobs[i].desc = some d → (descriptorReply s.jobs[i]).length = 35 + 3 * d.patches.length) ∧
      exec (.readBandStatus l n) s = .next (s.answered l .readBandStatus (statusReply s.jobs[i])) ∧
      (statusReply s.jobs[i]).length =
        22 + 12 * ([HeadId.h0, .h1, .h2, .h3].filter fun h => (s.jobs[i].record.counts.get h).isSome).length) ∧
    (16 ≤ n.toNat → exec (.readCurve l n) s = .next (s.answered l .readCurve [17#8, 0#8])) ∧
    (∀ c : Fin 16, n.toNat = c.val →
      exec (.readCurve l n) s = .next (s.answered l .readCurve (curveReplyBody c s))) ∧
    (4 ≤ n.toNat → exec (.readHead l n) s = .next (s.answered l .readHead [17#8, 0#8])) ∧
    (∀ h : HeadId, n.toNat = h.num →
      exec (.readHead l n) s = .next (s.answered l .readHead (headReplyBody h s))) ∧
    exec (.readEngine l) s = .next (s.answered l .readEngine (engineReplyBody s)) ∧
    (engineReplyBody s).length = 80

/-- READ_EVENTS carries the set and empties it (R179); SET_NOTICE_MASK refuses a mask with bit 14 or 15 set, and otherwise
replaces the mask and removes the waiting notices it disables (R180). -/
def Obligations.EventsAndMasks : Prop :=
  ∀ (l : LinkId) (mask : BitVec 16) (s : State), Ready l s →
    exec (.readEvents l) s =
      .next ((s.modLink l fun u => { u with events := 0#14 }).answered l .readEvents
        (0#8 :: be2 (s.links.get l).events.toNat)) ∧
    (mask.getLsbD 14 = true ∨ mask.getLsbD 15 = true →
      exec (.setNoticeMask l mask) s = .next (s.answered l .setNoticeMask [17#8, 0#8])) ∧
    (mask.getLsbD 14 = false → mask.getLsbD 15 = false →
      exec (.setNoticeMask l mask) s =
        .next ((s.modLink l fun u =>
          { u with
            mask := mask.truncate 14
            notices := u.notices.filter fun e => mask.getLsbD e.num }).answered l .setNoticeMask [0#8]))

/-- R181 and R182: RELAY_NOTE's checks in order and the note appended with RELAY_WAITING posted; FETCH_RELAY answers
EMPTY, or removes the oldest note and posts RELAY_WAITING again if notes are left. -/
def Obligations.NotesAreRelayed : Prop :=
  ∀ (l : LinkId) (target : Byte) (bytes : List Byte) (s : State), Ready l s →
    let run := exec (.relayNote l target bytes) s
    (3 ≤ target.toNat → run = .next (s.answered l .relayNote [17#8, 0#8])) ∧
    (∀ t : LinkId, target.toNat = t.num →
      (bytes.length = 0 ∨ 64 < bytes.length → run = .next (s.answered l .relayNote [17#8, 1#8])) ∧
      (1 ≤ bytes.length → bytes.length ≤ 64 →
        ((s.links.get t).up = false → run = .next (s.answered l .relayNote [6#8])) ∧
        ((s.links.get t).up = true →
          (4 ≤ (s.links.get t).relay.length → run = .next (s.answered l .relayNote [27#8])) ∧
          ((s.links.get t).relay.length < 4 →
            run = .next ((postTo t .relayWaiting
              (s.modLink t fun u => { u with relay := u.relay ++ [⟨l, bytes⟩] })).answered l .relayNote [0#8]))))) ∧
    ((s.links.get l).relay = [] → exec (.fetchRelay l) s = .next (s.answered l .fetchRelay [28#8])) ∧
    (∀ n rest, (s.links.get l).relay = n :: rest →
      let t := s.modLink l fun u => { u with relay := rest }
      let body := [0#8, BitVec.ofNat 8 n.source.num, BitVec.ofNat 8 rest.length, BitVec.ofNat 8 n.bytes.length] ++
        n.bytes
      exec (.fetchRelay l) s =
        .next ((if rest = [] then t else postTo l .relayWaiting t).answered l .fetchRelay body))

/-- R179 and R180: a post to an UP link adds a kind that is not pending, and appends it to the notice queue if the mask
enables it and it does not wait there already; a pending kind is not added again, and a DOWN link's set not at all. When
the transmitter finishes a frame it sends a waiting reply first, and else the oldest waiting notice; reply pending becomes
CLEAR when a reply has been sent (R177). Nothing else of the part changes. An idle transmitter finishes nothing (log entry
6). The line carries the frame in transmission, laid out as in Table 10-4 with a notice's one-byte body the event number
(R176, R180), and the idle fill 0xFF when there is none (R174, R184). -/
def Obligations.PostsAndTransmissions : Prop :=
  (∀ (e : EventKind) (u : LinkUnit),
    (u.up = false ∨ u.events.has e = true → u.post e = u) ∧
    (u.up = true → u.events.has e = false →
      (∀ k, (u.post e).events.has k = (u.events.has k || k == e)) ∧
      (u.post e).notices = (if u.mask.has e = true ∧ e ∉ u.notices then u.notices ++ [e] else u.notices) ∧
      (u.post e).mask = u.mask ∧ (u.post e).relay = u.relay ∧ (u.post e).replyPending = u.replyPending ∧
      (u.post e).waitingReply = u.waitingReply ∧ (u.post e).sending = u.sending ∧ (u.post e).up = true)) ∧
  (∀ u : LinkUnit,
    let frame (kind : Byte) (body : List Byte) : List Byte :=
      0xA5#8 :: (bytesOf 2 body.length ++ kind :: body ++ bytesOf 2 (frameCheck kind body).toNat)
    (u.sending = none → u.lineBytes = [0xFF#8]) ∧
    (∀ kind body, u.sending = some (.reply ⟨kind, body⟩) → u.lineBytes = frame kind body) ∧
    ∀ e, u.sending = some (.notice e) →
      u.lineBytes = frame 0x7F#8 [BitVec.ofNat 8 (placeIn [.bandEnded, .bandHeld, .chainStopped, .ringFreed, .clip,
        .speedDeviation, .stallWarn, .motionFault, .headFault, .cutAbort, .custodyGranted, .custodyLost, .relayWaiting,
        .linkError] e)]) ∧
  ∀ (l : LinkId) (s : State), s.inMasterReset = false → (s.links.get l).up = true →
    ((s.links.get l).sending = none → exec (.frameSent l) s = .next s) ∧
    ∀ f, (s.links.get l).sending = some f →
      let sent : LinkUnit :=
        { s.links.get l with
          sending := none
          replyPending := match f with
            | .reply _ => false
            | .notice _ => (s.links.get l).replyPending }
      exec (.frameSent l) s =
        .next (s.withLinks (s.links.set l
          (match (s.links.get l).waitingReply, (s.links.get l).notices with
            | some r, _ => { sent with waitingReply := none, sending := some (.reply r) }
            | none, e :: rest => { sent with notices := rest, sending := some (.notice e) }
            | none, [] => sent)))

/-- R171, R175: 100 ms without signal clear the link unit and release custody held by the link; for the machine link the
engine acts as R146 gives: a stop at seam with cause LINK_LOST, waiting in position CUT and taken at once elsewhere in
PREPARING, CUTTING and HELD, and nothing in another state. Signal on a DOWN link brings it UP and changes nothing else.
The model's choices: the port holds the level of the signal (log entry 16), and apart from that level signal on an UP link
and its loss on a DOWN one have no effect (log entry 6). -/
def Obligations.LinkLossAndReturn : Prop :=
  ∀ (l : LinkId) (s : State), s.inMasterReset = false →
    let shown (on : Bool) : State := s.withPins { s.pins with signal := s.pins.signal.set l on }
    exec (.linkUp l) s = .next ((shown true).modLink l fun u => { u with up := true }) ∧
    ((s.links.get l).up = false → exec (.linkSignalLoss l) s = .next (shown false)) ∧
    ((s.links.get l).up = true → Supervised s →
      let lost : State :=
        ((shown false).withLinks (s.links.set l
          { up := false, replyPending := false, events := 0#14, mask := 0#14, notices := [], relay := []
            waitingReply := none, sending := none })).withCustody (if s.custody = some l then none else s.custody)
      (l ≠ .machine ∨ s.engine.state.abortable = false →
        exec (.linkSignalLoss l) s = .next (transmitAll lost)) ∧
      (l = .machine → s.engine.state = .cutting → s.engine.revPos = some .cut →
        exec (.linkSignalLoss l) s =
          .next (transmitAll (lost.withEngine
            { s.engine with
              stopAtSeam := some (match s.engine.stopAtSeam with
                | some c => c
                | none => .linkLost) }))) ∧
      (∀ i d, l = .machine → s.engine.state.abortable = true →
        ¬ (s.engine.state = .cutting ∧ s.engine.revPos = some .cut) → s.band = some d → s.engine.slot = some i →
        HeadsOk s →
        ∃ t, exec (.linkSignalLoss l) s = .next t ∧ Stopped .linkLost i d s t ∧ t.custody = lost.custody ∧
          (t.links.get l).up = false ∧ t.pins = lost.pins))

/-- Every command keeps the link units as R175, R177, R180, R181 and R184 say: a DOWN link holds nothing, an idle
transmitter has no work, reply pending is SET exactly while one reply waits or is sent, no notice waits twice, and a relay
queue holds at most 4 notes. -/
def Obligations.LinkUnitsStayConsistent : Prop :=
  ∀ s t : State, LinksOk s → step s = .next t → LinksOk t

/-! ### Reset -/

/-- The invariants hold at State.reset, and State.reset is the part at the end of master reset with quiet lines (log entry
4). -/
def Obligations.ResetMeetsTheInvariants : Prop :=
  GridOk State.reset ∧ DescriptorsFit State.reset ∧ HeadsOk State.reset ∧ RecordsOk State.reset ∧
    NothingHeld State.reset ∧ StagingOk State.reset ∧ DriveOk State.reset ∧ Supervised State.reset ∧
    CustodyUp State.reset ∧ LinksOk State.reset ∧ ResetValues State.reset State.reset

end
end

