-- ==== Sys2Proof/Laws/State.lean ====
section
/-! SUPPORT. One lemma for each part of the state under each update, so that no later proof unfolds an update; and the
reads of one head or one link after a write of one. -/

namespace Sys2Proof.Machine

@[simp] theorem State.withNow_now (s : State) (x : Nat) : (s.withNow x).now = x := rfl
@[simp] theorem State.withNow_pins (s : State) (x : Nat) : (s.withNow x).pins = s.pins := rfl
@[simp] theorem State.withNow_grid (s : State) (x : Nat) : (s.withNow x).grid = s.grid := rfl
@[simp] theorem State.withNow_cells (s : State) (x : Nat) : (s.withNow x).cells = s.cells := rfl
@[simp] theorem State.withNow_store (s : State) (x : Nat) : (s.withNow x).store = s.store := rfl
@[simp] theorem State.withNow_heads (s : State) (x : Nat) : (s.withNow x).heads = s.heads := rfl
@[simp] theorem State.withNow_jobs (s : State) (x : Nat) : (s.withNow x).jobs = s.jobs := rfl
@[simp] theorem State.withNow_staging (s : State) (x : Nat) : (s.withNow x).staging = s.staging := rfl
@[simp] theorem State.withNow_engine (s : State) (x : Nat) : (s.withNow x).engine = s.engine := rfl
@[simp] theorem State.withNow_sup (s : State) (x : Nat) : (s.withNow x).sup = s.sup := rfl
@[simp] theorem State.withNow_custody (s : State) (x : Nat) : (s.withNow x).custody = s.custody := rfl
@[simp] theorem State.withNow_links (s : State) (x : Nat) : (s.withNow x).links = s.links := rfl
@[simp] theorem State.withNow_pending (s : State) (x : Nat) : (s.withNow x).pending = s.pending := rfl

@[simp] theorem State.withPins_now (s : State) (x : Pins) : (s.withPins x).now = s.now := rfl
@[simp] theorem State.withPins_pins (s : State) (x : Pins) : (s.withPins x).pins = x := rfl
@[simp] theorem State.withPins_grid (s : State) (x : Pins) : (s.withPins x).grid = s.grid := rfl
@[simp] theorem State.withPins_cells (s : State) (x : Pins) : (s.withPins x).cells = s.cells := rfl
@[simp] theorem State.withPins_store (s : State) (x : Pins) : (s.withPins x).store = s.store := rfl
@[simp] theorem State.withPins_heads (s : State) (x : Pins) : (s.withPins x).heads = s.heads := rfl
@[simp] theorem State.withPins_jobs (s : State) (x : Pins) : (s.withPins x).jobs = s.jobs := rfl
@[simp] theorem State.withPins_staging (s : State) (x : Pins) : (s.withPins x).staging = s.staging := rfl
@[simp] theorem State.withPins_engine (s : State) (x : Pins) : (s.withPins x).engine = s.engine := rfl
@[simp] theorem State.withPins_sup (s : State) (x : Pins) : (s.withPins x).sup = s.sup := rfl
@[simp] theorem State.withPins_custody (s : State) (x : Pins) : (s.withPins x).custody = s.custody := rfl
@[simp] theorem State.withPins_links (s : State) (x : Pins) : (s.withPins x).links = s.links := rfl
@[simp] theorem State.withPins_pending (s : State) (x : Pins) : (s.withPins x).pending = s.pending := rfl

@[simp] theorem State.withGrid_now (s : State) (x : Grid) : (s.withGrid x).now = s.now := rfl
@[simp] theorem State.withGrid_pins (s : State) (x : Grid) : (s.withGrid x).pins = s.pins := rfl
@[simp] theorem State.withGrid_grid (s : State) (x : Grid) : (s.withGrid x).grid = x := rfl
@[simp] theorem State.withGrid_cells (s : State) (x : Grid) : (s.withGrid x).cells = s.cells := rfl
@[simp] theorem State.withGrid_store (s : State) (x : Grid) : (s.withGrid x).store = s.store := rfl
@[simp] theorem State.withGrid_heads (s : State) (x : Grid) : (s.withGrid x).heads = s.heads := rfl
@[simp] theorem State.withGrid_jobs (s : State) (x : Grid) : (s.withGrid x).jobs = s.jobs := rfl
@[simp] theorem State.withGrid_staging (s : State) (x : Grid) : (s.withGrid x).staging = s.staging := rfl
@[simp] theorem State.withGrid_engine (s : State) (x : Grid) : (s.withGrid x).engine = s.engine := rfl
@[simp] theorem State.withGrid_sup (s : State) (x : Grid) : (s.withGrid x).sup = s.sup := rfl
@[simp] theorem State.withGrid_custody (s : State) (x : Grid) : (s.withGrid x).custody = s.custody := rfl
@[simp] theorem State.withGrid_links (s : State) (x : Grid) : (s.withGrid x).links = s.links := rfl
@[simp] theorem State.withGrid_pending (s : State) (x : Grid) : (s.withGrid x).pending = s.pending := rfl

@[simp] theorem State.withCells_now (s : State) (x : PerHead CellUnit) : (s.withCells x).now = s.now := rfl
@[simp] theorem State.withCells_pins (s : State) (x : PerHead CellUnit) : (s.withCells x).pins = s.pins := rfl
@[simp] theorem State.withCells_grid (s : State) (x : PerHead CellUnit) : (s.withCells x).grid = s.grid := rfl
@[simp] theorem State.withCells_cells (s : State) (x : PerHead CellUnit) : (s.withCells x).cells = x := rfl
@[simp] theorem State.withCells_store (s : State) (x : PerHead CellUnit) : (s.withCells x).store = s.store := rfl
@[simp] theorem State.withCells_heads (s : State) (x : PerHead CellUnit) : (s.withCells x).heads = s.heads := rfl
@[simp] theorem State.withCells_jobs (s : State) (x : PerHead CellUnit) : (s.withCells x).jobs = s.jobs := rfl
@[simp] theorem State.withCells_staging (s : State) (x : PerHead CellUnit) : (s.withCells x).staging = s.staging := rfl
@[simp] theorem State.withCells_engine (s : State) (x : PerHead CellUnit) : (s.withCells x).engine = s.engine := rfl
@[simp] theorem State.withCells_sup (s : State) (x : PerHead CellUnit) : (s.withCells x).sup = s.sup := rfl
@[simp] theorem State.withCells_custody (s : State) (x : PerHead CellUnit) : (s.withCells x).custody = s.custody := rfl
@[simp] theorem State.withCells_links (s : State) (x : PerHead CellUnit) : (s.withCells x).links = s.links := rfl
@[simp] theorem State.withCells_pending (s : State) (x : PerHead CellUnit) : (s.withCells x).pending = s.pending := rfl

@[simp] theorem State.withStore_now (s : State) (x : Store) : (s.withStore x).now = s.now := rfl
@[simp] theorem State.withStore_pins (s : State) (x : Store) : (s.withStore x).pins = s.pins := rfl
@[simp] theorem State.withStore_grid (s : State) (x : Store) : (s.withStore x).grid = s.grid := rfl
@[simp] theorem State.withStore_cells (s : State) (x : Store) : (s.withStore x).cells = s.cells := rfl
@[simp] theorem State.withStore_store (s : State) (x : Store) : (s.withStore x).store = x := rfl
@[simp] theorem State.withStore_heads (s : State) (x : Store) : (s.withStore x).heads = s.heads := rfl
@[simp] theorem State.withStore_jobs (s : State) (x : Store) : (s.withStore x).jobs = s.jobs := rfl
@[simp] theorem State.withStore_staging (s : State) (x : Store) : (s.withStore x).staging = s.staging := rfl
@[simp] theorem State.withStore_engine (s : State) (x : Store) : (s.withStore x).engine = s.engine := rfl
@[simp] theorem State.withStore_sup (s : State) (x : Store) : (s.withStore x).sup = s.sup := rfl
@[simp] theorem State.withStore_custody (s : State) (x : Store) : (s.withStore x).custody = s.custody := rfl
@[simp] theorem State.withStore_links (s : State) (x : Store) : (s.withStore x).links = s.links := rfl
@[simp] theorem State.withStore_pending (s : State) (x : Store) : (s.withStore x).pending = s.pending := rfl

@[simp] theorem State.withHeads_now (s : State) (x : PerHead HeadUnit) : (s.withHeads x).now = s.now := rfl
@[simp] theorem State.withHeads_pins (s : State) (x : PerHead HeadUnit) : (s.withHeads x).pins = s.pins := rfl
@[simp] theorem State.withHeads_grid (s : State) (x : PerHead HeadUnit) : (s.withHeads x).grid = s.grid := rfl
@[simp] theorem State.withHeads_cells (s : State) (x : PerHead HeadUnit) : (s.withHeads x).cells = s.cells := rfl
@[simp] theorem State.withHeads_store (s : State) (x : PerHead HeadUnit) : (s.withHeads x).store = s.store := rfl
@[simp] theorem State.withHeads_heads (s : State) (x : PerHead HeadUnit) : (s.withHeads x).heads = x := rfl
@[simp] theorem State.withHeads_jobs (s : State) (x : PerHead HeadUnit) : (s.withHeads x).jobs = s.jobs := rfl
@[simp] theorem State.withHeads_staging (s : State) (x : PerHead HeadUnit) : (s.withHeads x).staging = s.staging := rfl
@[simp] theorem State.withHeads_engine (s : State) (x : PerHead HeadUnit) : (s.withHeads x).engine = s.engine := rfl
@[simp] theorem State.withHeads_sup (s : State) (x : PerHead HeadUnit) : (s.withHeads x).sup = s.sup := rfl
@[simp] theorem State.withHeads_custody (s : State) (x : PerHead HeadUnit) : (s.withHeads x).custody = s.custody := rfl
@[simp] theorem State.withHeads_links (s : State) (x : PerHead HeadUnit) : (s.withHeads x).links = s.links := rfl
@[simp] theorem State.withHeads_pending (s : State) (x : PerHead HeadUnit) : (s.withHeads x).pending = s.pending := rfl

@[simp] theorem State.withJobs_now (s : State) (x : Vector JobSlot 64) : (s.withJobs x).now = s.now := rfl
@[simp] theorem State.withJobs_pins (s : State) (x : Vector JobSlot 64) : (s.withJobs x).pins = s.pins := rfl
@[simp] theorem State.withJobs_grid (s : State) (x : Vector JobSlot 64) : (s.withJobs x).grid = s.grid := rfl
@[simp] theorem State.withJobs_cells (s : State) (x : Vector JobSlot 64) : (s.withJobs x).cells = s.cells := rfl
@[simp] theorem State.withJobs_store (s : State) (x : Vector JobSlot 64) : (s.withJobs x).store = s.store := rfl
@[simp] theorem State.withJobs_heads (s : State) (x : Vector JobSlot 64) : (s.withJobs x).heads = s.heads := rfl
@[simp] theorem State.withJobs_jobs (s : State) (x : Vector JobSlot 64) : (s.withJobs x).jobs = x := rfl
@[simp] theorem State.withJobs_staging (s : State) (x : Vector JobSlot 64) : (s.withJobs x).staging = s.staging := rfl
@[simp] theorem State.withJobs_engine (s : State) (x : Vector JobSlot 64) : (s.withJobs x).engine = s.engine := rfl
@[simp] theorem State.withJobs_sup (s : State) (x : Vector JobSlot 64) : (s.withJobs x).sup = s.sup := rfl
@[simp] theorem State.withJobs_custody (s : State) (x : Vector JobSlot 64) : (s.withJobs x).custody = s.custody := rfl
@[simp] theorem State.withJobs_links (s : State) (x : Vector JobSlot 64) : (s.withJobs x).links = s.links := rfl
@[simp] theorem State.withJobs_pending (s : State) (x : Vector JobSlot 64) : (s.withJobs x).pending = s.pending := rfl

@[simp] theorem State.withStaging_now (s : State) (x : Staging) : (s.withStaging x).now = s.now := rfl
@[simp] theorem State.withStaging_pins (s : State) (x : Staging) : (s.withStaging x).pins = s.pins := rfl
@[simp] theorem State.withStaging_grid (s : State) (x : Staging) : (s.withStaging x).grid = s.grid := rfl
@[simp] theorem State.withStaging_cells (s : State) (x : Staging) : (s.withStaging x).cells = s.cells := rfl
@[simp] theorem State.withStaging_store (s : State) (x : Staging) : (s.withStaging x).store = s.store := rfl
@[simp] theorem State.withStaging_heads (s : State) (x : Staging) : (s.withStaging x).heads = s.heads := rfl
@[simp] theorem State.withStaging_jobs (s : State) (x : Staging) : (s.withStaging x).jobs = s.jobs := rfl
@[simp] theorem State.withStaging_staging (s : State) (x : Staging) : (s.withStaging x).staging = x := rfl
@[simp] theorem State.withStaging_engine (s : State) (x : Staging) : (s.withStaging x).engine = s.engine := rfl
@[simp] theorem State.withStaging_sup (s : State) (x : Staging) : (s.withStaging x).sup = s.sup := rfl
@[simp] theorem State.withStaging_custody (s : State) (x : Staging) : (s.withStaging x).custody = s.custody := rfl
@[simp] theorem State.withStaging_links (s : State) (x : Staging) : (s.withStaging x).links = s.links := rfl
@[simp] theorem State.withStaging_pending (s : State) (x : Staging) : (s.withStaging x).pending = s.pending := rfl

@[simp] theorem State.withEngine_now (s : State) (x : Engine) : (s.withEngine x).now = s.now := rfl
@[simp] theorem State.withEngine_pins (s : State) (x : Engine) : (s.withEngine x).pins = s.pins := rfl
@[simp] theorem State.withEngine_grid (s : State) (x : Engine) : (s.withEngine x).grid = s.grid := rfl
@[simp] theorem State.withEngine_cells (s : State) (x : Engine) : (s.withEngine x).cells = s.cells := rfl
@[simp] theorem State.withEngine_store (s : State) (x : Engine) : (s.withEngine x).store = s.store := rfl
@[simp] theorem State.withEngine_heads (s : State) (x : Engine) : (s.withEngine x).heads = s.heads := rfl
@[simp] theorem State.withEngine_jobs (s : State) (x : Engine) : (s.withEngine x).jobs = s.jobs := rfl
@[simp] theorem State.withEngine_staging (s : State) (x : Engine) : (s.withEngine x).staging = s.staging := rfl
@[simp] theorem State.withEngine_engine (s : State) (x : Engine) : (s.withEngine x).engine = x := rfl
@[simp] theorem State.withEngine_sup (s : State) (x : Engine) : (s.withEngine x).sup = s.sup := rfl
@[simp] theorem State.withEngine_custody (s : State) (x : Engine) : (s.withEngine x).custody = s.custody := rfl
@[simp] theorem State.withEngine_links (s : State) (x : Engine) : (s.withEngine x).links = s.links := rfl
@[simp] theorem State.withEngine_pending (s : State) (x : Engine) : (s.withEngine x).pending = s.pending := rfl

@[simp] theorem State.withSup_now (s : State) (x : Supervisor) : (s.withSup x).now = s.now := rfl
@[simp] theorem State.withSup_pins (s : State) (x : Supervisor) : (s.withSup x).pins = s.pins := rfl
@[simp] theorem State.withSup_grid (s : State) (x : Supervisor) : (s.withSup x).grid = s.grid := rfl
@[simp] theorem State.withSup_cells (s : State) (x : Supervisor) : (s.withSup x).cells = s.cells := rfl
@[simp] theorem State.withSup_store (s : State) (x : Supervisor) : (s.withSup x).store = s.store := rfl
@[simp] theorem State.withSup_heads (s : State) (x : Supervisor) : (s.withSup x).heads = s.heads := rfl
@[simp] theorem State.withSup_jobs (s : State) (x : Supervisor) : (s.withSup x).jobs = s.jobs := rfl
@[simp] theorem State.withSup_staging (s : State) (x : Supervisor) : (s.withSup x).staging = s.staging := rfl
@[simp] theorem State.withSup_engine (s : State) (x : Supervisor) : (s.withSup x).engine = s.engine := rfl
@[simp] theorem State.withSup_sup (s : State) (x : Supervisor) : (s.withSup x).sup = x := rfl
@[simp] theorem State.withSup_custody (s : State) (x : Supervisor) : (s.withSup x).custody = s.custody := rfl
@[simp] theorem State.withSup_links (s : State) (x : Supervisor) : (s.withSup x).links = s.links := rfl
@[simp] theorem State.withSup_pending (s : State) (x : Supervisor) : (s.withSup x).pending = s.pending := rfl

@[simp] theorem State.withCustody_now (s : State) (x : Option LinkId) : (s.withCustody x).now = s.now := rfl
@[simp] theorem State.withCustody_pins (s : State) (x : Option LinkId) : (s.withCustody x).pins = s.pins := rfl
@[simp] theorem State.withCustody_grid (s : State) (x : Option LinkId) : (s.withCustody x).grid = s.grid := rfl
@[simp] theorem State.withCustody_cells (s : State) (x : Option LinkId) : (s.withCustody x).cells = s.cells := rfl
@[simp] theorem State.withCustody_store (s : State) (x : Option LinkId) : (s.withCustody x).store = s.store := rfl
@[simp] theorem State.withCustody_heads (s : State) (x : Option LinkId) : (s.withCustody x).heads = s.heads := rfl
@[simp] theorem State.withCustody_jobs (s : State) (x : Option LinkId) : (s.withCustody x).jobs = s.jobs := rfl
@[simp] theorem State.withCustody_staging (s : State) (x : Option LinkId) : (s.withCustody x).staging = s.staging := rfl
@[simp] theorem State.withCustody_engine (s : State) (x : Option LinkId) : (s.withCustody x).engine = s.engine := rfl
@[simp] theorem State.withCustody_sup (s : State) (x : Option LinkId) : (s.withCustody x).sup = s.sup := rfl
@[simp] theorem State.withCustody_custody (s : State) (x : Option LinkId) : (s.withCustody x).custody = x := rfl
@[simp] theorem State.withCustody_links (s : State) (x : Option LinkId) : (s.withCustody x).links = s.links := rfl
@[simp] theorem State.withCustody_pending (s : State) (x : Option LinkId) : (s.withCustody x).pending = s.pending := rfl

@[simp] theorem State.withLinks_now (s : State) (x : PerLink LinkUnit) : (s.withLinks x).now = s.now := rfl
@[simp] theorem State.withLinks_pins (s : State) (x : PerLink LinkUnit) : (s.withLinks x).pins = s.pins := rfl
@[simp] theorem State.withLinks_grid (s : State) (x : PerLink LinkUnit) : (s.withLinks x).grid = s.grid := rfl
@[simp] theorem State.withLinks_cells (s : State) (x : PerLink LinkUnit) : (s.withLinks x).cells = s.cells := rfl
@[simp] theorem State.withLinks_store (s : State) (x : PerLink LinkUnit) : (s.withLinks x).store = s.store := rfl
@[simp] theorem State.withLinks_heads (s : State) (x : PerLink LinkUnit) : (s.withLinks x).heads = s.heads := rfl
@[simp] theorem State.withLinks_jobs (s : State) (x : PerLink LinkUnit) : (s.withLinks x).jobs = s.jobs := rfl
@[simp] theorem State.withLinks_staging (s : State) (x : PerLink LinkUnit) : (s.withLinks x).staging = s.staging := rfl
@[simp] theorem State.withLinks_engine (s : State) (x : PerLink LinkUnit) : (s.withLinks x).engine = s.engine := rfl
@[simp] theorem State.withLinks_sup (s : State) (x : PerLink LinkUnit) : (s.withLinks x).sup = s.sup := rfl
@[simp] theorem State.withLinks_custody (s : State) (x : PerLink LinkUnit) : (s.withLinks x).custody = s.custody := rfl
@[simp] theorem State.withLinks_links (s : State) (x : PerLink LinkUnit) : (s.withLinks x).links = x := rfl
@[simp] theorem State.withLinks_pending (s : State) (x : PerLink LinkUnit) : (s.withLinks x).pending = s.pending := rfl

@[simp] theorem State.withPending_now (s : State) (x : List Instr) : (s.withPending x).now = s.now := rfl
@[simp] theorem State.withPending_pins (s : State) (x : List Instr) : (s.withPending x).pins = s.pins := rfl
@[simp] theorem State.withPending_grid (s : State) (x : List Instr) : (s.withPending x).grid = s.grid := rfl
@[simp] theorem State.withPending_cells (s : State) (x : List Instr) : (s.withPending x).cells = s.cells := rfl
@[simp] theorem State.withPending_store (s : State) (x : List Instr) : (s.withPending x).store = s.store := rfl
@[simp] theorem State.withPending_heads (s : State) (x : List Instr) : (s.withPending x).heads = s.heads := rfl
@[simp] theorem State.withPending_jobs (s : State) (x : List Instr) : (s.withPending x).jobs = s.jobs := rfl
@[simp] theorem State.withPending_staging (s : State) (x : List Instr) : (s.withPending x).staging = s.staging := rfl
@[simp] theorem State.withPending_engine (s : State) (x : List Instr) : (s.withPending x).engine = s.engine := rfl
@[simp] theorem State.withPending_sup (s : State) (x : List Instr) : (s.withPending x).sup = s.sup := rfl
@[simp] theorem State.withPending_custody (s : State) (x : List Instr) : (s.withPending x).custody = s.custody := rfl
@[simp] theorem State.withPending_links (s : State) (x : List Instr) : (s.withPending x).links = s.links := rfl
@[simp] theorem State.withPending_pending (s : State) (x : List Instr) : (s.withPending x).pending = x := rfl

@[simp] theorem State.modEngine_now (f : Engine → Engine) (s : State) : (s.modEngine f).now = s.now := rfl
@[simp] theorem State.modEngine_pins (f : Engine → Engine) (s : State) : (s.modEngine f).pins = s.pins := rfl
@[simp] theorem State.modEngine_grid (f : Engine → Engine) (s : State) : (s.modEngine f).grid = s.grid := rfl
@[simp] theorem State.modEngine_cells (f : Engine → Engine) (s : State) : (s.modEngine f).cells = s.cells := rfl
@[simp] theorem State.modEngine_store (f : Engine → Engine) (s : State) : (s.modEngine f).store = s.store := rfl
@[simp] theorem State.modEngine_heads (f : Engine → Engine) (s : State) : (s.modEngine f).heads = s.heads := rfl
@[simp] theorem State.modEngine_jobs (f : Engine → Engine) (s : State) : (s.modEngine f).jobs = s.jobs := rfl
@[simp] theorem State.modEngine_staging (f : Engine → Engine) (s : State) : (s.modEngine f).staging = s.staging := rfl
@[simp] theorem State.modEngine_engine (f : Engine → Engine) (s : State) : (s.modEngine f).engine = f s.engine := rfl
@[simp] theorem State.modEngine_sup (f : Engine → Engine) (s : State) : (s.modEngine f).sup = s.sup := rfl
@[simp] theorem State.modEngine_custody (f : Engine → Engine) (s : State) : (s.modEngine f).custody = s.custody := rfl
@[simp] theorem State.modEngine_links (f : Engine → Engine) (s : State) : (s.modEngine f).links = s.links := rfl
@[simp] theorem State.modEngine_pending (f : Engine → Engine) (s : State) : (s.modEngine f).pending = s.pending := rfl

@[simp] theorem State.modSup_now (f : Supervisor → Supervisor) (s : State) : (s.modSup f).now = s.now := rfl
@[simp] theorem State.modSup_pins (f : Supervisor → Supervisor) (s : State) : (s.modSup f).pins = s.pins := rfl
@[simp] theorem State.modSup_grid (f : Supervisor → Supervisor) (s : State) : (s.modSup f).grid = s.grid := rfl
@[simp] theorem State.modSup_cells (f : Supervisor → Supervisor) (s : State) : (s.modSup f).cells = s.cells := rfl
@[simp] theorem State.modSup_store (f : Supervisor → Supervisor) (s : State) : (s.modSup f).store = s.store := rfl
@[simp] theorem State.modSup_heads (f : Supervisor → Supervisor) (s : State) : (s.modSup f).heads = s.heads := rfl
@[simp] theorem State.modSup_jobs (f : Supervisor → Supervisor) (s : State) : (s.modSup f).jobs = s.jobs := rfl
@[simp] theorem State.modSup_staging (f : Supervisor → Supervisor) (s : State) : (s.modSup f).staging = s.staging := rfl
@[simp] theorem State.modSup_engine (f : Supervisor → Supervisor) (s : State) : (s.modSup f).engine = s.engine := rfl
@[simp] theorem State.modSup_sup (f : Supervisor → Supervisor) (s : State) : (s.modSup f).sup = f s.sup := rfl
@[simp] theorem State.modSup_custody (f : Supervisor → Supervisor) (s : State) : (s.modSup f).custody = s.custody := rfl
@[simp] theorem State.modSup_links (f : Supervisor → Supervisor) (s : State) : (s.modSup f).links = s.links := rfl
@[simp] theorem State.modSup_pending (f : Supervisor → Supervisor) (s : State) : (s.modSup f).pending = s.pending := rfl

@[simp] theorem State.modGrid_now (f : Grid → Grid) (s : State) : (s.modGrid f).now = s.now := rfl
@[simp] theorem State.modGrid_pins (f : Grid → Grid) (s : State) : (s.modGrid f).pins = s.pins := rfl
@[simp] theorem State.modGrid_grid (f : Grid → Grid) (s : State) : (s.modGrid f).grid = f s.grid := rfl
@[simp] theorem State.modGrid_cells (f : Grid → Grid) (s : State) : (s.modGrid f).cells = s.cells := rfl
@[simp] theorem State.modGrid_store (f : Grid → Grid) (s : State) : (s.modGrid f).store = s.store := rfl
@[simp] theorem State.modGrid_heads (f : Grid → Grid) (s : State) : (s.modGrid f).heads = s.heads := rfl
@[simp] theorem State.modGrid_jobs (f : Grid → Grid) (s : State) : (s.modGrid f).jobs = s.jobs := rfl
@[simp] theorem State.modGrid_staging (f : Grid → Grid) (s : State) : (s.modGrid f).staging = s.staging := rfl
@[simp] theorem State.modGrid_engine (f : Grid → Grid) (s : State) : (s.modGrid f).engine = s.engine := rfl
@[simp] theorem State.modGrid_sup (f : Grid → Grid) (s : State) : (s.modGrid f).sup = s.sup := rfl
@[simp] theorem State.modGrid_custody (f : Grid → Grid) (s : State) : (s.modGrid f).custody = s.custody := rfl
@[simp] theorem State.modGrid_links (f : Grid → Grid) (s : State) : (s.modGrid f).links = s.links := rfl
@[simp] theorem State.modGrid_pending (f : Grid → Grid) (s : State) : (s.modGrid f).pending = s.pending := rfl

@[simp] theorem State.modLink_now (l : LinkId) (f : LinkUnit → LinkUnit) (s : State) : (s.modLink l f).now = s.now := rfl
@[simp] theorem State.modLink_pins (l : LinkId) (f : LinkUnit → LinkUnit) (s : State) : (s.modLink l f).pins = s.pins := rfl
@[simp] theorem State.modLink_grid (l : LinkId) (f : LinkUnit → LinkUnit) (s : State) : (s.modLink l f).grid = s.grid := rfl
@[simp] theorem State.modLink_cells (l : LinkId) (f : LinkUnit → LinkUnit) (s : State) : (s.modLink l f).cells = s.cells := rfl
@[simp] theorem State.modLink_store (l : LinkId) (f : LinkUnit → LinkUnit) (s : State) : (s.modLink l f).store = s.store := rfl
@[simp] theorem State.modLink_heads (l : LinkId) (f : LinkUnit → LinkUnit) (s : State) : (s.modLink l f).heads = s.heads := rfl
@[simp] theorem State.modLink_jobs (l : LinkId) (f : LinkUnit → LinkUnit) (s : State) : (s.modLink l f).jobs = s.jobs := rfl
@[simp] theorem State.modLink_staging (l : LinkId) (f : LinkUnit → LinkUnit) (s : State) : (s.modLink l f).staging = s.staging := rfl
@[simp] theorem State.modLink_engine (l : LinkId) (f : LinkUnit → LinkUnit) (s : State) : (s.modLink l f).engine = s.engine := rfl
@[simp] theorem State.modLink_sup (l : LinkId) (f : LinkUnit → LinkUnit) (s : State) : (s.modLink l f).sup = s.sup := rfl
@[simp] theorem State.modLink_custody (l : LinkId) (f : LinkUnit → LinkUnit) (s : State) : (s.modLink l f).custody = s.custody := rfl
@[simp] theorem State.modLink_links (l : LinkId) (f : LinkUnit → LinkUnit) (s : State) : (s.modLink l f).links = s.links.set l (f (s.links.get l)) := rfl
@[simp] theorem State.modLink_pending (l : LinkId) (f : LinkUnit → LinkUnit) (s : State) : (s.modLink l f).pending = s.pending := rfl

@[simp] theorem State.modHead_now (h : HeadId) (f : HeadUnit → HeadUnit) (s : State) : (s.modHead h f).now = s.now := rfl
@[simp] theorem State.modHead_pins (h : HeadId) (f : HeadUnit → HeadUnit) (s : State) : (s.modHead h f).pins = s.pins := rfl
@[simp] theorem State.modHead_grid (h : HeadId) (f : HeadUnit → HeadUnit) (s : State) : (s.modHead h f).grid = s.grid := rfl
@[simp] theorem State.modHead_cells (h : HeadId) (f : HeadUnit → HeadUnit) (s : State) : (s.modHead h f).cells = s.cells := rfl
@[simp] theorem State.modHead_store (h : HeadId) (f : HeadUnit → HeadUnit) (s : State) : (s.modHead h f).store = s.store := rfl
@[simp] theorem State.modHead_heads (h : HeadId) (f : HeadUnit → HeadUnit) (s : State) : (s.modHead h f).heads = s.heads.set h (f (s.heads.get h)) := rfl
@[simp] theorem State.modHead_jobs (h : HeadId) (f : HeadUnit → HeadUnit) (s : State) : (s.modHead h f).jobs = s.jobs := rfl
@[simp] theorem State.modHead_staging (h : HeadId) (f : HeadUnit → HeadUnit) (s : State) : (s.modHead h f).staging = s.staging := rfl
@[simp] theorem State.modHead_engine (h : HeadId) (f : HeadUnit → HeadUnit) (s : State) : (s.modHead h f).engine = s.engine := rfl
@[simp] theorem State.modHead_sup (h : HeadId) (f : HeadUnit → HeadUnit) (s : State) : (s.modHead h f).sup = s.sup := rfl
@[simp] theorem State.modHead_custody (h : HeadId) (f : HeadUnit → HeadUnit) (s : State) : (s.modHead h f).custody = s.custody := rfl
@[simp] theorem State.modHead_links (h : HeadId) (f : HeadUnit → HeadUnit) (s : State) : (s.modHead h f).links = s.links := rfl
@[simp] theorem State.modHead_pending (h : HeadId) (f : HeadUnit → HeadUnit) (s : State) : (s.modHead h f).pending = s.pending := rfl

@[simp] theorem State.modJob_now (i : Fin 64) (f : JobSlot → JobSlot) (s : State) : (s.modJob i f).now = s.now := rfl
@[simp] theorem State.modJob_pins (i : Fin 64) (f : JobSlot → JobSlot) (s : State) : (s.modJob i f).pins = s.pins := rfl
@[simp] theorem State.modJob_grid (i : Fin 64) (f : JobSlot → JobSlot) (s : State) : (s.modJob i f).grid = s.grid := rfl
@[simp] theorem State.modJob_cells (i : Fin 64) (f : JobSlot → JobSlot) (s : State) : (s.modJob i f).cells = s.cells := rfl
@[simp] theorem State.modJob_store (i : Fin 64) (f : JobSlot → JobSlot) (s : State) : (s.modJob i f).store = s.store := rfl
@[simp] theorem State.modJob_heads (i : Fin 64) (f : JobSlot → JobSlot) (s : State) : (s.modJob i f).heads = s.heads := rfl
@[simp] theorem State.modJob_jobs (i : Fin 64) (f : JobSlot → JobSlot) (s : State) : (s.modJob i f).jobs = s.jobs.set i (f s.jobs[i]) := rfl
@[simp] theorem State.modJob_staging (i : Fin 64) (f : JobSlot → JobSlot) (s : State) : (s.modJob i f).staging = s.staging := rfl
@[simp] theorem State.modJob_engine (i : Fin 64) (f : JobSlot → JobSlot) (s : State) : (s.modJob i f).engine = s.engine := rfl
@[simp] theorem State.modJob_sup (i : Fin 64) (f : JobSlot → JobSlot) (s : State) : (s.modJob i f).sup = s.sup := rfl
@[simp] theorem State.modJob_custody (i : Fin 64) (f : JobSlot → JobSlot) (s : State) : (s.modJob i f).custody = s.custody := rfl
@[simp] theorem State.modJob_links (i : Fin 64) (f : JobSlot → JobSlot) (s : State) : (s.modJob i f).links = s.links := rfl
@[simp] theorem State.modJob_pending (i : Fin 64) (f : JobSlot → JobSlot) (s : State) : (s.modJob i f).pending = s.pending := rfl

/-- The value of each head after every head's value was computed anew. -/
@[simp] theorem PerHead.get_mapH {α β : Type} (f : HeadId → α → β) (p : PerHead α) (h : HeadId) :
    (p.mapH f).get h = f h (p.get h) := by cases h <;> rfl

/-- A head reads what was set for it, and every other head reads as before. -/
theorem PerHead.get_set {α : Type} (p : PerHead α) (h k : HeadId) (a : α) :
    (p.set h a).get k = if k = h then a else p.get k := by cases h <;> cases k <;> rfl

@[simp] theorem PerHead.get_set_self {α : Type} (p : PerHead α) (h : HeadId) (a : α) : (p.set h a).get h = a := by
  cases h <;> rfl

theorem PerHead.get_set_ne {α : Type} (p : PerHead α) {h k : HeadId} (a : α) (hk : k ≠ h) :
    (p.set h a).get k = p.get k := by simp [PerHead.get_set, hk]

@[simp] theorem PerHead.get_pure {α : Type} (a : α) (h : HeadId) : (PerHead.pure a).get h = a := by cases h <;> rfl

/-- Two families of head values with the same value for each head are the same. -/
theorem PerHead.ext_get {α : Type} {p q : PerHead α} (e : ∀ h, p.get h = q.get h) : p = q := by
  cases p; cases q
  have h0 := e .h0
  have h1 := e .h1
  have h2 := e .h2
  have h3 := e .h3
  simp only [PerHead.get] at h0 h1 h2 h3
  subst h0 h1 h2 h3
  rfl

@[simp] theorem PerLink.get_mapL {α β : Type} (f : LinkId → α → β) (p : PerLink α) (l : LinkId) :
    (p.mapL f).get l = f l (p.get l) := by cases l <;> rfl

/-- A link reads what was set for it, and every other link reads as before. -/
theorem PerLink.get_set {α : Type} (p : PerLink α) (l k : LinkId) (a : α) :
    (p.set l a).get k = if k = l then a else p.get k := by cases l <;> cases k <;> rfl

@[simp] theorem PerLink.get_set_self {α : Type} (p : PerLink α) (l : LinkId) (a : α) : (p.set l a).get l = a := by
  cases l <;> rfl

theorem PerLink.get_set_ne {α : Type} (p : PerLink α) {l k : LinkId} (a : α) (hk : k ≠ l) :
    (p.set l a).get k = p.get k := by simp [PerLink.get_set, hk]

@[simp] theorem PerLink.get_pure {α : Type} (a : α) (l : LinkId) : (PerLink.pure a).get l = a := by cases l <;> rfl

/-- Two families of link values with the same value for each link are the same. -/
theorem PerLink.ext_get {α : Type} {p q : PerLink α} (e : ∀ l, p.get l = q.get l) : p = q := by
  cases p; cases q
  have h0 := e .machine
  have h1 := e .prepress
  have h2 := e .gauge
  simp only [PerLink.get] at h0 h1 h2
  subst h0 h1 h2
  rfl

end Sys2Proof.Machine
end

