-- ==== Sys2Proof/Laws/Frames.lean ====
section
/-! SUPPORT. What the shared operations leave alone: one lemma for each operation, naming each part of the state that it
never touches. -/

namespace Sys2Proof.Machine

@[simp] theorem postTo_keeps (l : LinkId) (e : EventKind) (s : State) :
    (postTo l e s).now = s.now ∧
      (postTo l e s).pins = s.pins ∧
      (postTo l e s).grid = s.grid ∧
      (postTo l e s).cells = s.cells ∧
      (postTo l e s).store = s.store ∧
      (postTo l e s).heads = s.heads ∧
      (postTo l e s).jobs = s.jobs ∧
      (postTo l e s).staging = s.staging ∧
      (postTo l e s).engine = s.engine ∧
      (postTo l e s).sup = s.sup ∧
      (postTo l e s).custody = s.custody ∧
      (postTo l e s).pending = s.pending := by
  exact ⟨rfl, rfl, rfl, rfl, rfl, rfl, rfl, rfl, rfl, rfl, rfl, rfl⟩

@[simp] theorem postAll_keeps (e : EventKind) (s : State) :
    (postAll e s).now = s.now ∧
      (postAll e s).pins = s.pins ∧
      (postAll e s).grid = s.grid ∧
      (postAll e s).cells = s.cells ∧
      (postAll e s).store = s.store ∧
      (postAll e s).heads = s.heads ∧
      (postAll e s).jobs = s.jobs ∧
      (postAll e s).staging = s.staging ∧
      (postAll e s).engine = s.engine ∧
      (postAll e s).sup = s.sup ∧
      (postAll e s).custody = s.custody ∧
      (postAll e s).pending = s.pending := by
  exact ⟨rfl, rfl, rfl, rfl, rfl, rfl, rfl, rfl, rfl, rfl, rfl, rfl⟩

@[simp] theorem modRecord_keeps (f : StatusRecord → StatusRecord) (s : State) :
    (modRecord f s).now = s.now ∧
      (modRecord f s).pins = s.pins ∧
      (modRecord f s).grid = s.grid ∧
      (modRecord f s).cells = s.cells ∧
      (modRecord f s).store = s.store ∧
      (modRecord f s).heads = s.heads ∧
      (modRecord f s).staging = s.staging ∧
      (modRecord f s).engine = s.engine ∧
      (modRecord f s).sup = s.sup ∧
      (modRecord f s).custody = s.custody ∧
      (modRecord f s).links = s.links ∧
      (modRecord f s).pending = s.pending := by
  unfold modRecord
  split <;> simp

@[simp] theorem passTime_keeps (dt : Nat) (s : State) :
    (passTime dt s).pins = s.pins ∧
      (passTime dt s).grid = s.grid ∧
      (passTime dt s).cells = s.cells ∧
      (passTime dt s).store = s.store ∧
      (passTime dt s).heads = s.heads ∧
      (passTime dt s).jobs = s.jobs ∧
      (passTime dt s).staging = s.staging ∧
      (passTime dt s).engine = s.engine ∧
      (passTime dt s).custody = s.custody ∧
      (passTime dt s).links = s.links ∧
      (passTime dt s).pending = s.pending := by
  exact ⟨rfl, rfl, rfl, rfl, rfl, rfl, rfl, rfl, rfl, rfl, rfl⟩

@[simp] theorem passTimeTo_keeps (t : Nat) (s : State) :
    (passTimeTo t s).pins = s.pins ∧
      (passTimeTo t s).grid = s.grid ∧
      (passTimeTo t s).cells = s.cells ∧
      (passTimeTo t s).store = s.store ∧
      (passTimeTo t s).heads = s.heads ∧
      (passTimeTo t s).jobs = s.jobs ∧
      (passTimeTo t s).staging = s.staging ∧
      (passTimeTo t s).engine = s.engine ∧
      (passTimeTo t s).custody = s.custody ∧
      (passTimeTo t s).links = s.links ∧
      (passTimeTo t s).pending = s.pending := by
  exact ⟨rfl, rfl, rfl, rfl, rfl, rfl, rfl, rfl, rfl, rfl, rfl⟩

@[simp] theorem supervise_keeps (s : State) :
    (supervise s).now = s.now ∧
      (supervise s).pins = s.pins ∧
      (supervise s).grid = s.grid ∧
      (supervise s).cells = s.cells ∧
      (supervise s).store = s.store ∧
      (supervise s).heads = s.heads ∧
      (supervise s).jobs = s.jobs ∧
      (supervise s).staging = s.staging ∧
      (supervise s).engine = s.engine ∧
      (supervise s).custody = s.custody ∧
      (supervise s).links = s.links ∧
      (supervise s).pending = s.pending := by
  exact ⟨rfl, rfl, rfl, rfl, rfl, rfl, rfl, rfl, rfl, rfl, rfl, rfl⟩

@[simp] theorem transmitAll_keeps (s : State) :
    (transmitAll s).now = s.now ∧
      (transmitAll s).pins = s.pins ∧
      (transmitAll s).grid = s.grid ∧
      (transmitAll s).cells = s.cells ∧
      (transmitAll s).store = s.store ∧
      (transmitAll s).heads = s.heads ∧
      (transmitAll s).jobs = s.jobs ∧
      (transmitAll s).staging = s.staging ∧
      (transmitAll s).engine = s.engine ∧
      (transmitAll s).sup = s.sup ∧
      (transmitAll s).custody = s.custody ∧
      (transmitAll s).pending = s.pending := by
  exact ⟨rfl, rfl, rfl, rfl, rfl, rfl, rfl, rfl, rfl, rfl, rfl, rfl⟩

@[simp] theorem settle_keeps (s : State) :
    (settle s).now = s.now ∧
      (settle s).pins = s.pins ∧
      (settle s).grid = s.grid ∧
      (settle s).cells = s.cells ∧
      (settle s).store = s.store ∧
      (settle s).heads = s.heads ∧
      (settle s).jobs = s.jobs ∧
      (settle s).staging = s.staging ∧
      (settle s).engine = s.engine ∧
      (settle s).custody = s.custody ∧
      (settle s).pending = s.pending := by
  exact ⟨rfl, rfl, rfl, rfl, rfl, rfl, rfl, rfl, rfl, rfl, rfl⟩

@[simp] theorem lowerSet_keeps (s : State) :
    (lowerSet s).now = s.now ∧
      (lowerSet s).pins = s.pins ∧
      (lowerSet s).grid = s.grid ∧
      (lowerSet s).cells = s.cells ∧
      (lowerSet s).store = s.store ∧
      (lowerSet s).jobs = s.jobs ∧
      (lowerSet s).staging = s.staging ∧
      (lowerSet s).engine = s.engine ∧
      (lowerSet s).sup = s.sup ∧
      (lowerSet s).custody = s.custody ∧
      (lowerSet s).links = s.links ∧
      (lowerSet s).pending = s.pending := by
  exact ⟨rfl, rfl, rfl, rfl, rfl, rfl, rfl, rfl, rfl, rfl, rfl, rfl⟩

@[simp] theorem liftSet_keeps (s : State) :
    (liftSet s).now = s.now ∧
      (liftSet s).pins = s.pins ∧
      (liftSet s).grid = s.grid ∧
      (liftSet s).cells = s.cells ∧
      (liftSet s).store = s.store ∧
      (liftSet s).jobs = s.jobs ∧
      (liftSet s).staging = s.staging ∧
      (liftSet s).engine = s.engine ∧
      (liftSet s).sup = s.sup ∧
      (liftSet s).custody = s.custody ∧
      (liftSet s).links = s.links ∧
      (liftSet s).pending = s.pending := by
  exact ⟨rfl, rfl, rfl, rfl, rfl, rfl, rfl, rfl, rfl, rfl, rfl, rfl⟩

@[simp] theorem silenceSet_keeps (s : State) :
    (silenceSet s).now = s.now ∧
      (silenceSet s).pins = s.pins ∧
      (silenceSet s).grid = s.grid ∧
      (silenceSet s).store = s.store ∧
      (silenceSet s).jobs = s.jobs ∧
      (silenceSet s).staging = s.staging ∧
      (silenceSet s).engine = s.engine ∧
      (silenceSet s).sup = s.sup ∧
      (silenceSet s).custody = s.custody ∧
      (silenceSet s).links = s.links ∧
      (silenceSet s).pending = s.pending := by
  exact ⟨rfl, rfl, rfl, rfl, rfl, rfl, rfl, rfl, rfl, rfl, rfl⟩

@[simp] theorem emptyStaging_keeps (s : State) :
    (emptyStaging s).now = s.now ∧
      (emptyStaging s).pins = s.pins ∧
      (emptyStaging s).grid = s.grid ∧
      (emptyStaging s).cells = s.cells ∧
      (emptyStaging s).store = s.store ∧
      (emptyStaging s).heads = s.heads ∧
      (emptyStaging s).jobs = s.jobs ∧
      (emptyStaging s).engine = s.engine ∧
      (emptyStaging s).sup = s.sup ∧
      (emptyStaging s).custody = s.custody ∧
      (emptyStaging s).links = s.links ∧
      (emptyStaging s).pending = s.pending := by
  exact ⟨rfl, rfl, rfl, rfl, rfl, rfl, rfl, rfl, rfl, rfl, rfl, rfl⟩

@[simp] theorem modSetStaging_keeps (f : HeadStaging → HeadStaging) (s : State) :
    (modSetStaging f s).now = s.now ∧
      (modSetStaging f s).pins = s.pins ∧
      (modSetStaging f s).grid = s.grid ∧
      (modSetStaging f s).cells = s.cells ∧
      (modSetStaging f s).store = s.store ∧
      (modSetStaging f s).heads = s.heads ∧
      (modSetStaging f s).jobs = s.jobs ∧
      (modSetStaging f s).engine = s.engine ∧
      (modSetStaging f s).sup = s.sup ∧
      (modSetStaging f s).custody = s.custody ∧
      (modSetStaging f s).links = s.links ∧
      (modSetStaging f s).pending = s.pending := by
  exact ⟨rfl, rfl, rfl, rfl, rfl, rfl, rfl, rfl, rfl, rfl, rfl, rfl⟩

@[simp] theorem takeRing_keeps (d : Descriptor) (r : Nat) (s : State) :
    (takeRing d r s).now = s.now ∧
      (takeRing d r s).pins = s.pins ∧
      (takeRing d r s).grid = s.grid ∧
      (takeRing d r s).cells = s.cells ∧
      (takeRing d r s).store = s.store ∧
      (takeRing d r s).heads = s.heads ∧
      (takeRing d r s).jobs = s.jobs ∧
      (takeRing d r s).engine = s.engine ∧
      (takeRing d r s).sup = s.sup ∧
      (takeRing d r s).custody = s.custody ∧
      (takeRing d r s).links = s.links ∧
      (takeRing d r s).pending = s.pending := by
  unfold takeRing
  split <;> simp

@[simp] theorem dropRing_keeps (s : State) :
    (dropRing s).now = s.now ∧
      (dropRing s).pins = s.pins ∧
      (dropRing s).grid = s.grid ∧
      (dropRing s).cells = s.cells ∧
      (dropRing s).store = s.store ∧
      (dropRing s).heads = s.heads ∧
      (dropRing s).jobs = s.jobs ∧
      (dropRing s).engine = s.engine ∧
      (dropRing s).sup = s.sup ∧
      (dropRing s).custody = s.custody ∧
      (dropRing s).links = s.links ∧
      (dropRing s).pending = s.pending := by
  exact ⟨rfl, rfl, rfl, rfl, rfl, rfl, rfl, rfl, rfl, rfl, rfl, rfl⟩

@[simp] theorem armStaging_keeps (d : Descriptor) (r : Nat) (s : State) :
    (armStaging d r s).now = s.now ∧
      (armStaging d r s).pins = s.pins ∧
      (armStaging d r s).grid = s.grid ∧
      (armStaging d r s).cells = s.cells ∧
      (armStaging d r s).store = s.store ∧
      (armStaging d r s).heads = s.heads ∧
      (armStaging d r s).jobs = s.jobs ∧
      (armStaging d r s).engine = s.engine ∧
      (armStaging d r s).sup = s.sup ∧
      (armStaging d r s).custody = s.custody ∧
      (armStaging d r s).links = s.links ∧
      (armStaging d r s).pending = s.pending := by
  exact ⟨rfl, rfl, rfl, rfl, rfl, rfl, rfl, rfl, rfl, rfl, rfl, rfl⟩

end Sys2Proof.Machine
end

