-- ==== Sys2Proof/Laws/EngineFrames.lean ====
section
/-! SUPPORT. What the engine's operations leave alone: one lemma for each operation, naming each part of the state that
it never touches. -/

namespace Sys2Proof.Machine

@[simp] theorem endCurrency_keeps (s : State) :
    (endCurrency s).now = s.now ∧
      (endCurrency s).pins = s.pins ∧
      (endCurrency s).grid = s.grid ∧
      (endCurrency s).cells = s.cells ∧
      (endCurrency s).heads = s.heads ∧
      (endCurrency s).engine = s.engine ∧
      (endCurrency s).sup = s.sup ∧
      (endCurrency s).custody = s.custody ∧
      (endCurrency s).links = s.links ∧
      (endCurrency s).pending = s.pending := by
  simp [endCurrency]

@[simp] theorem enterEnded_keeps (e : EventKind) (s : State) :
    (enterEnded e s).now = s.now ∧
      (enterEnded e s).pins = s.pins ∧
      (enterEnded e s).grid = s.grid ∧
      (enterEnded e s).cells = s.cells ∧
      (enterEnded e s).heads = s.heads ∧
      (enterEnded e s).sup = s.sup ∧
      (enterEnded e s).custody = s.custody ∧
      (enterEnded e s).pending = s.pending := by
  simp [enterEnded]

@[simp] theorem disarmBand_keeps (s : State) :
    (disarmBand s).now = s.now ∧
      (disarmBand s).pins = s.pins ∧
      (disarmBand s).grid = s.grid ∧
      (disarmBand s).cells = s.cells ∧
      (disarmBand s).heads = s.heads ∧
      (disarmBand s).sup = s.sup ∧
      (disarmBand s).custody = s.custody ∧
      (disarmBand s).links = s.links ∧
      (disarmBand s).pending = s.pending := by
  simp [disarmBand]

@[simp] theorem stopGrid_keeps (s : State) :
    (stopGrid s).now = s.now ∧
      (stopGrid s).pins = s.pins ∧
      (stopGrid s).cells = s.cells ∧
      (stopGrid s).store = s.store ∧
      (stopGrid s).heads = s.heads ∧
      (stopGrid s).jobs = s.jobs ∧
      (stopGrid s).staging = s.staging ∧
      (stopGrid s).engine = s.engine ∧
      (stopGrid s).sup = s.sup ∧
      (stopGrid s).custody = s.custody ∧
      (stopGrid s).links = s.links ∧
      (stopGrid s).pending = s.pending := by
  exact ⟨rfl, rfl, rfl, rfl, rfl, rfl, rfl, rfl, rfl, rfl, rfl, rfl⟩

@[simp] theorem awaitIndex_keeps (s : State) :
    (awaitIndex s).now = s.now ∧
      (awaitIndex s).pins = s.pins ∧
      (awaitIndex s).cells = s.cells ∧
      (awaitIndex s).store = s.store ∧
      (awaitIndex s).heads = s.heads ∧
      (awaitIndex s).jobs = s.jobs ∧
      (awaitIndex s).staging = s.staging ∧
      (awaitIndex s).engine = s.engine ∧
      (awaitIndex s).sup = s.sup ∧
      (awaitIndex s).custody = s.custody ∧
      (awaitIndex s).links = s.links ∧
      (awaitIndex s).pending = s.pending := by
  exact ⟨rfl, rfl, rfl, rfl, rfl, rfl, rfl, rfl, rfl, rfl, rfl, rfl⟩

@[simp] theorem toEnding_keeps (o : BandOutcome) (c : Option EndCause) (h : Option HeadId) (s : State) :
    (toEnding o c h s).now = s.now ∧
      (toEnding o c h s).pins = s.pins ∧
      (toEnding o c h s).cells = s.cells ∧
      (toEnding o c h s).store = s.store ∧
      (toEnding o c h s).staging = s.staging ∧
      (toEnding o c h s).sup = s.sup ∧
      (toEnding o c h s).custody = s.custody ∧
      (toEnding o c h s).links = s.links ∧
      (toEnding o c h s).pending = s.pending := by
  simp [toEnding]

@[simp] theorem leaveEndingPlain_keeps (s : State) :
    (leaveEndingPlain s).now = s.now ∧
      (leaveEndingPlain s).pins = s.pins ∧
      (leaveEndingPlain s).grid = s.grid ∧
      (leaveEndingPlain s).cells = s.cells ∧
      (leaveEndingPlain s).heads = s.heads ∧
      (leaveEndingPlain s).sup = s.sup ∧
      (leaveEndingPlain s).custody = s.custody ∧
      (leaveEndingPlain s).pending = s.pending := by
  unfold leaveEndingPlain
  split <;> simp

@[simp] theorem stopBand_keeps (c : StopCause) (s : State) :
    (stopBand c s).now = s.now ∧
      (stopBand c s).pins = s.pins ∧
      (stopBand c s).cells = s.cells ∧
      (stopBand c s).sup = s.sup ∧
      (stopBand c s).custody = s.custody ∧
      (stopBand c s).pending = s.pending := by
  simp [stopBand]

@[simp] theorem postDueStall_keeps (s : State) :
    (postDueStall s).now = s.now ∧
      (postDueStall s).pins = s.pins ∧
      (postDueStall s).grid = s.grid ∧
      (postDueStall s).cells = s.cells ∧
      (postDueStall s).store = s.store ∧
      (postDueStall s).heads = s.heads ∧
      (postDueStall s).jobs = s.jobs ∧
      (postDueStall s).staging = s.staging ∧
      (postDueStall s).engine = s.engine ∧
      (postDueStall s).sup = s.sup ∧
      (postDueStall s).custody = s.custody ∧
      (postDueStall s).pending = s.pending := by
  unfold postDueStall
  repeat' split
  all_goals simp

@[simp] theorem abort_keeps (c : EndCause) (h : Option HeadId) (s : State) :
    (abort c h s).now = s.now ∧
      (abort c h s).pins = s.pins ∧
      (abort c h s).sup = s.sup ∧
      (abort c h s).custody = s.custody ∧
      (abort c h s).pending = s.pending := by
  unfold abort
  split
  · by_cases h : s.engine.revPos = some .cut <;> simp [h]
  · simp

@[simp] theorem armSlot_keeps (i : Fin 64) (d : Descriptor) (b : Bool) (s : State) :
    (armSlot i d b s).now = s.now ∧
      (armSlot i d b s).pins = s.pins ∧
      (armSlot i d b s).grid = s.grid ∧
      (armSlot i d b s).cells = s.cells ∧
      (armSlot i d b s).store = s.store ∧
      (armSlot i d b s).heads = s.heads ∧
      (armSlot i d b s).sup = s.sup ∧
      (armSlot i d b s).custody = s.custody ∧
      (armSlot i d b s).links = s.links ∧
      (armSlot i d b s).pending = s.pending := by
  exact ⟨rfl, rfl, rfl, rfl, rfl, rfl, rfl, rfl, rfl, rfl⟩

@[simp] theorem requestCarriage_keeps (d : Descriptor) (s : State) :
    (requestCarriage d s).now = s.now ∧
      (requestCarriage d s).pins = s.pins ∧
      (requestCarriage d s).grid = s.grid ∧
      (requestCarriage d s).cells = s.cells ∧
      (requestCarriage d s).store = s.store ∧
      (requestCarriage d s).heads = s.heads ∧
      (requestCarriage d s).jobs = s.jobs ∧
      (requestCarriage d s).staging = s.staging ∧
      (requestCarriage d s).sup = s.sup ∧
      (requestCarriage d s).custody = s.custody ∧
      (requestCarriage d s).links = s.links ∧
      (requestCarriage d s).pending = s.pending := by
  unfold requestCarriage
  split <;> simp

@[simp] theorem placeCarriage_keeps (d : Descriptor) (s : State) :
    (placeCarriage d s).now = s.now ∧
      (placeCarriage d s).pins = s.pins ∧
      (placeCarriage d s).grid = s.grid ∧
      (placeCarriage d s).cells = s.cells ∧
      (placeCarriage d s).store = s.store ∧
      (placeCarriage d s).heads = s.heads ∧
      (placeCarriage d s).jobs = s.jobs ∧
      (placeCarriage d s).staging = s.staging ∧
      (placeCarriage d s).sup = s.sup ∧
      (placeCarriage d s).custody = s.custody ∧
      (placeCarriage d s).links = s.links ∧
      (placeCarriage d s).pending = s.pending := by
  unfold placeCarriage
  repeat' split
  all_goals simp

@[simp] theorem prepareActions_keeps (d : Descriptor) (s : State) :
    (prepareActions d s).now = s.now ∧
      (prepareActions d s).pins = s.pins ∧
      (prepareActions d s).grid = s.grid ∧
      (prepareActions d s).cells = s.cells ∧
      (prepareActions d s).store = s.store ∧
      (prepareActions d s).jobs = s.jobs ∧
      (prepareActions d s).staging = s.staging ∧
      (prepareActions d s).sup = s.sup ∧
      (prepareActions d s).custody = s.custody ∧
      (prepareActions d s).links = s.links ∧
      (prepareActions d s).pending = s.pending := by
  unfold prepareActions
  split <;> simp

@[simp] theorem enterPreparing_keeps (b : Bool) (s : State) :
    (enterPreparing b s).now = s.now ∧
      (enterPreparing b s).pins = s.pins ∧
      (enterPreparing b s).sup = s.sup ∧
      (enterPreparing b s).custody = s.custody ∧
      (enterPreparing b s).pending = s.pending := by
  unfold enterPreparing
  dsimp only
  repeat' split
  all_goals simp

@[simp] theorem chain_keeps (m : Fin 64) (s : State) :
    (chain m s).now = s.now ∧
      (chain m s).pins = s.pins ∧
      (chain m s).sup = s.sup ∧
      (chain m s).custody = s.custody ∧
      (chain m s).pending = s.pending := by
  unfold chain
  dsimp only
  split <;> simp

@[simp] theorem leaveEnding_keeps (s : State) :
    (leaveEnding s).now = s.now ∧
      (leaveEnding s).pins = s.pins ∧
      (leaveEnding s).sup = s.sup ∧
      (leaveEnding s).custody = s.custody ∧
      (leaveEnding s).pending = s.pending := by
  unfold leaveEnding
  repeat' split
  all_goals simp

@[simp] theorem enterHeld_keeps (r : HoldReason) (s : State) :
    (enterHeld r s).now = s.now ∧
      (enterHeld r s).pins = s.pins ∧
      (enterHeld r s).grid = s.grid ∧
      (enterHeld r s).cells = s.cells ∧
      (enterHeld r s).store = s.store ∧
      (enterHeld r s).jobs = s.jobs ∧
      (enterHeld r s).staging = s.staging ∧
      (enterHeld r s).sup = s.sup ∧
      (enterHeld r s).custody = s.custody ∧
      (enterHeld r s).pending = s.pending := by
  exact ⟨rfl, rfl, rfl, rfl, rfl, rfl, rfl, rfl, rfl, rfl⟩

@[simp] theorem reportFault_keeps (h : HeadId) (c : HeadCause) (s : State) :
    (reportFault h c s).now = s.now ∧
      (reportFault h c s).pins = s.pins ∧
      (reportFault h c s).sup = s.sup ∧
      (reportFault h c s).custody = s.custody ∧
      (reportFault h c s).pending = s.pending := by
  unfold reportFault
  repeat' split
  all_goals simp

@[simp] theorem faultHead_keeps (h : HeadId) (c : HeadCause) (s : State) :
    (faultHead h c s).now = s.now ∧
      (faultHead h c s).pins = s.pins ∧
      (faultHead h c s).sup = s.sup ∧
      (faultHead h c s).custody = s.custody ∧
      (faultHead h c s).pending = s.pending := by
  simp [faultHead]

@[simp] theorem headsReady_keeps (s : State) :
    (headsReady s).now = s.now ∧
      (headsReady s).pins = s.pins ∧
      (headsReady s).grid = s.grid ∧
      (headsReady s).cells = s.cells ∧
      (headsReady s).store = s.store ∧
      (headsReady s).heads = s.heads ∧
      (headsReady s).jobs = s.jobs ∧
      (headsReady s).staging = s.staging ∧
      (headsReady s).sup = s.sup ∧
      (headsReady s).custody = s.custody ∧
      (headsReady s).links = s.links ∧
      (headsReady s).pending = s.pending := by
  unfold headsReady
  repeat' split
  all_goals simp

@[simp] theorem headMoved_keeps (h : HeadId) (s : State) :
    (headMoved h s).now = s.now ∧
      (headMoved h s).pins = s.pins ∧
      (headMoved h s).sup = s.sup ∧
      (headMoved h s).custody = s.custody ∧
      (headMoved h s).pending = s.pending := by
  unfold headMoved
  repeat' split
  all_goals simp

@[simp] theorem startCells_keeps (d : Descriptor) (s : State) :
    (startCells d s).now = s.now ∧
      (startCells d s).pins = s.pins ∧
      (startCells d s).grid = s.grid ∧
      (startCells d s).store = s.store ∧
      (startCells d s).heads = s.heads ∧
      (startCells d s).jobs = s.jobs ∧
      (startCells d s).staging = s.staging ∧
      (startCells d s).engine = s.engine ∧
      (startCells d s).sup = s.sup ∧
      (startCells d s).custody = s.custody ∧
      (startCells d s).links = s.links ∧
      (startCells d s).pending = s.pending := by
  exact ⟨rfl, rfl, rfl, rfl, rfl, rfl, rfl, rfl, rfl, rfl, rfl, rfl⟩

@[simp] theorem latchCells_keeps (d : Descriptor) (b : Nat) (s : State) :
    (latchCells d b s).now = s.now ∧
      (latchCells d b s).pins = s.pins ∧
      (latchCells d b s).grid = s.grid ∧
      (latchCells d b s).store = s.store ∧
      (latchCells d b s).staging = s.staging ∧
      (latchCells d b s).engine = s.engine ∧
      (latchCells d b s).sup = s.sup ∧
      (latchCells d b s).custody = s.custody ∧
      (latchCells d b s).pending = s.pending := by
  unfold latchCells
  dsimp only
  split <;> simp

@[simp] theorem boundaryL_keeps (d : Descriptor) (s : State) :
    (boundaryL d s).now = s.now ∧
      (boundaryL d s).pins = s.pins ∧
      (boundaryL d s).sup = s.sup ∧
      (boundaryL d s).custody = s.custody ∧
      (boundaryL d s).pending = s.pending := by
  by_cases h : d.kind = .testCut <;> unfold boundaryL <;> dsimp only <;> repeat' split
  all_goals simp_all

@[simp] theorem boundary_keeps (b : Nat) (s : State) :
    (boundary b s).now = s.now ∧
      (boundary b s).pins = s.pins ∧
      (boundary b s).sup = s.sup ∧
      (boundary b s).custody = s.custody ∧
      (boundary b s).pending = s.pending := by
  unfold boundary
  repeat' split
  all_goals simp

/-- Everything a boundary of the current band can do (R32, R33, R137, R138). -/
theorem boundary_cases (b : Nat) (d : Descriptor) (s : State) (h : s.band = some d) :
    (s.ringBeingCut = true ∧ b < d.cut ∧ boundary b s = latchCells d b s) ∨
      (s.ringBeingCut = true ∧ b = d.cut ∧ boundary b s = boundaryL d s) ∨
      (s.ringBeingCut = false ∧ b < d.cut ∧ boundary b s = silenceSet s) ∨
      ((d.cut < b ∨ s.ringBeingCut = false ∧ b = d.cut) ∧ boundary b s = s) := by
  unfold boundary
  simp only [h]
  cases s.ringBeingCut <;> rcases Nat.lt_trichotomy b d.cut with hb | rfl | hb <;>
    simp_all [Nat.not_lt_of_gt, Nat.ne_of_gt]

@[simp] theorem countLate_keeps (s : State) :
    (countLate s).now = s.now ∧
      (countLate s).pins = s.pins ∧
      (countLate s).grid = s.grid ∧
      (countLate s).cells = s.cells ∧
      (countLate s).store = s.store ∧
      (countLate s).heads = s.heads ∧
      (countLate s).jobs = s.jobs ∧
      (countLate s).staging = s.staging ∧
      (countLate s).sup = s.sup ∧
      (countLate s).custody = s.custody ∧
      (countLate s).links = s.links ∧
      (countLate s).pending = s.pending := by
  unfold countLate
  split <;> simp

@[simp] theorem beginCutting_keeps (d : Descriptor) (s : State) :
    (beginCutting d s).now = s.now ∧
      (beginCutting d s).pins = s.pins ∧
      (beginCutting d s).grid = s.grid ∧
      (beginCutting d s).store = s.store ∧
      (beginCutting d s).heads = s.heads ∧
      (beginCutting d s).jobs = s.jobs ∧
      (beginCutting d s).sup = s.sup ∧
      (beginCutting d s).custody = s.custody ∧
      (beginCutting d s).links = s.links ∧
      (beginCutting d s).pending = s.pending := by
  simp [beginCutting]

@[simp] theorem beginIdle_keeps (d : Descriptor) (b : Bool) (s : State) :
    (beginIdle d b s).now = s.now ∧
      (beginIdle d b s).pins = s.pins ∧
      (beginIdle d b s).grid = s.grid ∧
      (beginIdle d b s).cells = s.cells ∧
      (beginIdle d b s).store = s.store ∧
      (beginIdle d b s).staging = s.staging ∧
      (beginIdle d b s).sup = s.sup ∧
      (beginIdle d b s).custody = s.custody ∧
      (beginIdle d b s).pending = s.pending := by
  unfold beginIdle
  dsimp only
  repeat' split
  all_goals simp

@[simp] theorem decideRevolution_keeps (d : Descriptor) (s : State) :
    (decideRevolution d s).now = s.now ∧
      (decideRevolution d s).pins = s.pins ∧
      (decideRevolution d s).grid = s.grid ∧
      (decideRevolution d s).store = s.store ∧
      (decideRevolution d s).sup = s.sup ∧
      (decideRevolution d s).custody = s.custody ∧
      (decideRevolution d s).pending = s.pending := by
  unfold decideRevolution
  dsimp only
  repeat' split
  all_goals simp

/-- What silencing leaves of a head controller: a head of the set keeps all but its drive output. -/
theorem silenceSet_head (s : State) (h : HeadId) :
    (silenceSet s).heads.get h = if s.headInUse h then { s.heads.get h with drive := 0 } else s.heads.get h := by
  cases h <;> rfl

/-- What silencing leaves of a cell unit: a head of the set keeps all but its prepared cell. -/
theorem silenceSet_cell (s : State) (h : HeadId) :
    (silenceSet s).cells.get h = if s.headInUse h then { s.cells.get h with prepared := none } else s.cells.get h := by
  cases h <;> rfl

/-- Everything a decision can do: from the silenced set, a cutting revolution exactly when data, carriage and speed are
in order, and an idle one otherwise, with reason DATA exactly when the data is missing (R136). -/
theorem decideRevolution_cases (d : Descriptor) (s : State) :
    (s.dataReady d s.nextRing = true ∧ s.engine.arrived = true ∧ s.engine.speedDev = 0 ∧
        decideRevolution d s = beginCutting d (silenceSet s)) ∨
      (s.dataReady d s.nextRing = false ∧ decideRevolution d s = beginIdle d true (silenceSet s)) ∨
      (s.dataReady d s.nextRing = true ∧ (s.engine.arrived = false ∨ 0 < s.engine.speedDev) ∧
        decideRevolution d s = beginIdle d false (silenceSet s)) := by
  have hd : (silenceSet s).dataReady d (silenceSet s).nextRing = s.dataReady d s.nextRing := rfl
  have he : (silenceSet s).engine = s.engine := rfl
  unfold decideRevolution
  simp only [hd, he]
  cases s.dataReady d s.nextRing <;> cases s.engine.arrived <;> by_cases hs : 0 < s.engine.speedDev <;>
    simp [hs]
  omega

@[simp] theorem judgeRevolution_keeps (d : Descriptor) (s : State) :
    (judgeRevolution d s).now = s.now ∧
      (judgeRevolution d s).pins = s.pins ∧
      (judgeRevolution d s).grid = s.grid ∧
      (judgeRevolution d s).cells = s.cells ∧
      (judgeRevolution d s).store = s.store ∧
      (judgeRevolution d s).heads = s.heads ∧
      (judgeRevolution d s).staging = s.staging ∧
      (judgeRevolution d s).sup = s.sup ∧
      (judgeRevolution d s).custody = s.custody ∧
      (judgeRevolution d s).pending = s.pending := by
  unfold judgeRevolution
  dsimp only
  repeat' split
  all_goals simp

@[simp] theorem cuttingIndex_keeps (c : IndexClass) (d : Descriptor) (s : State) :
    (cuttingIndex c d s).now = s.now ∧
      (cuttingIndex c d s).pins = s.pins ∧
      (cuttingIndex c d s).sup = s.sup ∧
      (cuttingIndex c d s).custody = s.custody ∧
      (cuttingIndex c d s).pending = s.pending := by
  unfold cuttingIndex
  dsimp only
  repeat' split
  all_goals simp

@[simp] theorem countSettle_keeps (d : Descriptor) (s : State) :
    (countSettle d s).now = s.now ∧
      (countSettle d s).pins = s.pins ∧
      (countSettle d s).grid = s.grid ∧
      (countSettle d s).cells = s.cells ∧
      (countSettle d s).store = s.store ∧
      (countSettle d s).heads = s.heads ∧
      (countSettle d s).jobs = s.jobs ∧
      (countSettle d s).staging = s.staging ∧
      (countSettle d s).sup = s.sup ∧
      (countSettle d s).custody = s.custody ∧
      (countSettle d s).links = s.links ∧
      (countSettle d s).pending = s.pending := by
  exact ⟨rfl, rfl, rfl, rfl, rfl, rfl, rfl, rfl, rfl, rfl, rfl, rfl⟩

@[simp] theorem preparingIndex_keeps (d : Descriptor) (s : State) :
    (preparingIndex d s).now = s.now ∧
      (preparingIndex d s).pins = s.pins ∧
      (preparingIndex d s).sup = s.sup ∧
      (preparingIndex d s).custody = s.custody ∧
      (preparingIndex d s).pending = s.pending := by
  unfold preparingIndex
  dsimp only
  repeat' split
  all_goals simp

@[simp] theorem heldIndex_keeps (s : State) :
    (heldIndex s).now = s.now ∧
      (heldIndex s).pins = s.pins ∧
      (heldIndex s).sup = s.sup ∧
      (heldIndex s).custody = s.custody ∧
      (heldIndex s).pending = s.pending := by
  unfold heldIndex
  dsimp only
  repeat' split
  all_goals simp

@[simp] theorem engineIndex_keeps (c : IndexClass) (s : State) :
    (engineIndex c s).now = s.now ∧
      (engineIndex c s).pins = s.pins ∧
      (engineIndex c s).sup = s.sup ∧
      (engineIndex c s).custody = s.custody ∧
      (engineIndex c s).pending = s.pending := by
  unfold engineIndex
  repeat' split
  all_goals simp

@[simp] theorem motionFault_keeps (c : EndCause) (s : State) :
    (motionFault c s).now = s.now ∧
      (motionFault c s).pins = s.pins ∧
      (motionFault c s).sup = s.sup ∧
      (motionFault c s).custody = s.custody ∧
      (motionFault c s).pending = s.pending := by
  simp [motionFault]

@[simp] theorem checkWarn_keeps (s : State) :
    (checkWarn s).now = s.now ∧
      (checkWarn s).pins = s.pins ∧
      (checkWarn s).grid = s.grid ∧
      (checkWarn s).cells = s.cells ∧
      (checkWarn s).store = s.store ∧
      (checkWarn s).heads = s.heads ∧
      (checkWarn s).jobs = s.jobs ∧
      (checkWarn s).staging = s.staging ∧
      (checkWarn s).engine = s.engine ∧
      (checkWarn s).custody = s.custody ∧
      (checkWarn s).pending = s.pending := by
  unfold checkWarn
  split <;> simp

@[simp] theorem checkStall_keeps (s : State) :
    (checkStall s).now = s.now ∧
      (checkStall s).pins = s.pins ∧
      (checkStall s).sup = s.sup ∧
      (checkStall s).custody = s.custody ∧
      (checkStall s).pending = s.pending := by
  unfold checkStall
  split <;> simp

end Sys2Proof.Machine
end

