-- ==== Sys2Proof/Laws/Links.lean ====
section
/-! SUPPORT. What posting and transmitting can do to a link unit, what the engine's operations can do to the links, and
what a request on a link that is ready comes to. -/

namespace Sys2Proof.Machine

/-! ### Posting and transmitting -/

/-- What a post changes of a link unit: its event set grows, its notice queue may grow, and nothing else changes. -/
theorem LinkUnit.post_keeps (e : EventKind) (u : LinkUnit) :
    (u.post e).up = u.up ∧ (u.post e).replyPending = u.replyPending ∧ (u.post e).mask = u.mask ∧
      (u.post e).relay = u.relay ∧ (u.post e).waitingReply = u.waitingReply ∧ (u.post e).sending = u.sending := by
  unfold LinkUnit.post
  split <;> simp

/-- A kind is in the set after it was added, and every other kind is there if it was. -/
theorem EventSet.has_add (x : EventSet) (e k : EventKind) : (x.add e).has k = (x.has k || k == e) := by
  have h : ∀ e k : EventKind, ((1#14 <<< e.num).getLsbD k.num) = (k == e) := by
    intro e k
    cases e <;> cases k <;> rfl
  simp only [EventSet.has, EventSet.add, BitVec.getLsbD_or, h]

/-- The event set after a post to an UP link. -/
theorem LinkUnit.post_has (e k : EventKind) (u : LinkUnit) :
    (u.post e).events.has k = (u.events.has k || (u.up && k == e)) := by
  unfold LinkUnit.post
  split
  · rename_i h
    simp only [Bool.and_eq_true] at h
    simp [EventSet.has_add, h.1]
  · rename_i h
    cases hu : u.up
    · simp
    · simp only [hu, Bool.true_and, Bool.not_eq_true', Bool.not_eq_false] at h
      by_cases hk : k = e
      · simp [hk, h]
      · simp [hk]

/-- What the transmitter changes of a link unit: the frame it sends, the waiting reply and the notice queue. -/
theorem LinkUnit.transmit_keeps (u : LinkUnit) :
    u.transmit.up = u.up ∧ u.transmit.replyPending = u.replyPending ∧ u.transmit.mask = u.mask ∧
      u.transmit.relay = u.relay ∧ u.transmit.events = u.events := by
  unfold LinkUnit.transmit
  split
  · split <;> simp
  · simp

/-! ### What the engine's operations can do to the links -/

/-- From `s` to `t` the links have at most had events posted. -/
def LinksPosted (s t : State) : Prop :=
  ∀ l, (t.links.get l).up = (s.links.get l).up ∧ (t.links.get l).replyPending = (s.links.get l).replyPending ∧
    (t.links.get l).mask = (s.links.get l).mask ∧ (t.links.get l).relay = (s.links.get l).relay ∧
    (t.links.get l).waitingReply = (s.links.get l).waitingReply ∧
    (t.links.get l).sending = (s.links.get l).sending ∧
    ∀ e, (s.links.get l).events.has e = true → (t.links.get l).events.has e = true

theorem LinksPosted.of_eq {s t : State} (h : t.links = s.links) : LinksPosted s t := by
  intro l
  simp [h]

theorem LinksPosted.rfl {s : State} : LinksPosted s s := LinksPosted.of_eq (Eq.refl _)

theorem LinksPosted.trans {s t u : State} (a : LinksPosted s t) (b : LinksPosted t u) : LinksPosted s u := by
  intro l
  obtain ⟨a1, a2, a3, a4, a5, a6, a7⟩ := a l
  obtain ⟨b1, b2, b3, b4, b5, b6, b7⟩ := b l
  exact ⟨b1.trans a1, b2.trans a2, b3.trans a3, b4.trans a4, b5.trans a5, b6.trans a6, fun e h => b7 e (a7 e h)⟩

theorem LinksPosted.of_eq_left {s s' t : State} (h : s'.links = s.links) (a : LinksPosted s t) : LinksPosted s' t :=
  (LinksPosted.of_eq h.symm).trans a

theorem postTo_posted (l : LinkId) (e : EventKind) (s : State) : LinksPosted s (postTo l e s) := by
  intro k
  simp only [postTo, State.modLink_links, PerLink.get_set]
  split
  · rename_i h
    subst h
    have := LinkUnit.post_keeps e (s.links.get k)
    refine ⟨this.1, this.2.1, this.2.2.1, this.2.2.2.1, this.2.2.2.2.1, this.2.2.2.2.2, fun x hx => ?_⟩
    simp [LinkUnit.post_has, hx]
  · exact LinksPosted.rfl k

theorem postAll_posted (e : EventKind) (s : State) : LinksPosted s (postAll e s) := by
  intro k
  simp only [postAll, State.withLinks_links, PerLink.get_mapL]
  have := LinkUnit.post_keeps e (s.links.get k)
  refine ⟨this.1, this.2.1, this.2.2.1, this.2.2.2.1, this.2.2.2.2.1, this.2.2.2.2.2, fun x hx => ?_⟩
  simp [LinkUnit.post_has, hx]

/-- A post to all links leaves the event pending in the set of every link that is UP. -/
theorem postAll_pendingAll (e : EventKind) (s : State) : PendingAll e (postAll e s) := by
  intro l h
  simp only [postAll, State.withLinks_links, PerLink.get_mapL] at h ⊢
  rw [(LinkUnit.post_keeps e _).1] at h
  simp [LinkUnit.post_has, h]

/-- An event that is pending stays pending through further posts. -/
theorem PendingAll.posted {e : EventKind} {s t : State} (h : PendingAll e s) (p : LinksPosted s t) : PendingAll e t := by
  intro l hu
  obtain ⟨p1, -, -, -, -, -, p7⟩ := p l
  exact p7 e (h l (p1 ▸ hu))

/-- An event that is pending stays pending when the transmitters take up their work. -/
theorem PendingAll.transmit {e : EventKind} {s : State} (h : PendingAll e s) : PendingAll e (transmitAll s) := by
  intro l hu
  simp only [transmitAll, State.withLinks_links, PerLink.get_mapL] at hu ⊢
  have k := LinkUnit.transmit_keeps (s.links.get l)
  rw [k.2.2.2.2]
  exact h l (k.1 ▸ hu)

theorem PendingAll.settle {e : EventKind} {s : State} (h : PendingAll e s) : PendingAll e (settle s) :=
  PendingAll.transmit (s := supervise s) (by simpa [PendingAll] using h)

/-! ### Requests on a link that is ready -/

/-- The mark that a request of link `l` is taken (R177, step 2). -/
def markTaken (l : LinkId) (s : State) : State := s.modLink l fun u => { u with replyPending := true }

/-- What a request comes to on a link that is ready: the blocks' answer to the request taken, replied. -/
theorem serve_ready {l : LinkId} {k : ReqKind} {f : State → State × Answer} {s : State} (h : Ready l s) :
    serve l k f s = transmitAll (answer l k f (markTaken l s)) := by
  simp only [serve, takeRequest, h.1, h.2.1, h.2.2, Bool.not_true, Bool.or_self, Bool.false_eq_true, if_false]
  rfl

theorem everyReply_markTaken (k : ReqKind) (l : LinkId) (s : State) :
    everyReply k (markTaken l s) = everyReply k s := by
  cases k <;> rfl

theorem PerLink.set_set {α : Type} (p : PerLink α) (l : LinkId) (a b : α) : (p.set l a).set l b = p.set l b := by
  cases l <;> rfl

/-- Two changes of one link unit are one. -/
theorem State.modLink_modLink (l : LinkId) (f g : LinkUnit → LinkUnit) (s : State) :
    (s.modLink l f).modLink l g = s.modLink l fun u => g (f u) := by
  simp only [State.modLink, State.withLinks_links, PerLink.get_set_self, PerLink.set_set]
  rfl

theorem reply_markTaken (l : LinkId) (kind : Byte) (body : List Byte) (x : State) :
    reply l kind body (markTaken l x) =
      x.modLink l fun u => { u with replyPending := true, waitingReply := some ⟨replyKind kind, body⟩ } :=
  State.modLink_modLink l _ _ x

/-- A request that its link may send, whose block leaves `x` and answers `a`, is answered from `x`. -/
theorem serve_answered {l : LinkId} {k : ReqKind} {f : State → State × Answer} {s x : State} {a : Answer}
    (h : Ready l s) (hp : k.permitted l = true) (hf : f (markTaken l s) = (markTaken l x, a)) :
    serve l k f s = x.answered l k (a.result.bytes ++ everyReply k x ++ a.tail) := by
  rw [serve_ready h, answer, hp, if_pos rfl, hf]
  simp only [everyReply_markTaken, reply_markTaken]
  rfl

end Sys2Proof.Machine
end

