-- ==== Sys2Proof/Tests/Slice0.lean ====
section
/-! SUPPORT. The model's own tests: ill-formed terms that the well-formedness check refuses, the spec's worked figures,
one small step of the commands, and for every statement with hypotheses a state and operands that meet them. Expected
values come from the rules and tables of spec/. -/

namespace Sys2Proof.Tests

/- One theorem at a time: each evaluation waits for the kernel, and elaborated in parallel every one of them would hold a
thread of its own. -/
set_option Elab.async false

open Sys2Proof.Machine

/-! ### Fixtures -/

/-- A link that is UP and holds nothing. -/
def upUnit : LinkUnit := { LinkUnit.reset with up := true }

/-- A parameter set within Table 3-2 of a fitted head. -/
def params : HeadParams := ⟨true, 64, 0, 20, 1, 50, 10, 10⟩

/-- A curve within R40: 40 depth units from each knot to the next, up to 600. -/
def curve : Curve := #v[0, 40, 80, 120, 160, 200, 240, 280, 320, 360, 400, 440, 480, 520, 560, 600, 600]

/-- A descriptor of slot 0 within Table 5-2: head H0 alone, three rings of two cells. -/
def desc : Descriptor where
  kind := .engrave
  cylinder := ⟨7, 1⟩
  heads := ⟨true, false, false, false⟩
  x0 := 1000
  pitch := 200
  nr := 3
  nc := 1024
  cut := 2
  stagger := 5
  curves := ⟨some 0, none, none, none⟩
  policy := .drop
  texp := 50
  speedTol := 2
  posTol := 3
  starve := 2
  nextSlot := some 1
  patches := []

/-- The record of a band that is current and has cut no ring. -/
def record : StatusRecord := { StatusRecord.fresh desc.heads with phase := .current }

/-- A head LIFTED, ENGAGED, LIFTING, LOWERING and FAULTED. -/
def lifted : HeadUnit := { HeadUnit.reset false false with state := .lifted }
def engaged : HeadUnit := { HeadUnit.reset true false with state := .engaged }
def lifting : HeadUnit := { HeadUnit.reset true false with state := .lifting, timeout := some (.lift, 10000) }
def lowering : HeadUnit := { HeadUnit.reset false false with state := .lowering, timeout := some (.lower, 10000) }
def faulted : HeadUnit := { HeadUnit.reset false false with state := .faulted, cause := some .landTimeout }

/-- The part with every link UP, custody with the machine link, band `desc` in slot 0 with record `r`, head H0 as `u`
and the engine in state `e` on that slot. -/
def part (e : EngineState) (u : HeadUnit) (r : StatusRecord := record) (d : Descriptor := desc) : State :=
  { State.reset with
    links := PerLink.pure upUnit
    custody := some .machine
    store := ⟨Vector.replicate 16 ⟨some curve, none⟩, PerHead.pure ⟨params, none⟩⟩
    heads := ⟨u, lifted, lifted, lifted⟩
    jobs := State.reset.jobs.set 0 ⟨some d, r⟩
    engine := { Engine.reset with state := e, mounted := some ⟨7, 1⟩, slot := some 0, ring := some r.nextRing }
    sup := { Supervisor.reset .released .released with active := e.isCurrent && u.state.lowered } }

/-- The same part in CUTTING at revolution position `p`, the grid RUNNING with boundary count `b`, the next forward step
bringing a boundary. -/
def cutPart (p : RevPos) (b : Nat) (r : StatusRecord := record) (d : Descriptor := desc) : State :=
  let s := part .cutting engaged r d
  { s with
    engine := { s.engine with revPos := some p, arrived := true }
    grid := { Grid.reset with
      state := .running, acc := 1048576 - 1024, boundaries := b, reference := .referenced, position := 100
      indexTime := some 0 } }

/-- A ring slot READY and one CUTTING with ring 0 of two tones. -/
def readyRing : RingSlot := .ready 0 [1#8, 2#8] 5 false
def cuttingRing (mark : Bool) : RingSlot := .cutting 0 [1#8, 2#8] 5 mark

/-- Staging with head H0's slots as given and its next-fill ring `nf`. -/
def stagingOf (a b : RingSlot) (nf : Nat) : Staging :=
  { Staging.reset with heads := ⟨⟨a, b, some nf⟩, ⟨.empty, .empty, none⟩, ⟨.empty, .empty, none⟩, ⟨.empty, .empty, none⟩⟩ }

theorem lifted_ok : lifted.ok := by simp [HeadUnit.ok, lifted, HeadUnit.reset]
theorem engaged_ok : engaged.ok := by simp [HeadUnit.ok, engaged, HeadUnit.reset]
theorem lifting_ok : lifting.ok := by simp [HeadUnit.ok, lifting, HeadUnit.reset]
theorem lowering_ok : lowering.ok := by simp [HeadUnit.ok, lowering, HeadUnit.reset]
theorem faulted_ok : faulted.ok := by simp [HeadUnit.ok, faulted, HeadUnit.reset]

/-- Consistent heads, for a state with fitted heads, no pending sets and no prepared cell above the port's range. -/
theorem heads_ok {s : State} {u : HeadUnit} (hu : u.ok) (hs : s.heads = ⟨u, lifted, lifted, lifted⟩)
    (hf : s.store.params = PerHead.pure ⟨params, none⟩)
    (hc : ∀ k p, (s.cells.get k).prepared = some p → p.code ≤ 4095) : HeadsOk s := by
  intro k
  refine ⟨?_, ?_, ?_, hc k⟩
  · rw [hs]; cases k <;> first | exact hu | exact lifted_ok
  · rw [State.params, hf]; cases k <;> intro h <;> cases h
  · rw [hf]; cases k <;> intro p h <;> cases h

/-- `desc` lies within Table 5-2. -/
theorem desc_fits : desc.fits 0 := by
  simp only [Descriptor.fits, desc]
  refine ⟨by decide, by decide, ⟨.h0, rfl⟩, by decide, by decide, by decide, by decide, by decide, by decide, by decide,
    by decide, by decide, by decide, by decide, by decide, ?_, by decide, by decide, by decide, by decide, by decide,
    by decide, by decide, by decide, by decide, by simp, by decide⟩
  intro h; cases h <;> rfl

/-- The job table of `part` holds one descriptor. -/
theorem part_desc {e : EngineState} {u : HeadUnit} {r : StatusRecord} {d x : Descriptor} {i : Fin 64}
    (h : (part e u r d).jobs[i].desc = some x) : i = 0 ∧ x = d := by
  by_cases hi : i.val = 0
  · have : i = 0 := Fin.ext hi
    subst this
    simp only [part, Fin.getElem_fin, Fin.val_zero, Vector.getElem_set_self] at h
    exact ⟨rfl, (Option.some.inj h).symm⟩
  · simp only [part, State.reset, JobSlot.empty, Fin.getElem_fin] at h
    rw [Vector.getElem_set_ne (by omega) (by omega) (by simpa using fun h => hi h.symm), Vector.getElem_replicate] at h
    cases h

/-- Descriptors within Table 5-2, for a state with the job table of `part`. -/
theorem descriptors_fit {s : State} {e : EngineState} {u : HeadUnit} {r : StatusRecord}
    (h : s.jobs = (part e u r).jobs) : DescriptorsFit s := by
  intro i d hd
  rw [h] at hd
  obtain ⟨rfl, rfl⟩ := part_desc hd
  exact desc_fits

/-! ### Well-formedness: an ill-formed term for each check -/

theorem test_arrival_past_the_axial_range : (Instr.carriageArrival 40000001).wellFormed = false := by decide
theorem test_body_too_long :
    (Instr.frameReceived .gauge 0#8 (List.replicate 1101 0#8) 0#16).wellFormed = false := by decide +kernel
theorem test_relay_too_long :
    (Instr.relayNote .gauge 0#8 (List.replicate 1100 0#8)).wellFormed = false := by decide +kernel
theorem test_segment_too_long :
    (Instr.ringSegment .prepress 0#8 0#16 0#16 (List.replicate 1096 0#8)).wellFormed = false := by decide +kernel

/-- A written descriptor, within Table 5-2 for slot 20: R83's second example, X0 = 39,000,000 and pitch 2,000, with a
patch list of one entry. -/
def written : DescriptorBody where
  kind := 1#8
  job := 48213#32
  separation := 2#8
  headSet := 9#8
  x0 := 39000000#32
  pitch := 2000#16
  nr := 501#16
  nc := 8192#16
  cut := 8000#16
  stagger := 0#8
  curves := ⟨3#8, 255#8, 255#8, 3#8⟩
  policy := 0#8
  texp := 1250#16
  speedTol := 5#8
  posTol := 20#16
  starve := 4#8
  nextSlot := 255#8
  patchCount := 1#8
  patches := [(200#8, 3000#16)]

theorem test_patch_count_off :
    (Instr.writeDescriptor .gauge 20#8 { written with patchCount := 2#8 }).wellFormed = false := by decide
theorem test_written_is_well_formed : (Instr.writeDescriptor .gauge 20#8 written).wellFormed = true := by decide

/-! ### Worked figures of the spec -/

/-- Table 1-3: the presets of rings 3 and 4 with s = 5. -/
theorem test_presets : presetFor 3 5 = 983040 ∧ presetFor 4 5 = 262144 := by decide

/-- R2: the two wraps of the position count. -/
theorem test_position_wraps : movePosition .forward 1048575 = 0 ∧ movePosition .reverse 0 = 1048575 := by decide

/-- R3: 8 and P − 8 are trimmed, 9 and P − 9 are slips. -/
theorem test_index_classes :
    indexClass .referenced 8 = .trim ∧ indexClass .referenced 9 = .slip ∧
      indexClass .referenced 1048568 = .trim ∧ indexClass .referenced 1048567 = .slip := by decide

/-- Table 2-4 and the parameters of section 2.8. -/
def curve3 : Curve := #v[0, 20, 44, 70, 98, 130, 180, 212, 246, 280, 316, 352, 390, 430, 482, 540, 600]
def h1 : HeadParams := ⟨true, 420, -100, 30, 12, 40, 100, 100⟩

/-- Section 2.8, one ring on one head: tones 0, 100, 20, 255 and 48 with Wt = 40. -/
theorem test_worked_ring :
    driveOfTone curve3 h1 .drop 40 0 = (0, .noCell) ∧ driveOfTone curve3 h1 .drop 40 100 = (1396, .cut) ∧
      driveOfTone curve3 h1 .drop 40 20 = (0, .dropped) ∧ driveOfTone curve3 h1 .drop 40 255 = (4074, .cut) ∧
      driveOfTone curve3 h1 .drop 40 48 = (622, .cut) := by decide +kernel

/-- Section 2.8, codes at the clamp edges: A = −509, 0, 4095 and 4102. -/
theorem test_clamp_edges :
    clampCode (-509) = (0, .clipLow) ∧ clampCode 0 = (0, .clipLow) ∧ clampCode 4095 = (4095, .cut) ∧
      clampCode 4102 = (4095, .clipHigh) := by decide

/-- Section 2.8, the wear term at the stylus counts worked there. -/
theorem test_wear_terms :
    wearTerm h1 400000000 = 40 ∧ wearTerm h1 55924053 = 39 ∧ wearTerm h1 55924054 = 40 ∧
      wearTerm h1 1398101 = 0 ∧ wearTerm h1 1398102 = 1 := by decide

/-- Section 6.3, worked figures: the checks of 0, 100, 20, 255, 48, and of 300 tones of 1 and of 2. -/
theorem test_ring_checks :
    ringCheck [0#8, 100#8, 20#8, 255#8, 48#8] = 1520 ∧ ringCheck (List.replicate 300 1#8) = 32851 ∧
      ringCheck (List.replicate 300 2#8) = 166 := by decide +kernel

/-- R157: 1,312,500 µs is INSIDE and 1,312,501 µs OUTSIDE with Texp = 1,250 ms and 5 percent. -/
theorem test_speed_window :
    judgeSpeed 1250 5 (some 1312500) = .inside ∧ judgeSpeed 1250 5 (some 1312501) = .outside ∧
      judgeSpeed 1250 5 (some 1187500) = .inside ∧ judgeSpeed 1250 5 (some 1187499) = .outside := by decide

/-- R83: Nr = 600 is refused at field 7 and L = 8,177 at field 9; Nr = 501 and L = 8,176 pass. -/
theorem test_field_scan :
    firstOffence ((rawOfFields written).checks 20) = none ∧
      firstOffence ((rawOfFields { written with nr := 600#16 }).checks 20) = some 7 ∧
      firstOffence ((rawOfFields { written with cut := 8176#16 }).checks 20) = none ∧
      firstOffence ((rawOfFields { written with cut := 8177#16 }).checks 20) = some 9 ∧
      firstOffence ((rawOfFields { written with
        patchCount := 3#8, patches := [(1#8, 3000#16), (1#8, 3000#16), (1#8, 2500#16)] }).checks
        20) = some 27 := by decide +kernel

/-- R151: the thresholds of the limits 5 and 200 ms. -/
theorem test_thresholds :
    warnThreshold 5 = 2000 ∧ faultThreshold 5 = 5000 ∧ warnThreshold 200 = 100000 ∧ faultThreshold 200 = 200000 := by
  decide

/-- R176: the check of the request DISARM, which has no body, worked by hand over the bytes 0, 0, 3. -/
theorem test_frame_check_of_disarm : frameCheck 0x03#8 [] = 0xFCFF#16 := by decide +kernel

/-- R174: the line of a transmitter with nothing to send. -/
theorem test_idle_fill : LinkUnit.lineBytes upUnit = [0xFF#8] := by decide

/-- R176: noise, one whole frame and an impossible length in one stream. -/
theorem test_receiver :
    receive .machine ([0x00#8] ++ frameBytes 0x03#8 [] ++ [0xA5#8, 0xFF#8, 0xFF#8]) =
      [.frameReceived .machine 0x03#8 [] (frameCheck 0x03#8 []), .bodyLengthImpossible .machine] := by decide +kernel

/-! ### One step of the commands -/

/-- The state after a command. -/
def after (c : Instr) (s : State) : State :=
  match exec c s with
  | .next t => t
  | .fault _ => s
  | .refused _ => s

/-- The reply that link `l` sends. -/
def sent (l : LinkId) (s : State) : Option TxFrame := (s.links.get l).sending

/-- R5, R9: a forward step of a RUNNING grid brings boundary 0, which latches cell 0: 1396 from Table 2-5. -/
theorem test_boundary_latches :
    let s := cutPart .cut 0
    let t := after (.stepEvent .forward 0) { s with cells := s.cells.set .h0 ⟨40, some ⟨0, 1396, .cut⟩⟩ }
    t.grid.boundaries = 1 ∧ t.grid.acc = 0 ∧ (t.heads.get .h0).drive = 1396 ∧ (t.heads.get .h0).stylus = 1 := by
  decide +kernel

/-- R33, R138: boundary L ends the ring, and the carriage is asked to X0 + pitch. -/
theorem test_boundary_l :
    let t := after (.stepEvent .forward 0) (cutPart .cut 2)
    t.jobs[0].record.nextRing = 1 ∧ t.engine.revPos = some .seam ∧ t.engine.target = some 1200 := by decide +kernel

/-- R135, R136: no ring is READY at the index, so the revolution is idle; its period 50,000 µs is Texp. -/
theorem test_idle_revolution :
    let t := after (.indexEvent 50000) (cutPart .seam 3)
    t.engine.revPos = some .idle ∧ t.engine.dataIdle = 1 ∧ t.jobs[0].record.idleRevs = 1 := by decide +kernel

/-- R4, R135: a SLIP with a ring being cut aborts; its head must first lift. -/
theorem test_slip_aborts :
    let t := after (.indexEvent 50000) (cutPart .cut 1)
    t.engine.state = .ending ∧ t.jobs[0].record.cause = some .indexSlip ∧ t.jobs[0].record.partialRing = some 0 := by
  decide +kernel

/-- R31, R33, R35 and log entry 20: an index trimmed before boundary L begins an idle revolution with drive 0, EMPTY
prepared cells and the CUTTING slot kept, and the next boundary latches nothing. -/
theorem test_trim_before_boundary_l :
    let s := cutPart .cut 1
    let c := { s with
      grid := { s.grid with position := 8 }
      heads := s.heads.set .h0 { engaged with drive := 1396 }
      cells := s.cells.set .h0 ⟨40, some ⟨1, 622, .clipHigh⟩⟩
      staging := stagingOf (cuttingRing false) .empty 1 }
    let t := after (.indexEvent 50000) c
    let u := after (.stepEvent .forward 50001) { t with grid := { t.grid with acc := 1048575 } }
    t.engine.revPos = some .idle ∧ (t.heads.get .h0).drive = 0 ∧ (t.cells.get .h0).prepared = none ∧
      t.staging = c.staging ∧ u.grid.boundaries = 1 ∧ (u.heads.get .h0).drive = 0 ∧ u.jobs = t.jobs := by decide +kernel

/-- R15: the expiry falls 60,000,000 µs after the index. -/
theorem test_index_timing_expires :
    (after .indexTimingExpiry (cutPart .seam 3)).grid.indexTime = none ∧
      (after .indexTimingExpiry (cutPart .seam 3)).now = 60000000 := by decide +kernel

/-- R62, R66, R69: the lower timeout in LOWERING aborts with LAND_TIMEOUT, and the head at rest ends the band. -/
theorem test_land_timeout :
    let t := after (.lowerTimeoutExpiry .h0) (part .preparing lowering)
    (t.heads.get .h0).state = .faulted ∧ t.engine.state = .ended ∧ t.jobs[0].record.phase = .aborted ∧
      t.jobs[0].record.cause = some .landTimeout := by decide +kernel

/-- R153: a head fault taken first at the moment of a stall; MOTION_FAULT is posted for the stall all the same. -/
theorem test_stall_and_head_fault :
    let s := cutPart .cut 1
    let t := after (.landedSenseChange .h0 false) { s with sup := { s.sup with stall := 200000, warnArmed := false } }
    t.jobs[0].record.cause = some .headFault ∧ (t.links.get .gauge).events.has .motionFault = true ∧
      (t.links.get .gauge).events.has .stallWarn = false := by decide +kernel

/-- R155: a backward step with a head on the copper. -/
theorem test_reverse_rotation :
    let t := after (.stepEvent .reverse 0) (cutPart .cut 1)
    t.jobs[0].record.cause = some .reverseRotation ∧ t.sup.active = false ∧ t.grid.position = 99 := by decide +kernel

/-- R133: 3 units from the target is within the tolerance of 3, 4 units is not. -/
theorem test_arrival_tolerance :
    let s := cutPart .seam 3
    let x := { s with engine := { s.engine with target := some 1200, arrived := false } }
    (after (.carriageArrival 1203) x).engine.arrived = true ∧
      (after (.carriageArrival 1204) x).jobs[0].record.cause = some .positionMismatch := by decide +kernel

/-- R154: 2,001 ms is clamped; the reply is ADJUSTED with 2,000. -/
theorem test_stall_limit :
    sent .machine (after (.setStallLimit .machine 2001#16) (part .idle lifted)) =
      some (.reply ⟨0x8A#8, [1#8, 7#8, 0xD0#8]⟩) := by decide +kernel

/-- R126: ARM_BAND answers DONE, and BUSY a second time. -/
theorem test_arm_band :
    sent .machine (after (.armBand .machine 0#8 1#8) (part .idle lifted)) = some (.reply ⟨0x82#8, [0#8]⟩) ∧
      sent .machine (after (.armBand .machine 0#8 1#8) (part .armed lifted)) = some (.reply ⟨0x82#8, [7#8]⟩) := by
  decide +kernel

/-- R166, R168: the holder after the request follows the result; 255 is NONE. -/
theorem test_custody_replies :
    sent .machine (after (.releaseCustody .machine) (part .idle lifted)) = some (.reply ⟨0x8D#8, [0#8, 255#8]⟩) ∧
      sent .gauge (after (.seizeCustody .gauge) (part .idle lifted)) = some (.reply ⟨0x8F#8, [3#8, 0#8]⟩) := by
  decide +kernel

/-- R45: K5 = 310 and K6 = 305 is refused BAD_FIELD, field 7. -/
theorem test_write_curve_refused :
    sent .machine (after (.writeCurve .machine 3#8
        #v[0#16, 0#16, 0#16, 0#16, 0#16, 310#16, 305#16, 600#16, 600#16, 600#16, 600#16, 600#16, 600#16, 600#16,
          600#16, 600#16, 600#16]) (part .idle lifted)) = some (.reply ⟨0x92#8, [17#8, 7#8]⟩) := by decide +kernel

/-- R104, R106: a segment at offset 1 of a new ring is a gap; the reply carries nf and the tones received. -/
theorem test_segment_gap :
    sent .prepress (after (.ringSegment .prepress 0#8 0#16 1#16 [9#8])
        { part .armed lifted with staging := stagingOf .empty .empty 0 }) =
      some (.reply ⟨0x9E#8, [21#8, 0#8, 0#8, 0#8, 0#8, 0#8]⟩) := by decide +kernel

/-- R109: the close of a ring of 2 tones with check 5 makes it READY and raises nf. -/
theorem test_ring_close :
    let s := { part .armed lifted with staging := stagingOf (.filling 0 [1#8, 2#8] 5) .empty 0 }
    ((after (.ringClose .prepress 0#8 0#16 5#16 0#8) s).staging.heads.get .h0) = ⟨readyRing, .empty, some 1⟩ := by
  decide +kernel

/-- R177: a kind byte that names no request is answered UNKNOWN_KIND. -/
theorem test_unknown_kind :
    sent .gauge (after (.frameReceived .gauge 0x21#8 [] (frameCheck 0x21#8 [])) (part .idle lifted)) =
      some (.reply ⟨0xA1#8, [2#8]⟩) := by decide +kernel

/-- R175, R171: the holder's link goes down. -/
theorem test_signal_loss :
    (after (.linkSignalLoss .machine) (part .idle lifted)).custody = none ∧
      (after (.linkSignalLoss .machine) (part .idle lifted)).links.get .machine = LinkUnit.reset := by decide +kernel

/-- R160: 2,000 µs of QUALIFYING enter master reset, and the release of the line ends it. -/
theorem test_master_reset :
    let s := part .idle lifted
    let t := after .masterResetQualified { s with sup := { s.sup with masterReset := .qualifying 5 } }
    t.inMasterReset = true ∧ t.now = 2005 ∧ (after (.masterResetLineChange false) t).inMasterReset = false := by
  decide +kernel

/-- R184: the gauge link shows signal at the end of master reset and comes UP at once; the others stay DOWN. -/
theorem test_signal_at_the_end_of_reset :
    let s := { part .idle lifted with sup := Supervisor.reset .released .taken }
    let t := after (.masterResetLineChange false) (after (.linkUp .gauge) s)
    t.links = ⟨LinkUnit.reset, LinkUnit.reset, upUnit⟩ := by decide +kernel

/-- Log entry 1: an empty queue passes 1 µs. -/
theorem test_idle_step : step State.reset = .next (State.reset.withNow 1) := rfl

/-- R62 and log entry 1: the lower timeout due at 10,000 µs joins the queue. -/
theorem test_expiry_joins_the_queue :
    (tick { part .preparing lowering with now := 9999 }).pending = [.lowerTimeoutExpiry .h0] := by decide +kernel

/-! ### Witnesses: for each statement with hypotheses, a state and operands that meet them, clause by clause -/

theorem ready_part {e : EngineState} {u : HeadUnit} {r : StatusRecord} {d : Descriptor} (l : LinkId) :
    Ready l (part e u r d) := by cases l <;> exact ⟨rfl, rfl, rfl⟩

theorem ready_cut {p : RevPos} {b : Nat} {r : StatusRecord} {d : Descriptor} (l : LinkId) :
    Ready l (cutPart p b r d) := by cases l <;> exact ⟨rfl, rfl, rfl⟩

theorem supervised_cut {p : RevPos} {b : Nat} : Supervised (cutPart p b) := ⟨rfl, nofun⟩

theorem supervised_lifted : Supervised (part .armed lifted) ∧ Supervised (part .idle lifted) :=
  ⟨⟨by decide +kernel, fun _ => ⟨rfl, rfl⟩⟩, ⟨by decide +kernel, fun _ => ⟨rfl, rfl⟩⟩⟩

theorem heads_ok_cut {p : RevPos} {b : Nat} {r : StatusRecord} {d : Descriptor} : HeadsOk (cutPart p b r d) :=
  heads_ok engaged_ok rfl rfl (by intro k p h; cases k <;> cases h)

theorem heads_ok_part {e : EngineState} {u : HeadUnit} {r : StatusRecord} {d : Descriptor} (hu : u.ok) :
    HeadsOk (part e u r d) := heads_ok hu rfl rfl (by intro k p h; cases k <;> cases h)

/-- A cutting part whose stall counter stands at `n` µs. -/
def stalled (n : Nat) : State := { cutPart .cut 1 with sup := { (cutPart .cut 1).sup with stall := n } }

theorem stalled_ok (n : Nat) : Supervised (stalled n) ∧ HeadsOk (stalled n) ∧ Ready .machine (stalled n) :=
  ⟨⟨rfl, nofun⟩, heads_ok engaged_ok rfl rfl (by intro k p h; cases k <;> cases h), ⟨rfl, rfl, rfl⟩⟩

/-- Agreeing records, for a state with the job table of a band in slot 0 whose record is `record`, out of ENDING. -/
theorem records_ok_part (s : State) (hj : s.jobs = (part .cutting engaged).jobs) (hs : s.engine.slot = some 0)
    (he : s.engine.state = .cutting) : RecordsOk s := by
  refine ⟨fun _ => ⟨0, hs, by rw [hj]; rfl⟩, fun i => ?_⟩
  rw [hj]
  by_cases hi : i.val = 0
  · obtain rfl : i = 0 := Fin.ext hi
    have h0 : s.slotInUse 0 = true := by simp [State.slotInUse, he, hs, EngineState.isCurrent]
    refine ⟨iff_of_true rfl h0, iff_of_false nofun (by simp [he]), Nat.le_refl 0, ?_, fun _ => rfl⟩
    intro d h
    obtain rfl : desc = d := Option.some.inj h
    exact ⟨by decide, iff_of_false (by decide) (by rintro (h | ⟨-, h⟩) <;> cases h)⟩
  · have h1 : (part .cutting engaged).jobs[i] = JobSlot.empty := by
      simp only [part, State.reset, Fin.getElem_fin]
      rw [Vector.getElem_set_ne (by omega) (by omega) (by simpa using fun h => hi h.symm), Vector.getElem_replicate]
    have h0 : s.slotInUse i = false := by
      have : (0 : Fin 64) ≠ i := fun h => hi (by rw [← h]; rfl)
      simpa [State.slotInUse, he, hs, EngineState.isCurrent] using this
    rw [h1, h0]
    exact ⟨iff_of_false nofun nofun, iff_of_false nofun nofun, le_rfl, nofun, fun _ => rfl⟩

/-- CommandsNotTaken: master reset, a DOWN link, and a reply pending. -/
theorem witness_CommandsNotTaken :
    (Instr.lineEvent .stallWarn = true ∧
      { part .idle lifted with sup := Supervisor.reset .released .taken }.inMasterReset = true) ∧
    (Instr.asFrame (.disarm .machine) = some (.machine, .disarm, []) ∧
      (State.reset.links.get .machine).up = false) ∧
    let s := { part .idle lifted with links := PerLink.pure { upUnit with replyPending := true } }
    s.inMasterReset = false ∧ (s.links.get .machine).up = true ∧ (s.links.get .machine).replyPending = true := by
  decide +kernel

/-- PositionFollowsTheLine: the last position of the revolution. -/
theorem witness_PositionFollowsTheLine :
    State.reset.inMasterReset = false ∧ State.reset.grid.position < 1048576 ∧
      { State.reset with grid := { Grid.reset with position := 1048575 } }.grid.position < 1048576 := by decide

/-- IndexSetsTheGrid: an unknown and a valid index timing, a STOPPED grid and a RUNNING one. -/
theorem witness_IndexSetsTheGrid :
    (State.reset.inMasterReset = false ∧ State.reset.grid.indexTime = none ∧ State.reset.grid.state = .stopped ∧
      State.reset.grid.acc = 0 ∧ State.reset.grid.boundaries = 0) ∧
    let s := cutPart .seam 3
    s.inMasterReset = false ∧ s.grid.indexTime = some 0 ∧ 0 < max s.now 60000000 ∧ s.band = some desc ∧
      s.engine.state.abortable = true ∧ s.grid.state ≠ .stopped := by decide +kernel

/-- StepsWithoutBoundary: a backward step over lifted heads, a forward one with no carry, and one with the boundary count
at Nc + 1. -/
theorem witness_StepsWithoutBoundary :
    ((part .armed lifted).inMasterReset = false ∧ Supervised (part .armed lifted) ∧
      (part .armed lifted).sup.active = false) ∧
    (Supervised (cutPart .cut 0) ∧ (cutPart .cut 0).band = some desc ∧
      { cutPart .cut 0 with grid := { (cutPart .cut 0).grid with acc := 0 } }.grid.acc + desc.nc < 1048576) ∧
    Supervised (cutPart .seam 1025) ∧ (cutPart .seam 1025).grid.boundaries = desc.nc + 1 :=
  ⟨⟨rfl, supervised_lifted.1, rfl⟩, ⟨supervised_cut, by decide +kernel, by decide +kernel⟩, supervised_cut, rfl⟩

/-- GridStaysInRange: the grid at its last values, and a step from it. -/
theorem witness_GridStaysInRange :
    let s := { cutPart .seam 1025 with
      grid := { (cutPart .seam 1025).grid with position := 1048575, acc := 1048575 }
      pending := [Instr.stepEvent .forward 0] }
    GridOk s ∧ DescriptorsFit s ∧ ∃ t, step s = .next t := by
  refine ⟨⟨by decide, by decide, ?_, ?_, ?_⟩, descriptors_fit (e := .cutting) (u := engaged) rfl, ⟨_, rfl⟩⟩
  · intro d h
    have h : desc = d := Option.some.inj h
    subst h
    decide
  · intro h; cases h
  · intro h; exact absurd rfl h

/-- BoundaryLatchesCells: boundary 0 and boundary L − 1 of a cutting revolution, with a prepared cell whose clip count
stands at its last value or below it, an EMPTY one and heads outside the set; boundaries L − 1, L and L + 1 after it. -/
theorem witness_BoundaryLatchesCells :
    (BringsBoundary 0 desc (cutPart .cut 0) ∧ BringsBoundary 1 desc (cutPart .cut 1) ∧ 1 < desc.cut ∧
      (cutPart .cut 0).engine.slot = some 0 ∧ Supervised (cutPart .cut 0) ∧ Supervised (cutPart .cut 1) ∧
      (cutPart .cut 0).engine.state = .cutting ∧ (cutPart .cut 0).engine.revPos = some .cut) ∧
    (desc.heads.get .h1 = false ∧ desc.heads.get .h0 = true ∧ ((cutPart .cut 0).cells.get .h0).prepared = none) ∧
    (let s := { cutPart .cut 1 with cells := ⟨⟨40, some ⟨1, 4095, .clipHigh⟩⟩, .reset, .reset, .reset⟩ }
     BringsBoundary 1 desc s ∧ Supervised s ∧ (s.cells.get .h0).prepared = some ⟨1, 4095, .clipHigh⟩ ∧
      s.jobs[(0 : Fin 64)].record.counts.get .h0 = some ⟨0, 0, 0⟩ ∧ RaisesClip .clipHigh ⟨0, 0, 0⟩ ∧
      ¬ RaisesClip .clipHigh ⟨0, 4294967295, 0⟩) ∧
    (BringsBoundary 1 desc (cutPart .seam 1) ∧ BringsBoundary 2 desc (cutPart .idle 2) ∧ desc.cut = 2 ∧
      BringsBoundary 3 desc (cutPart .seam 3) ∧ Supervised (cutPart .seam 1) ∧
      ¬ ((cutPart .seam 1).engine.state = .cutting ∧ (cutPart .seam 1).engine.revPos = some .cut)) := by
  refine ⟨⟨⟨rfl, rfl, ?_, ?_, rfl, by decide⟩, ⟨rfl, rfl, ?_, ?_, rfl, by decide⟩, by decide, rfl, supervised_cut,
    supervised_cut, rfl, rfl⟩, ⟨rfl, rfl, rfl⟩, ⟨⟨rfl, rfl, ?_, ?_, rfl, by decide⟩, ⟨?_, nofun⟩, rfl, ?_, ?_, ?_⟩,
    ⟨rfl, rfl, ?_, ?_, rfl, by decide⟩, ⟨rfl, rfl, ?_, ?_, rfl, by decide⟩, rfl, ⟨rfl, rfl, ?_, ?_, rfl, by decide⟩,
    supervised_cut, nofun⟩ <;> (try unfold RaisesClip) <;> decide +kernel

/-- BoundaryLEndsTheRing: the last ring with an ENGAGED head and with every head at rest, a stop at seam, a stop mark, a
pause, and a ring that goes on; a ring of a TEST_CUT band; and a next slot that does not qualify for the chain. -/
theorem witness_BoundaryLEndsTheRing :
    let last := { record with nextRing := 2 }
    let s := cutPart .cut 2
    let rest := { cutPart .cut 2 last with heads := ⟨lifted, lifted, lifted, lifted⟩ }
    (BringsBoundary 2 desc (cutPart .cut 2 last) ∧ HeadsOk (cutPart .cut 2 last) ∧
      (cutPart .cut 2 last).jobs[(0 : Fin 64)].record.nextRing + 1 = desc.nr) ∧
    (BringsBoundary desc.cut desc s ∧ s.engine.slot = some 0 ∧ s.engine.state = .cutting ∧
      s.engine.revPos = some .cut ∧ HeadsOk s ∧ (∃ h, desc.heads.get h = true ∧ (s.heads.get h).state = .engaged) ∧
      s.engine.target = none ∧ s.jobs[(0 : Fin 64)].record.nextRing + 1 ≠ desc.nr) ∧
    (BringsBoundary 2 desc rest ∧ HeadsOk rest ∧ desc.atRest rest = true ∧ desc.nextSlot = some 1 ∧
      rest.jobs[(1 : Fin 64)].desc = none) ∧
    { s.engine with stopAtSeam := some .linkLost }.stopAtSeam = some .linkLost ∧
    StopMarked desc { s with staging := stagingOf (cuttingRing true) .empty 1 } ∧
    ¬ StopMarked { desc with kind := .testCut } s ∧ { s.engine with pause := true }.pause = true ∧
    BringsBoundary 2 { desc with kind := .testCut } (cutPart .cut 2 record { desc with kind := .testCut }) := by
  refine ⟨⟨⟨rfl, rfl, ?_, ?_, rfl, by decide⟩, heads_ok_cut, ?_⟩, ⟨⟨rfl, rfl, ?_, ?_, rfl, by decide⟩, rfl, rfl, rfl,
    heads_ok_cut, ⟨.h0, rfl, rfl⟩, rfl, ?_⟩, ⟨⟨rfl, rfl, ?_, ?_, rfl, by decide⟩,
    heads_ok lifted_ok rfl rfl (by intro k p h; cases k <;> cases h), ?_, rfl, ?_⟩, rfl,
    ⟨nofun, .h0, rfl, 0, [1#8, 2#8], 5, .inl rfl⟩, fun h => h.1 rfl, rfl,
    ⟨rfl, rfl, ?_, ?_, rfl, by decide⟩⟩ <;> decide +kernel

/-- CellComputation: the extreme parameters and knots, and the ends of the tone range. -/
theorem witness_CellComputation :
    Curve.fits curve ∧ Curve.fits (Vector.replicate 17 600) ∧ HeadParams.fits params ∧
      HeadParams.fits ⟨true, 1023, 511, 200, 255, 100, 500, 500⟩ ∧
      HeadParams.fits ⟨true, 64, -512, 0, 0, 0, 10, 10⟩ ∧ (100 : Nat) ≤ 100 ∧
      16 * (0 : Fin 16).val + (0 : Fin 16).val = 0 ∧ 16 * (15 : Fin 16).val + (15 : Fin 16).val ≠ 0 := by
  have h : HeadParams.fits ⟨true, 1023, 511, 200, 255, 100, 500, 500⟩ := by unfold HeadParams.fits; decide
  have k : HeadParams.fits ⟨true, 64, -512, 0, 0, 0, 10, 10⟩ := by unfold HeadParams.fits; decide
  refine ⟨⟨?_, ?_⟩, ⟨?_, ?_⟩, ?_, h, k, by decide, by decide⟩ <;> (try unfold HeadParams.fits params) <;> decide +kernel

/-- The part at a seam or in PREPARING, at an index that decides the coming revolution, with rings of `r` and the
carriage as given. -/
def deciding (e : EngineState) (a b : RingSlot) (arrived : Bool) (d : Descriptor := desc) : State :=
  let s := cutPart .seam 3 record d
  { s with
    staging := stagingOf a b 1
    engine := { s.engine with
      state := e, arrived := arrived, settleCount := some 1, settleRun := 1
      revPos := if e = .cutting then some .seam else none } }

/-- CuttingRevolutionBegins: from CUTTING and from PREPARING, for an ENGRAVE and a TEST_CUT band. -/
theorem witness_CuttingRevolutionBegins :
    let test := { desc with kind := .testCut, patches := [⟨9, 1⟩] }
    (DecidingIndex 51000 desc 0 (deciding .cutting readyRing .empty true) ∧
      judged 51000 desc (deciding .cutting readyRing .empty true) = .inside ∧
      DataReady desc 0 (deciding .cutting readyRing .empty true)) ∧
    DecidingIndex 49000 desc 0 (deciding .preparing .empty readyRing true) ∧
    (DecidingIndex 50000 test 0 (deciding .cutting .empty .empty true test) ∧
      DataReady test 0 (deciding .cutting .empty .empty true test) ∧ test.fits 0 ∧
      patchTone test.patches 0 = 9 ∧ patchTone test.patches 1 = 0) := by
  refine ⟨⟨⟨?_, ?_, ?_, nofun, .inl ⟨?_, nofun⟩⟩, ?_, .inr ?_⟩, ⟨?_, ?_, ?_, nofun, .inr ?_⟩,
    ⟨?_, ?_, ?_, nofun, .inl ⟨?_, nofun⟩⟩, .inl rfl, ?_, rfl, rfl⟩
  case refine_6 => intro h hh; cases h <;> first | exact ⟨_, _, _, .inl rfl⟩ | cases hh
  case refine_15 =>
    simp only [Descriptor.fits, desc]
    refine ⟨by decide, by decide, ⟨.h0, rfl⟩, by decide, by decide, by decide, by decide, by decide, by decide, by decide,
      by decide, by decide, by decide, by decide, by decide, ?_, by decide, by decide, by decide, by decide, by decide,
      by decide, by decide, by decide, by decide, by simp, by decide⟩
    intro h; cases h <;> rfl
  all_goals decide +kernel

/-- IdleRevolutionBegins: no data, no carriage with its request one index old and a pause waiting, a revolution 1 µs
outside the window, and an index trimmed before boundary L. -/
theorem witness_IdleRevolutionBegins :
    (DecidingIndex 50000 desc 0 (deciding .cutting .empty .empty true) ∧
      ¬ DataReady desc 0 (deciding .cutting .empty .empty true) ∧ HeadsOk (deciding .cutting .empty .empty true)) ∧
    (let s := deciding .cutting readyRing .empty false
     let t := { s with engine := { s.engine with target := some 1200, late := 1, pause := true } }
     DecidingIndex 50000 desc 0 t ∧ t.engine.arrived = false ∧ t.engine.target.isSome = true) ∧
    (DecidingIndex 51001 desc 0 (deciding .cutting readyRing .empty true) ∧
      judged 51001 desc (deciding .cutting readyRing .empty true) ≠ .inside) ∧
    let s := cutPart .cut 1
    DecidingIndex 50000 desc 0 { s with grid := { s.grid with position := 8 } } := by
  refine ⟨⟨⟨?_, ?_, ?_, nofun, .inl ⟨?_, nofun⟩⟩, ?_, heads_ok engaged_ok rfl rfl (by intro k p h; cases k <;> cases h)⟩,
    ⟨⟨?_, ?_, ?_, fun _ => ?_, .inl ⟨?_, nofun⟩⟩, ?_⟩,
    ⟨⟨?_, ?_, ?_, nofun, .inl ⟨?_, nofun⟩⟩, ?_⟩, ⟨?_, ?_, ?_, nofun, .inl ⟨?_, fun _ => .inr (.inl ?_)⟩⟩⟩
  case refine_5 =>
    rintro (h | h)
    · cases h
    · obtain ⟨_, _, _, h | h⟩ := h .h0 rfl <;> cases h
  all_goals decide +kernel

/-- PreparingCountsIndexes: the first index, the eighth with a late period, and an index in HELD with a request one index
old. -/
theorem witness_PreparingCountsIndexes :
    let s := deciding .preparing readyRing .empty true
    let t := { s with engine := { s.engine with settleCount := none, settleRun := 0 } }
    let u := { s with engine := { s.engine with settleCount := some 7, settleRun := 2 } }
    let v := { s with engine := { s.engine with state := .held, target := some 1200, late := 1 } }
    (t.inMasterReset = false ∧ t.band = some desc ∧ t.engine.slot = some 0 ∧ t.engine.state = .preparing ∧
      t.engine.settleRun ≤ 2 ∧ t.engine.target = none ∧ t.engine.settleCount = none) ∧
    (u.engine.settleRun ≤ 2 ∧ judged 51001 desc u ≠ .inside ∧ 7 ≤ u.engine.settleCount.getD 0 ∧ HeadsOk u) ∧
    v.inMasterReset = false ∧ v.band = some desc ∧ v.engine.slot = some 0 ∧ v.engine.late < 2 ∧
      v.engine.state = .held ∧
    ∀ e, e = .idle ∨ e = .armed ∨ e = .ending ∨ e = .ended →
      (part e lifted).inMasterReset = false ∧ (part e lifted).engine.state.abortable = false := by
  refine ⟨?_, ⟨?_, ?_, ?_, heads_ok engaged_ok rfl rfl (by intro k p h; cases k <;> cases h)⟩, rfl, rfl, rfl, ?_, rfl,
    ?_⟩
  case refine_6 => rintro e (rfl | rfl | rfl | rfl) <;> exact ⟨rfl, rfl⟩
  all_goals decide +kernel

/-- IndexesThatAbort: the first position of a slip at each side, and the third index after a request. -/
theorem witness_IndexesThatAbort :
    let s := cutPart .cut 1
    let t := cutPart .seam 3
    let u := { t with engine := { t.engine with target := some 1200, late := 2 } }
    (s.inMasterReset = false ∧ s.band = some desc ∧ s.engine.slot = some 0 ∧ HeadsOk s ∧ s.engine.state = .cutting ∧
      s.engine.revPos = some .cut ∧ s.grid.reference = .referenced ∧ 9 ≤ s.grid.position ∧
      s.grid.position ≤ 1048567) ∧
    (u.engine.state.abortable = true ∧ u.engine.target.isSome = true ∧ u.engine.late = 2 ∧
      u.engine.revPos ≠ some .cut ∧ HeadsOk u) := by
  refine ⟨⟨rfl, ?_, rfl, heads_ok_cut, rfl, rfl, rfl, ?_, ?_⟩, rfl, rfl, rfl, ?_, heads_ok engaged_ok rfl rfl ?_⟩
  case refine_5 => intro k p h; cases k <;> cases h
  all_goals decide +kernel

/-- Knots that offend at K0 alone, at K16 alone, and nowhere. -/
def badFirst : Vector (BitVec 16) 17 := (Vector.replicate 17 600#16).set 0 601#16
def badLast : Vector (BitVec 16) 17 := (Vector.replicate 17 600#16).set 16 599#16
def knots : Vector (BitVec 16) 17 := Vector.replicate 17 600#16

/-- WriteCurveIsAppliedOrStaged: no custody, curve 16, K0 and K16 offending, and a curve that is in use or not. -/
theorem witness_WriteCurveIsAppliedOrStaged :
    (Ready .gauge (part .idle lifted) ∧ (part .idle lifted).custody ≠ some .gauge) ∧
    (Ready .machine (part .idle lifted) ∧ (part .idle lifted).custody = some .machine ∧ 16 ≤ (16#8).toNat) ∧
    (knotBad badFirst 0 ∧ ∀ m : Fin 17, m < 0 → ¬ knotBad badFirst m) ∧
    (knotBad badLast 16 ∧ ∀ m : Fin 17, m < 16 → ¬ knotBad badLast m) ∧
    (∀ n, ¬ knotBad knots n) ∧ (15#8).toNat = (15 : Fin 16).val ∧
    (part .armed lifted).curveInUse 0 = true ∧ (part .idle lifted).curveInUse 0 = false := by
  refine ⟨⟨ready_part _, ?_⟩, ⟨ready_part _, rfl, ?_⟩, ⟨?_, ?_⟩, ⟨?_, ?_⟩, ?_, ?_, ?_, ?_⟩ <;>
    (try unfold knotBad) <;> decide +kernel

/-- Written parameters at the low ends of Table 3-2, fitted or not. -/
def lowParams (fitted : Byte) : ParamsBody := ⟨fitted, 64#16, BitVec.ofInt 16 (-512), 0#8, 0#8, 0#8, 10#16, 10#16⟩

theorem lowParams_ok (n : Nat) : paramFieldOk (lowParams 1#8) n ∧ paramFieldOk (lowParams 0#8) n := by
  unfold paramFieldOk
  constructor <;> split <;> decide

/-- WriteHeadParamsIsAppliedOrStaged: no custody, head 4, gain 63 as the first offence, and the accepted writes. -/
theorem witness_WriteHeadParamsIsAppliedOrStaged :
    (Ready .gauge (part .armed lifted) ∧ (part .armed lifted).custody ≠ some .gauge) ∧
    (Ready .machine (part .armed lifted) ∧ (part .armed lifted).custody = some .machine ∧ 4 ≤ (4#8).toNat) ∧
    (let p := { lowParams 1#8 with gain := 63#16 }
     ¬ paramFieldOk p 2 ∧ ∀ m, m < 2 → paramFieldOk p m) ∧
    ((3#8).toNat = HeadId.h3.num ∧ (0#8).toNat = HeadId.h0.num ∧ (∀ n, paramFieldOk (lowParams 1#8) n) ∧
      ∀ n, paramFieldOk (lowParams 0#8) n) ∧
    (part .armed lifted).headInUse .h0 = true ∧ (part .armed lifted).headInUse .h3 = false := by
  refine ⟨⟨ready_part _, ?_⟩, ⟨ready_part _, rfl, ?_⟩, ⟨?_, ?_⟩, ⟨rfl, rfl, fun n => (lowParams_ok n).1,
    fun n => (lowParams_ok n).2⟩, ?_, ?_⟩
  case refine_3 => simp [paramFieldOk]
  case refine_4 => intro m hm; interval_cases m <;> simp [paramFieldOk, lowParams]
  all_goals decide +kernel

/-- ActiveCalibrationIsFixed: a curve write to the current band's curve. -/
theorem witness_ActiveCalibrationIsFixed :
    let s := { part .armed lifted with pending := [Instr.writeCurve .machine 0#8 knots] }
    ∃ t, step s = .next t ∧ s.band = some desc ∧ t.engine.state.isCurrent = true ∧ t.engine.slot = s.engine.slot ∧
      s.curveInUse 0 = true ∧ s.headInUse .h0 = true := by
  refine ⟨_, rfl, ?_, ?_, ?_, ?_, ?_⟩ <;> decide +kernel

/-- A cutting part in position CUT with ring 0 in a CUTTING slot and ring 1 FILLING, head H0 cutting its cell 0 and cell 1
prepared. -/
def busyPart (q : List Instr) : State :=
  { cutPart .cut 1 with
    heads := ⟨{ engaged with drive := 622 }, lifted, lifted, lifted⟩
    cells := ⟨⟨40, some ⟨1, 1396, .cut⟩⟩, .reset, .reset, .reset⟩
    staging := stagingOf (.filling 1 [9#8] 9) (cuttingRing false) 1
    pending := q }

theorem busy_heads_ok (q : List Instr) : HeadsOk (busyPart q) :=
  heads_ok (u := { engaged with drive := 622 }) (by simp [HeadUnit.ok, engaged, HeadUnit.reset]) rfl rfl (by
    intro k p h
    cases k
    · obtain rfl : (⟨1, 1396, .cut⟩ : PreparedCell) = p := Option.some.inj h
      decide
    all_goals cases h)

theorem busy_staging_ok (q : List Instr) : StagingOk (busyPart q) := by
  refine ⟨nofun, fun d h => ?_⟩
  obtain rfl : desc = d := Option.some.inj h
  refine ⟨fun _ => rfl, fun h => ⟨fun hh => ?_, fun hh _ => ?_⟩⟩
  · cases h
    · exact absurd hh (by simp [desc, PerHead.get])
    all_goals rfl
  · cases h
    case h0 =>
      refine ⟨⟨⟨rfl, by decide, by decide, by decide⟩, ⟨rfl, by decide, rfl, by decide⟩, ?_, ?_⟩,
        fun _ => ⟨rfl, ?_⟩, fun _ _ => rfl⟩
      · intro a b ha hb
        obtain rfl : 1 = a := Option.some.inj ha
        obtain rfl : 0 = b := Option.some.inj hb
        exact .inr rfl
      · intro f hf
        obtain rfl : 1 = f := Option.some.inj hf
        exact ⟨Nat.zero_le 1, Nat.le_add_left 1 1⟩
      · rintro x (rfl | rfl) hx r f hr hf
        · cases hx
        · obtain rfl : 0 = r := Option.some.inj hr
          obtain rfl : 1 = f := Option.some.inj hf
          decide
    all_goals cases hh

/-- NothingIsHeldWithoutBand: the idle part, and a part with both slots of its head occupied that takes a segment. -/
theorem witness_NothingIsHeldWithoutBand :
    (NothingHeld { part .idle lifted with pending := [Instr.armBand .machine 0#8 0#8] } ∧
      ∃ t, step { part .idle lifted with pending := [Instr.armBand .machine 0#8 0#8] } = .next t) ∧
    let s := busyPart [.ringSegment .prepress 0#8 1#16 1#16 [3#8]]
    StagingOk s ∧ RecordsOk s ∧ DescriptorsFit s ∧ ∃ t, step s = .next t := by
  refine ⟨⟨fun _ => ⟨rfl, ?_, ?_⟩, _, rfl⟩, ?_, records_ok_part _ rfl rfl rfl,
    descriptors_fit (e := .cutting) (u := engaged) rfl, _, rfl⟩
  · decide +kernel
  · intro h; cases h <;> rfl
  · exact busy_staging_ok _
/-- HeadPortEvents: an unchanged level, a head out of use, the head of the band landing, a LIFTED head of a band in
ENDING touched, an amplifier's level off in FAULTED, and no timeout running. -/
theorem witness_HeadPortEvents :
    let s := part .preparing lowering
    let f := part .idle { faulted with ampFault := true }
    ((s.heads.get .h0).landed = false ∧ s.inMasterReset = false ∧
      ¬ ((s.heads.get .h0).state = .engaged ∧ true = false)) ∧
    (s.headInUse .h3 = false ∧ Supervised s ∧ (s.heads.get .h3).landed ≠ true) ∧
    (let e := part .ending lifted
     e.engine.state = .ending ∧ e.headInUse .h0 = true ∧ (e.heads.get .h0).landed ≠ true ∧
      (e.heads.get .h0).state = .lifted) ∧
    (f.inMasterReset = false ∧ Supervised f ∧ (f.heads.get .h0).ampFault ≠ false ∧
      (f.heads.get .h0).state = .faulted) ∧
    (f.heads.get .h0).timeout = none := by
  refine ⟨?_, ⟨rfl, ⟨rfl, nofun⟩, ?_⟩, ?_, ⟨rfl, ⟨rfl, fun _ => ⟨rfl, rfl⟩⟩, ?_, rfl⟩, rfl⟩ <;> decide +kernel

/-- HeadFaultsAreLatchedAndReported: the four causes, in use and out of use; a stall at its threshold; and a band in ENDING
whose other heads are at rest. -/
theorem witness_HeadFaultsAreLatchedAndReported :
    (Faults (part .preparing lowering) .h0 (.lowerTimeoutExpiry .h0) .landTimeout ∧
      HeadsOk (part .preparing lowering)) ∧
    (Faults (part .held lifting) .h0 (.liftTimeoutExpiry .h0) .liftTimeout ∧ HeadsOk (part .held lifting) ∧
      (part .held lifting).engine.state.abortable = true) ∧
    (Faults (cutPart .cut 1) .h0 (.landedSenseChange .h0 false) .lostContact ∧
      (cutPart .cut 1).band = some desc ∧ (cutPart .cut 1).headInUse .h0 = true) ∧
    (Faults (stalled 200000) .h0 (.landedSenseChange .h0 false) .lostContact ∧ HeadsOk (stalled 200000) ∧
      (stalled 200000).sup.active = true ∧ (stalled 200000).sup.limit * 1000 ≤ (stalled 200000).sup.stall) ∧
    (let s := part .ending lifting { record with outcome := some .stopped }
     Faults s .h0 (.liftTimeoutExpiry .h0) .liftTimeout ∧ s.engine.state = .ending ∧ s.headInUse .h0 = true ∧
      s.jobs[(0 : Fin 64)].record.outcome = some .stopped ∧
      ∀ k, k ≠ .h0 → s.headInUse k = true → (s.heads.get k).state.atRest = true) ∧
    Faults (part .armed lifted) .h0 (.ampFaultChange .h0 true) .ampFault ∧
      (part .armed lifted).inMasterReset = false ∧ (part .armed lifted).headInUse .h3 = false := by
  refine ⟨⟨⟨rfl, rfl, 10000, rfl⟩, heads_ok_part lowering_ok⟩, ⟨⟨rfl, rfl, 10000, rfl⟩, heads_ok_part lifting_ok, rfl⟩,
    ⟨⟨rfl, rfl, rfl, rfl⟩, rfl, rfl⟩, ⟨⟨rfl, rfl, rfl, rfl⟩, (stalled_ok _).2.1, rfl, by decide⟩,
    ⟨⟨rfl, rfl, 10000, rfl⟩, rfl, rfl, rfl, ?_⟩, ⟨rfl, rfl, rfl, nofun, nofun⟩, rfl, rfl⟩
  intro k hk hh; cases k <;> first | exact absurd rfl hk | cases hh

/-- ClearHeadFaultClears: head 4, a head that is not FAULTED, an amplifier fault that is ON, and a fault that clears. -/
theorem witness_ClearHeadFaultClears :
    let s := part .idle faulted
    let a := part .idle { faulted with ampFault := true }
    (Ready .machine s ∧ 4 ≤ (4#8).toNat) ∧ ((3#8).toNat = HeadId.h3.num ∧ (s.heads.get .h3).state ≠ .faulted) ∧
    (Ready .machine a ∧ (a.heads.get .h0).state = .faulted ∧ (a.heads.get .h0).ampFault = true) ∧
    (s.heads.get .h0).ampFault = false ∧ Supervised s ∧ (s.headInUse .h0 = true → s.engine.state ≠ .ending) := by
  refine ⟨⟨ready_part _, ?_⟩, ?_, ⟨ready_part _, ?_⟩, rfl, ⟨rfl, fun _ => ⟨rfl, rfl⟩⟩, nofun⟩ <;> decide +kernel

/-- SetStylusCountSets: no custody, head 4, and heads H0 in use and H3 not. -/
theorem witness_SetStylusCountSets :
    (Ready .gauge (part .armed lifted) ∧ (part .armed lifted).custody ≠ some .gauge) ∧
    (Ready .machine (part .armed lifted) ∧ (part .armed lifted).custody = some .machine ∧ 4 ≤ (4#8).toNat) ∧
    (part .armed lifted).headInUse .h0 = true ∧ (part .armed lifted).headInUse .h3 = false := by
  refine ⟨⟨ready_part _, ?_⟩, ⟨ready_part _, ?_⟩, ?_⟩ <;> decide +kernel

/-- HeadsStayConsistent: a cutting band with a drive output and a prepared cell that loses contact. -/
theorem witness_HeadsStayConsistent :
    let s := busyPart [.landedSenseChange .h0 false]
    HeadsOk s ∧ GridOk s ∧ RecordsOk s ∧ DriveOk s ∧ DescriptorsFit s ∧ ∃ t, step s = .next t := by
  refine ⟨busy_heads_ok _, ⟨by decide, by decide, ?_, nofun, fun h => absurd rfl h⟩, records_ok_part _ rfl rfl rfl,
    ⟨fun _ _ d h => ?_, fun h => ⟨fun hd => ?_, fun p hp => ?_⟩⟩, descriptors_fit (e := .cutting) (u := engaged) rfl, _, rfl⟩
  · intro d h
    obtain rfl : desc = d := Option.some.inj h
    decide
  · obtain rfl : desc = d := Option.some.inj h
    decide
  · cases h
    · exact ⟨rfl, rfl, desc, rfl, rfl, nofun, by decide, by decide⟩
    all_goals exact absurd hd (by decide)
  · cases h
    · obtain rfl : (⟨1, 1396, .cut⟩ : PreparedCell) = p := Option.some.inj hp
      exact ⟨rfl, rfl, desc, rfl, rfl, rfl, by decide⟩
    all_goals cases hp

/-- StylusCountNeverFalls: the count at its last value, and a boundary. -/
theorem witness_StylusCountNeverFalls :
    let s := { cutPart .cut 0 with heads := ⟨{ engaged with stylus := 4294967295 }, lifted, lifted, lifted⟩ }
    ∃ t, exec (.stepEvent .forward 0) s = .next t ∧ s.inMasterReset = false ∧ t.inMasterReset = false ∧
      (s.heads.get .h0).stylus ≤ 4294967295 := by
  refine ⟨_, rfl, ?_, ?_, ?_⟩ <;> decide +kernel

/-- Every field of `written` passes the scan for slot 20. -/
theorem written_ok (n : Nat) : descriptorFieldOk 20#8 written n := by
  by_cases h : n < 24
  · interval_cases n <;> simp [descriptorFieldOk, curveFieldOk, inSet, patchSum, written]
  · obtain ⟨m, rfl⟩ : ∃ m, n = m + 22 := ⟨n - 22, by omega⟩
    have : 1 ≤ m / 2 := by omega
    simp [descriptorFieldOk, written, show m / 2 ≠ 0 by omega]

/-- DescriptorsAreWrittenAndCleared: no custody, slot 64, Nr = 0 as the first offence, a slot in use and one free. -/
theorem witness_DescriptorsAreWrittenAndCleared :
    let s := part .armed lifted
    written.patches.length = written.patchCount.toNat ∧ (Ready .gauge s ∧ s.custody ≠ some .gauge) ∧
    (Ready .machine s ∧ s.custody = some .machine ∧ 64 ≤ (64#8).toNat) ∧
    (¬ descriptorFieldOk 20#8 { written with nr := 0#16 } 7 ∧
      ∀ m, m < 7 → descriptorFieldOk 20#8 { written with nr := 0#16 } m) ∧
    (∀ n, descriptorFieldOk 20#8 written n) ∧ (20#8).toNat = (20 : Fin 64).val ∧ (63#8).toNat = (63 : Fin 64).val ∧
    s.slotInUse 0 = true ∧ s.slotInUse 20 = false := by
  refine ⟨rfl, ⟨ready_part _, ?_⟩, ⟨ready_part _, ?_⟩, ⟨?_, ?_⟩, written_ok, ?_⟩
  case refine_3 => simp [descriptorFieldOk]
  case refine_4 => intro m hm; interval_cases m <;> simp [descriptorFieldOk, written]
  all_goals decide +kernel

/-- A part armed for the third ring of its band, with commands waiting. -/
def armedPart (q : List Instr) : State :=
  { part .armed lifted { record with nextRing := 2, ringsCut := 2 } with pending := q }

theorem records_ok_armed (q : List Instr) : RecordsOk (armedPart q) := by
  refine ⟨fun _ => ⟨0, rfl, rfl⟩, fun i => ?_⟩
  by_cases hi : i.val = 0
  · have : i = 0 := Fin.ext hi
    subst this
    refine ⟨iff_of_true rfl rfl, iff_of_false nofun nofun, Nat.le_refl 2, ?_, by rintro (h | h) <;> cases h⟩
    intro d h
    have h : desc = d := Option.some.inj h
    subst h
    exact ⟨by show 2 ≤ 3; decide, iff_of_false (by show (2 : Nat) ≠ 3; decide) (by rintro (h | ⟨-, h⟩) <;> cases h)⟩
  · have hj : (armedPart q).jobs[i] = JobSlot.empty := by
      simp only [armedPart, part, State.reset, Fin.getElem_fin]
      rw [Vector.getElem_set_ne (by omega) (by omega) (by simpa using fun h => hi h.symm), Vector.getElem_replicate]
    have h0 : (armedPart q).slotInUse i = false := by
      have : (0 : Fin 64) ≠ i := fun h => hi (by rw [← h]; rfl)
      simpa [State.slotInUse, armedPart, part, EngineState.isCurrent] using this
    rw [hj, h0]
    exact ⟨iff_of_false nofun nofun, iff_of_false nofun nofun, le_rfl, nofun, fun _ => rfl⟩

theorem takes_rings {s : State} (h : s.engine.state = .armed ∨ s.engine.state = .cutting)
    (hs : s.engine.slot = some 0) (hd : s.jobs[(0 : Fin 64)].desc = some desc) : TakesRings .h0 desc s :=
  ⟨by rcases h with h | h <;> simp [h], ⟨0, hs, hd⟩, nofun, rfl⟩

theorem takes_no_rings (d : Descriptor) : ¬ TakesRings .h0 d (part .idle lifted) := by
  rintro ⟨h | h | h | h, -⟩ <;> cases h

/-- RingSegmentIsStored: the cases of Table 6-2, at their boundary values. -/
theorem witness_RingSegmentIsStored :
    let s := { part .armed lifted with staging := stagingOf (.filling 2 [9#8] 9) .empty 2 }
    let u := { part .armed lifted with staging := stagingOf readyRing readyRing 2 }
    let v := { part .armed lifted with staging := stagingOf readyRing .empty 2 }
    (Ready .prepress s ∧ Ready .prepress u ∧ Ready .prepress v ∧ 4 ≤ (4#8).toNat ∧ (0#8).toNat = HeadId.h0.num) ∧
    ((∀ d, ¬ TakesRings .h0 d (part .idle lifted)) ∧ TakesRings .h0 desc s ∧ TakesRings .h0 desc u ∧
      TakesRings .h0 desc v) ∧
    (desc.nr ≤ (3#16).toNat ∧ (2#16).toNat < desc.nr ∧ (s.staging.heads.get .h0).nf ≠ some (1#16).toNat ∧
      (s.staging.heads.get .h0).nf = some (2#16).toNat) ∧
    (tonesReceived (s.staging.heads.get .h0) = some 1 ∧ desc.cut < 1 + [1#8, 2#8].length ∧
      1 + [1#8].length ≤ desc.cut) ∧
    (tonesReceived (u.staging.heads.get .h0) = none ∧ (u.staging.heads.get .h0).slotA ≠ .empty ∧
      (u.staging.heads.get .h0).slotB ≠ .empty) ∧
    tonesReceived (v.staging.heads.get .h0) = none ∧ (v.staging.heads.get .h0).slotB = .empty ∧
      desc.cut < [1#8, 2#8, 3#8].length ∧ [1#8, 2#8].length ≤ desc.cut := by
  refine ⟨⟨⟨rfl, rfl, rfl⟩, ⟨rfl, rfl, rfl⟩, ⟨rfl, rfl, rfl⟩, ?_⟩, ⟨takes_no_rings, takes_rings (.inl rfl) rfl rfl,
    takes_rings (.inl rfl) rfl rfl, takes_rings (.inl rfl) rfl rfl⟩, ?_⟩ <;> decide +kernel

/-- RingCloseMakesReady: the cases of Table 6-3. -/
theorem witness_RingCloseMakesReady :
    let s := { part .armed lifted with staging := stagingOf (.filling 2 [9#8] 9) .empty 2 }
    let u := { part .armed lifted with staging := stagingOf readyRing (.filling 2 [9#8, 0#8] 9) 2 }
    (Ready .prepress s ∧ Ready .prepress u ∧ 4 ≤ (4#8).toNat ∧ (0#8).toNat = HeadId.h0.num ∧ 2 ≤ (2#8).toNat ∧
      (1#8).toNat < 2) ∧
    ((∀ d, ¬ TakesRings .h0 d (part .idle lifted)) ∧ TakesRings .h0 desc s ∧ TakesRings .h0 desc u) ∧
    (desc.nr ≤ (3#16).toNat ∧ (2#16).toNat < desc.nr) ∧
    ((s.staging.heads.get .h0).slotB = .empty ∧ (s.staging.heads.get .h0).slotA = .filling 2 [9#8] 9 ∧
      [9#8].length ≠ desc.cut) ∧
    ((u.staging.heads.get .h0).slotA = readyRing ∧ (u.staging.heads.get .h0).slotB = .filling 2 [9#8, 0#8] 9 ∧
      [9#8, 0#8].length = desc.cut ∧ (8#16).toNat ≠ 9 ∧ (9#16).toNat = 9) ∧
    tonesReceived ({ part .armed lifted with staging := stagingOf readyRing .empty 2 }.staging.heads.get .h0) =
      none := by
  refine ⟨⟨⟨rfl, rfl, rfl⟩, ⟨rfl, rfl, rfl⟩, ?_⟩, ⟨takes_no_rings, takes_rings (.inl rfl) rfl rfl,
    takes_rings (.inl rfl) rfl rfl⟩, ?_⟩ <;> decide +kernel

/-- DiscardRingsEmptiesTheHead: head 4, no band, and a head with a CUTTING slot. -/
theorem witness_DiscardRingsEmptiesTheHead :
    let s := { cutPart .cut 1 with staging := stagingOf (cuttingRing false) readyRing 1 }
    (Ready .prepress (part .idle lifted) ∧ 4 ≤ (4#8).toNat ∧ (∀ d, ¬ TakesRings .h0 d (part .idle lifted))) ∧
    Ready .prepress s ∧ (0#8).toNat = HeadId.h0.num ∧ TakesRings .h0 desc s ∧ s.engine.slot = some 0 :=
  ⟨⟨ready_part _, by decide, takes_no_rings⟩, ⟨rfl, rfl, rfl⟩, rfl, takes_rings (.inr rfl) rfl rfl, rfl⟩

/-- RequestsOutOfState: every engine state, on a link that is Ready and holds custody. -/
theorem witness_RequestsOutOfState (e : EngineState) :
    (∀ l, Ready l (part e lifted)) ∧ (part e lifted).engine.state = e ∧ (part e lifted).custody = some .machine :=
  ⟨fun l => ready_part l, rfl, rfl⟩

/-- ArmBandArms: the checks of R126 at their boundary values, and an arming. -/
theorem witness_ArmBandArms :
    let s := part .idle lifted
    (Ready .machine s ∧ s.custody = some .machine ∧ s.engine.state = .idle ∧ 64 ≤ (64#8).toNat ∧
      { s with custody := none }.custody ≠ some .machine) ∧
    ((63#8).toNat = (63 : Fin 64).val ∧ 2 ≤ (2#8).toNat ∧ (1#8).toNat < 2 ∧ s.jobs[(63 : Fin 64)].desc = none) ∧
    ((0#8).toNat = (0 : Fin 64).val ∧ s.jobs[(0 : Fin 64)].desc = some desc ∧
      { s.engine with mounted := none }.mounted ≠ some desc.cylinder ∧ s.engine.mounted = some desc.cylinder) ∧
    HeadsFitAndLifted desc s ∧ ¬ HeadsFitAndLifted desc (part .idle faulted) ∧ CurvesSet desc s ∧
    ¬ CurvesSet desc { s with store := Store.reset } ∧
    (part .idle lifted { record with phase := .complete }).jobs[(0 : Fin 64)].record.phase = .complete ∧
    s.jobs[(0 : Fin 64)].record.phase ≠ .complete ∧ Supervised s := by
  refine ⟨⟨ready_part _, rfl, rfl, by decide, nofun⟩, ⟨by decide, by decide, by decide, by decide +kernel⟩,
    ⟨by decide, rfl, nofun, rfl⟩, ?_, ?_, ?_, ?_, rfl, ?_, supervised_lifted.2⟩
  · intro h _; cases h <;> exact ⟨rfl, rfl⟩
  · intro h; exact absurd (h .h0 rfl).2 (by decide)
  · intro h c _ hc; cases h <;> cases hc; decide +kernel
  · intro h; exact absurd (h .h0 0 rfl rfl) (by decide +kernel)
  · decide +kernel

/-- DisarmReturnsToIdle: an ARMED band. -/
theorem witness_DisarmReturnsToIdle :
    let s := part .armed lifted
    Ready .machine s ∧ s.engine.state = .armed ∧ s.engine.slot = some 0 ∧ Supervised s ∧ s.sup.active = false :=
  ⟨ready_part _, rfl, rfl, supervised_lifted.1, rfl⟩

/-- StartAndResumeEnterPreparing: ARMED and HELD, with the cut-abort line taken or not and a FAULTED head or none. -/
theorem witness_StartAndResumeEnterPreparing :
    let s := part .armed lifted
    let f := part .held faulted
    (Ready .machine s ∧ s.band = some desc ∧ s.engine.slot = some 0 ∧ s.engine.state = .armed ∧
      s.cutAbortTaken = false ∧ ∀ h, desc.heads.get h = true → (s.heads.get h).state ≠ .faulted) ∧
    (Ready .machine f ∧ f.engine.state = .held ∧ f.cutAbortTaken = false ∧ HeadsOk f ∧
      desc.heads.get .h0 = true ∧ (f.heads.get .h0).state = .faulted ∧
      ∀ k : HeadId, k.num < HeadId.h0.num → desc.heads.get k = true → (f.heads.get k).state ≠ .faulted) ∧
    { s with sup := Supervisor.reset .taken .released }.cutAbortTaken = true := by
  refine ⟨⟨ready_part _, rfl, rfl, rfl, rfl, ?_⟩, ⟨ready_part _, rfl, rfl, heads_ok_part faulted_ok, rfl, rfl, ?_⟩,
    by decide⟩
  · intro h _; cases h <;> decide
  · intro k hk; cases k <;> exact absurd hk (by decide)

/-- PauseBandHoldsAtASeam: PREPARING, a pause that is SET, position CUT, and the seam with no request outstanding. -/
theorem witness_PauseBandHoldsAtASeam :
    (Ready .machine (part .preparing lowering) ∧ (part .preparing lowering).engine.state = .preparing) ∧
    (Ready .machine (cutPart .cut 1) ∧ (cutPart .cut 1).engine.state = .cutting ∧
      (cutPart .cut 1).engine.pause = false ∧ (cutPart .cut 1).engine.revPos = some .cut) ∧
    (Ready .machine (cutPart .seam 3) ∧ (cutPart .seam 3).engine.pause = false ∧
      (cutPart .seam 3).engine.revPos ≠ some .cut ∧ (cutPart .seam 3).engine.target = none ∧
      HeadsOk (cutPart .seam 3)) :=
  ⟨⟨ready_part _, rfl⟩, ⟨ready_cut _, rfl, rfl, rfl⟩, ready_cut _, rfl, nofun, rfl, heads_ok_cut⟩

/-- StopRequestsEndTheBand: position CUT and the seam. -/
theorem witness_StopRequestsEndTheBand :
    (Ready .gauge (cutPart .cut 1) ∧ Ready .machine (cutPart .cut 1) ∧ (cutPart .cut 1).band = some desc ∧
      (cutPart .cut 1).engine.slot = some 0 ∧ (cutPart .cut 1).engine.state.abortable = true ∧
      HeadsOk (cutPart .cut 1) ∧ Supervised (cutPart .cut 1)) ∧
    Ready .machine (cutPart .seam 3) ∧
      ¬ ((cutPart .seam 3).engine.state = .cutting ∧ (cutPart .seam 3).engine.revPos = some .cut) :=
  ⟨⟨ready_cut _, ready_cut _, rfl, rfl, rfl, heads_ok_cut, supervised_cut⟩, ready_cut _, nofun⟩

/-- A COMPLETE band in ENDING whose head H0 still lifts, with slot 1 as given for the chain. -/
def endingPart (j : JobSlot) : State :=
  let s := part .ending lifting { record with outcome := some .complete, nextRing := 3, ringsCut := 3 }
  { s with jobs := s.jobs.set 1 j }

/-- EndingEndsAtRest: a chain into a slot that qualifies, one that does not, and an end without a chain; head H0 lifting,
and FAULTED and cleared with its sense on and off; and a second head of the set that still lifts. -/
theorem witness_EndingEndsAtRest :
    let s := endingPart ⟨some desc, StatusRecord.fresh desc.heads⟩
    let x := s.withHeads (s.heads.set .h0 { s.heads.get .h0 with state := .lifted })
    let f := part .ending faulted { record with outcome := some .stopped }
    (s.inMasterReset = false ∧ s.engine.state = .ending ∧ s.band = some desc ∧ s.engine.slot = some 0 ∧
      s.jobs[(0 : Fin 64)].record.outcome = some .complete ∧ desc.heads.get .h0 = true ∧
      (s.heads.get .h0).state = .lifting ∧ (s.heads.get .h0).landed = true ∧
      (s.heads.get .h0).lowerRequest = false ∧ Faults s .h0 (.liftTimeoutExpiry .h0) .liftTimeout ∧
      ∀ k, k ≠ .h0 → desc.heads.get k = true → (s.heads.get k).state.atRest = true) ∧
    (desc.nextSlot = some 1 ∧ x.jobs[(1 : Fin 64)].desc = some desc ∧
      x.jobs[(1 : Fin 64)].record.phase = .neverRun ∧ x.engine.mounted = some desc.cylinder ∧
      HeadsFitAndLifted desc (x.withStore (promoted x.store)) ∧ CurvesSet desc (x.withStore (promoted x.store))) ∧
    (endingPart JobSlot.empty).jobs[(1 : Fin 64)].desc = none ∧
    (f.jobs[(0 : Fin 64)].record.outcome = some .stopped ∧ Ready .machine f ∧ (0#8).toNat = HeadId.h0.num ∧
      (f.heads.get .h0).state = .faulted ∧ (f.heads.get .h0).ampFault = false ∧ (f.heads.get .h0).landed = false ∧
      { faulted with landed := true }.landed = true) ∧
    ({ desc with heads := ⟨true, true, false, false⟩ }.heads.get .h1 = true ∧ lifting.state.atRest = false) := by
  refine ⟨⟨rfl, rfl, ?_, rfl, ?_, rfl, rfl, rfl, rfl, ⟨rfl, rfl, 10000, rfl⟩, ?_⟩, ⟨rfl, ?_, ?_, rfl, ?_, ?_⟩, ?_,
    ⟨rfl, ready_part _, rfl, rfl, rfl, rfl, rfl⟩, rfl, rfl⟩
  case refine_3 => intro k hk hh; cases k <;> first | exact absurd rfl hk | cases hh
  case refine_6 => intro h _; cases h <;> exact ⟨rfl, rfl⟩
  case refine_7 => intro h c _ hc; cases h <;> cases hc; decide +kernel
  all_goals decide +kernel

/-- CarriageArrivalIsJudged: no target, and differences of 3 and 4 with the tolerance 3. -/
theorem witness_CarriageArrivalIsJudged :
    let s := cutPart .seam 3
    let t := { s with engine := { s.engine with target := some 1200 } }
    (s.inMasterReset = false ∧ Supervised s ∧ s.engine.target = none) ∧
    (Supervised t ∧ t.engine.target = some 1200 ∧ t.band = some desc ∧ t.engine.slot = some 0 ∧
      absDiff 1197 1200 ≤ desc.posTol) ∧
    desc.posTol < absDiff 1204 1200 ∧ t.engine.state.abortable = true ∧ HeadsOk t :=
  ⟨⟨rfl, supervised_cut, rfl⟩, ⟨⟨rfl, nofun⟩, rfl, rfl, rfl, by decide⟩, by decide, rfl,
    heads_ok engaged_ok rfl rfl (by intro k p h; cases k <;> cases h)⟩

/-- SetStallLimitClampsAndCompares: the limit in force, an INACTIVE supervision, and the counter 1 µs under and at the
new fault threshold of 5 ms. -/
theorem witness_SetStallLimitClampsAndCompares :
    (Ready .machine (part .idle lifted) ∧ Supervised (part .idle lifted) ∧
      (part .idle lifted).sup.active = false ∧ (200#16).toNat = (part .idle lifted).sup.limit) ∧
    (Ready .machine (stalled 4999) ∧ Supervised (stalled 4999) ∧ (stalled 4999).sup.active = true ∧
      (5#16).toNat ≠ (stalled 4999).sup.limit ∧ (stalled 4999).sup.stall < 5 * 1000) ∧
    (5 * 1000 ≤ (stalled 5000).sup.stall ∧ HeadsOk (stalled 5000) ∧ (stalled 5000).band = some desc ∧
      (stalled 5000).engine.slot = some 0 ∧ (stalled 5000).engine.state.abortable = true) :=
  ⟨⟨ready_part _, supervised_lifted.2, rfl, rfl⟩, ⟨(stalled_ok _).2.2, (stalled_ok _).1, rfl, by decide, by decide⟩,
    by decide, (stalled_ok _).2.1, rfl, rfl, rfl⟩

/-- StallThresholds: an ARMED warning below its threshold, an INACTIVE supervision, and a cutting band. -/
theorem witness_StallThresholds :
    ((stalled 99999).inMasterReset = false ∧ Supervised (stalled 99999) ∧ 5 ≤ (stalled 99999).sup.limit ∧
      (stalled 99999).sup.limit ≤ 2000 ∧ (stalled 99999).sup.active = true ∧
      (stalled 99999).sup.warnArmed = true ∧
      (stalled 99999).sup.stall ≤ (stalled 99999).sup.limit / 2 * 1000) ∧
    (Supervised (part .idle lifted) ∧ (part .idle lifted).sup.active = false) ∧
    HeadsOk (stalled 199999) ∧ (stalled 199999).band = some desc ∧ (stalled 199999).engine.slot = some 0 ∧
      (stalled 199999).engine.state.abortable = true :=
  ⟨⟨rfl, (stalled_ok _).1, by decide, by decide, rfl, rfl, by decide⟩, ⟨supervised_lifted.2, rfl⟩, (stalled_ok _).2.1,
    rfl, rfl, rfl⟩

/-- ReverseRotationAborts: a cutting band. -/
theorem witness_ReverseRotationAborts :
    let s := cutPart .cut 1
    s.inMasterReset = false ∧ s.sup.active = true ∧ s.band = some desc ∧ s.engine.slot = some 0 ∧
      s.engine.state.abortable = true ∧ HeadsOk s :=
  ⟨rfl, rfl, rfl, rfl, rfl, heads_ok_cut⟩

/-- CutAbortResetActs: a cutting band, an ARMED one and an idle engine. -/
theorem witness_CutAbortResetActs :
    let q (s : State) : State := { s with sup := { s.sup with cutAbort := .qualifying 0 } }
    ((q (cutPart .cut 1)).inMasterReset = false ∧ (q (cutPart .cut 1)).sup.cutAbort = .qualifying 0 ∧
      HeadsOk (q (cutPart .cut 1)) ∧ Supervised (q (cutPart .cut 1)) ∧ (q (cutPart .cut 1)).band = some desc ∧
      (q (cutPart .cut 1)).engine.state.abortable = true) ∧
    (HeadsOk (q (part .armed lifted)) ∧ Supervised (q (part .armed lifted)) ∧
      (q (part .armed lifted)).engine.state = .armed ∧ (q (part .armed lifted)).engine.slot = some 0) ∧
    (q (part .idle lifted)).engine.state ≠ .armed ∧ (q (part .idle lifted)).engine.state.abortable = false :=
  ⟨⟨rfl, rfl, heads_ok engaged_ok rfl rfl (by intro k p h; cases k <;> cases h), ⟨rfl, nofun⟩, rfl, rfl⟩,
    ⟨heads_ok lifted_ok rfl rfl (by intro k p h; cases k <;> cases h), ⟨rfl, fun _ => ⟨rfl, rfl⟩⟩, rfl, rfl⟩, nofun, rfl⟩

/-- MasterResetValues: the part in master reset. -/
theorem witness_MasterResetValues :
    { State.reset with sup := Supervisor.reset .released .taken }.inMasterReset = true ∧
      State.reset.inMasterReset = false ∧ (∀ t, State.reset.sup.cutAbort ≠ .qualifying t) ∧
      { State.reset with sup := Supervisor.reset .released (.qualifying 7) }.sup.masterReset = .qualifying 7 :=
  ⟨by decide, by decide, nofun, rfl⟩

/-- CustodyRequests: NONE, the requester and another link as the holder; targets 3, the requester, a DOWN link and an UP
one. -/
theorem witness_CustodyRequests :
    (Ready .gauge (part .idle lifted) ∧ Ready .machine (part .idle lifted) ∧
      (part .idle lifted).custody = some .machine ∧ LinkId.machine ≠ .gauge) ∧
    (Ready .gauge { part .idle lifted with custody := none } ∧
      { part .idle lifted with custody := none }.custody = none) ∧
    (3 ≤ (3#8).toNat ∧ (2#8).toNat = LinkId.gauge.num ∧ ((part .idle lifted).links.get .gauge).up = true) ∧
    Ready .machine { part .idle lifted with links := ⟨upUnit, upUnit, LinkUnit.reset⟩ } ∧
      ({ part .idle lifted with links := ⟨upUnit, upUnit, LinkUnit.reset⟩ }.links.get .gauge).up = false :=
  ⟨⟨ready_part _, ready_part _, rfl, nofun⟩, ⟨⟨rfl, rfl, rfl⟩, rfl⟩, ⟨by decide, rfl, rfl⟩, ⟨rfl, rfl, rfl⟩, rfl⟩

/-- CustodyHolderIsUp: the holder loses its link. -/
theorem witness_CustodyHolderIsUp :
    let s := { part .idle lifted with pending := [Instr.linkSignalLoss .machine] }
    CustodyUp s ∧ LinksOk s ∧ ∃ t, step s = .next t := by
  refine ⟨?_, ?_, _, rfl⟩
  · intro l _; cases l <;> rfl
  · intro l
    cases l <;> exact ⟨nofun, fun _ => ⟨rfl, rfl⟩, ⟨nofun, by rintro (h | ⟨f, h⟩) <;> cases h⟩, nofun, .nil, by decide⟩

/-- FramesCarryRequests: a request without fields and the longest patch list, each with one byte more; and
MOUNT_CYLINDER of no cylinder, which ends after its form. -/
theorem witness_FramesCarryRequests :
    (Instr.asFrame (.disarm .machine) = some (.machine, .disarm, []) ∧ (Instr.disarm .machine).wellFormed = true ∧
      fieldsEnd (.disarm .machine) 0 = 0) ∧
    (∃ body, Instr.asFrame (.writeDescriptor .gauge 20#8 written) = some (.gauge, .writeDescriptor, body)) ∧
    (Instr.writeDescriptor .gauge 20#8 written).wellFormed = true ∧
    (let c := Instr.writeDescriptor .gauge 20#8 written
     fieldsEnd c (fieldSizes c).length = 34 + 3 * written.patches.length ∧
      fieldsEnd c (fieldSizes c).length + [(0#8 : Byte)].length ≤ 1100) ∧
    let m := Instr.mountCylinder .machine 0#8 0#32 0#8
    m.wellFormed = true ∧ fieldsEnd m (fieldSizes m).length = 1 :=
  ⟨⟨rfl, rfl, rfl⟩, ⟨_, rfl⟩, by decide, by decide, rfl, rfl⟩

/-- FramesRefused: a byte outside a frame, the body lengths 1,100 and 1,101, a whole frame, a wrong check, a DOWN link, a
reply pending, a kind byte past the last, requests that their links may not send, one in the wrong state and one without
custody. -/
theorem witness_FramesRefused :
    ((0xFF#8 : Byte) ≠ 0xA5#8 ∧ 1100 < (0x04#8).toNat * 256 + (0x4D#8).toNat ∧
      (0x04#8).toNat * 256 + (0x4C#8).toNat ≤ 1100 ∧ ([] : List Byte).length = (0#8).toNat * 256 + (0#8).toNat) ∧
    ((part .idle lifted).inMasterReset = false ∧ (0#16 : BitVec 16) ≠ frameCheck 0x03#8 []) ∧
    ((State.reset.links.get .gauge).up = false ∧
      ({ upUnit with replyPending := true } : LinkUnit).up = true) ∧
    Ready .gauge (part .idle lifted) ∧ ([] : List Byte).length ≤ 1100 ∧ 32 < (0x21#8).toNat ∧
      (0x03#8 : Byte) = kindByte .disarm ∧ MayNotSend .gauge .disarm ∧ MayNotSend .machine .ringClose ∧
      beforeFields .mountCylinder .machine (part .armed lifted) = some 7#8 ∧
      beforeFields .writeCurve .gauge (part .idle lifted) = some 4#8 := by
  refine ⟨⟨by decide, by decide, by decide, rfl⟩, ⟨rfl, ?_⟩, ?_, ready_part _, by decide, by decide, ?_,
    .inl ⟨nofun, ?_⟩, .inr ⟨nofun, ?_⟩, ?_, ?_⟩ <;> decide +kernel

/-- FramesRefused, bodies that end early: RING_CLOSE in the second byte of its check with a head number in range and with
one out of it, WRITE_DESCRIPTOR before its slot and in the length of its first patch. -/
theorem witness_FramesRefused_early_end :
    let s := part .idle lifted
    let c (head : Byte) := Instr.ringClose .prepress head 1#16 2#16 0#8
    let w := Instr.writeDescriptor .machine 20#8 written
    (Ready .prepress s ∧ ¬ MayNotSend .prepress .ringClose ∧ beforeFields .ringClose .prepress s = none ∧
      (c 0#8).wellFormed = true ∧ 2 < (fieldSizes (c 0#8)).length ∧ fieldsEnd (c 0#8) 2 ≤ 4 ∧
      4 < fieldsEnd (c 0#8) 3 ∧ (∀ n, n < 2 → FieldPasses (c 0#8) n) ∧ ¬ FieldPasses (c 4#8) 0) ∧
    (Ready .machine s ∧ ¬ MayNotSend .machine .writeDescriptor ∧ beforeFields .writeDescriptor .machine s = none ∧
      w.wellFormed = true ∧ fieldsEnd w 0 ≤ 0 ∧ 0 < fieldsEnd w 1 ∧ 23 < (fieldSizes w).length ∧
      fieldsEnd w 23 ≤ 36 ∧ 36 < fieldsEnd w 24) := by
  refine ⟨⟨ready_part _, ?_, rfl, rfl, by decide, by decide, by decide, fun _ _ _ => by decide,
    fun h => absurd (h rfl) (by decide)⟩, ready_part _, ?_, rfl, ?_, by decide, by decide, by decide, by decide,
    by decide⟩
  · rintro (⟨-, h⟩ | ⟨h, -⟩)
    · exact absurd h (by decide)
    · exact h rfl
  · rintro (⟨-, h⟩ | ⟨-, h⟩) <;> exact absurd h (by decide)
  · decide

/-- ReadsCarryTheState: the first and the last number of each range, and the first past it. -/
theorem witness_ReadsCarryTheState :
    Ready .gauge (part .idle lifted) ∧ 64 ≤ (64#8).toNat ∧ (63#8).toNat = (63 : Fin 64).val ∧ 16 ≤ (16#8).toNat ∧
      (15#8).toNat = (15 : Fin 16).val ∧ 4 ≤ (4#8).toNat ∧ (3#8).toNat = HeadId.h3.num := by
  exact ⟨ready_part _, by decide⟩

/-- EventsAndMasks: bit 14, bit 15 and the largest mask. -/
theorem witness_EventsAndMasks :
    Ready .gauge (part .idle lifted) ∧ (0x4000#16).getLsbD 14 = true ∧ (0x8000#16).getLsbD 15 = true ∧
      (0x3FFF#16).getLsbD 14 = false ∧ (0x3FFF#16).getLsbD 15 = false := by
  exact ⟨ready_part _, by decide⟩

/-- NotesAreRelayed: target 3, 0 and 65 bytes, 1 and 64 bytes, a DOWN target, a queue of 4 and one of 3. -/
theorem witness_NotesAreRelayed :
    let n : Note := ⟨.gauge, [1#8]⟩
    let s := { part .idle lifted with
      links := ⟨upUnit, { upUnit with relay := [n, n, n, n] }, { upUnit with relay := [n, n, n] }⟩ }
    (Ready .machine s ∧ 3 ≤ (3#8).toNat ∧ (1#8).toNat = LinkId.prepress.num ∧ (2#8).toNat = LinkId.gauge.num) ∧
    (64 < (List.replicate 65 (0#8 : Byte)).length ∧ (List.replicate 64 (0#8 : Byte)).length ≤ 64 ∧
      1 ≤ [0#8].length) ∧
    ((s.links.get .prepress).up = true ∧ 4 ≤ (s.links.get .prepress).relay.length ∧
      (s.links.get .gauge).relay.length < 4) ∧
    ((State.reset.links.get .gauge).up = false ∧ (s.links.get .machine).relay = [] ∧
      (s.links.get .gauge).relay = n :: [n, n]) ∧ Ready .gauge s := by
  refine ⟨⟨⟨rfl, rfl, rfl⟩, by decide, rfl, rfl⟩, ?_, ?_, ⟨rfl, rfl, rfl⟩, rfl, rfl, rfl⟩ <;> decide

/-- PostsAndTransmissions: a DOWN link, a pending kind and a new one; an idle transmitter and one that sends a notice. -/
theorem witness_PostsAndTransmissions :
    let u := { upUnit with events := 0x0010#14, sending := some (.notice .clip) }
    LinkUnit.reset.up = false ∧ (u.up = true ∧ u.events.has .clip = true ∧ u.events.has .linkError = false) ∧
    (part .idle lifted).inMasterReset = false ∧ ((part .idle lifted).links.get .gauge).up = true ∧
      ((part .idle lifted).links.get .gauge).sending = none ∧ u.sending = some (.notice .clip) := by
  decide +kernel

/-- LinkLossAndReturn: a DOWN link, a link other than the machine's, and the machine link in position CUT and in the
seam. -/
theorem witness_LinkLossAndReturn :
    (State.reset.inMasterReset = false ∧ (State.reset.links.get .gauge).up = false) ∧
    (((part .idle lifted).links.get .gauge).up = true ∧ Supervised (part .idle lifted) ∧
      (part .idle lifted).engine.state.abortable = false) ∧
    (((cutPart .cut 1).links.get .machine).up = true ∧ Supervised (cutPart .cut 1) ∧
      (cutPart .cut 1).engine.state = .cutting ∧ (cutPart .cut 1).engine.revPos = some .cut) ∧
    (cutPart .seam 3).engine.state.abortable = true ∧
      ¬ ((cutPart .seam 3).engine.state = .cutting ∧ (cutPart .seam 3).engine.revPos = some .cut) ∧
      (cutPart .seam 3).band = some desc ∧ (cutPart .seam 3).engine.slot = some 0 ∧ HeadsOk (cutPart .seam 3) :=
  ⟨⟨rfl, rfl⟩, ⟨rfl, supervised_lifted.2, rfl⟩, ⟨rfl, supervised_cut, rfl, rfl⟩, rfl, nofun, rfl, rfl, heads_ok_cut⟩

/-- RecordsAgreeWithTheEngine: an ARMED band that is disarmed. -/
theorem witness_RecordsAgreeWithTheEngine :
    let s := armedPart [.disarm .machine]
    RecordsOk s ∧ DescriptorsFit s ∧ ∃ t, step s = .next t :=
  ⟨records_ok_armed _, descriptors_fit (e := .armed) (u := lifted) rfl, _, rfl⟩

/-- FirstCauseStands: a head fault in ENDING while the head still lifts elsewhere. -/
theorem witness_FirstCauseStands :
    let s := endingPart JobSlot.empty
    ∃ t, exec (.ampFaultChange .h3 true) s = .next t ∧ s.engine.state = .ending ∧ t.engine.state = .ending ∧
      s.engine.slot = some 0 ∧ t.engine.slot = some 0 := by
  refine ⟨_, rfl, rfl, ?_, rfl, ?_⟩ <;> decide +kernel

/-- MountAndAcknowledge: separations 15 and 16, forms 0, 1 and 2, in IDLE; and ENDED with and without custody. -/
theorem witness_MountAndAcknowledge :
    (Ready .machine (part .idle lifted) ∧ (part .idle lifted).engine.state = .idle ∧ (15#8).toNat ≤ 15 ∧
      ¬ (16#8).toNat ≤ 15) ∧
    Ready .machine (part .ended lifted) ∧ (part .ended lifted).engine.state = .ended ∧
      (part .ended lifted).custody = some .machine :=
  ⟨⟨ready_part _, rfl, by decide, by decide⟩, ready_part _, rfl, rfl⟩

/-- SupervisionFollowsTheHeads: a cutting band that loses contact. -/
theorem witness_SupervisionFollowsTheHeads :
    let s := { cutPart .cut 1 with pending := [Instr.landedSenseChange .h0 false] }
    Supervised s ∧ ∃ t, step s = .next t := ⟨⟨rfl, nofun⟩, _, rfl⟩

/-- ResetLinesAndFilters: outside master reset with both filters at rest, QUALIFYING, and in master reset. -/
theorem witness_ResetLinesAndFilters :
    State.reset.inMasterReset = false ∧ (∀ t, State.reset.sup.cutAbort ≠ .qualifying t) ∧
      (∀ t, State.reset.sup.masterReset ≠ .qualifying t) ∧
      { State.reset with sup := Supervisor.reset .released (.qualifying 7) }.sup.masterReset = .qualifying 7 ∧
      { State.reset with sup := Supervisor.reset .released .taken }.inMasterReset = true ∧
      State.reset.pins.masterReset = false :=
  ⟨by decide, nofun, nofun, rfl, by decide, rfl⟩

/-- LinkUnitsStayConsistent: a link that loses its signal with every part of its unit in use. -/
theorem witness_LinkUnitsStayConsistent :
    let u : LinkUnit :=
      { up := true, replyPending := true, events := 3#14, mask := 3#14, notices := [EventKind.bandHeld]
        relay := [⟨.machine, [1#8]⟩], waitingReply := some ⟨0x83#8, [0#8]⟩, sending := some (.notice .clip) }
    let s := { part .idle lifted with links := ⟨upUnit, u, upUnit⟩, pending := [Instr.linkSignalLoss .prepress] }
    LinksOk s ∧ ∃ t, step s = .next t := by
  refine ⟨?_, _, rfl⟩
  intro l
  cases l
  · exact ⟨nofun, fun _ => ⟨rfl, rfl⟩, ⟨nofun, by rintro (h | ⟨f, h⟩) <;> cases h⟩, nofun, .nil, by decide⟩
  · exact ⟨nofun, nofun, ⟨fun _ => .inl rfl, fun _ => rfl⟩, nofun, by decide, by decide⟩
  · exact ⟨nofun, fun _ => ⟨rfl, rfl⟩, ⟨nofun, by rintro (h | ⟨f, h⟩) <;> cases h⟩, nofun, .nil, by decide⟩

end Sys2Proof.Tests
end

section
/-! SUPPORT. What the position line's own events alone set: the position count, the reference, the period and the index
timing. Every other operation of the engine, the head controllers, the cut-abort reset and the requests leaves these
four alone, whatever it does to the grid's state, accumulator and boundary count. -/

namespace Sys2Proof.Machine

/-- The part of the grid that only the position line, the index timing and master reset change (R2, R3, R14, R15, R17):
position count, reference, last period, index timing. -/
def Grid.line (g : Grid) : Nat × Reference × Option Nat × Option Nat :=
  (g.position, g.reference, g.lastPeriod, g.indexTime)

theorem Grid.position_of_line {g g' : Grid} (h : g.line = g'.line) : g.position = g'.position := congrArg Prod.fst h

/-- The grid's state, accumulator and boundary count are not the position line's. -/
@[simp] theorem Grid.line_set (g : Grid) (st : GridState) (acc boundaries : Nat) :
    { g with state := st, acc := acc, boundaries := boundaries }.line = g.line := rfl

/-! ### The engine -/

@[simp] theorem stopGrid_line (s : State) : (stopGrid s).grid.line = s.grid.line := rfl

@[simp] theorem awaitIndex_line (s : State) : (awaitIndex s).grid.line = s.grid.line := rfl

@[simp] theorem toEnding_line (o : BandOutcome) (c : Option EndCause) (h : Option HeadId) (s : State) :
    (toEnding o c h s).grid.line = s.grid.line := by
  simp [toEnding]

@[simp] theorem stopBand_line (c : StopCause) (s : State) : (stopBand c s).grid.line = s.grid.line := by
  simp [stopBand]

@[simp] theorem abort_line (c : EndCause) (h : Option HeadId) (s : State) :
    (abort c h s).grid.line = s.grid.line := by
  unfold abort
  split
  · by_cases hr : s.engine.revPos = some .cut <;> simp [hr]
  · rfl

@[simp] theorem motionFault_line (c : EndCause) (s : State) : (motionFault c s).grid.line = s.grid.line := by
  simp [motionFault]

@[simp] theorem checkStall_line (s : State) : (checkStall s).grid.line = s.grid.line := by
  unfold checkStall
  split <;> simp

@[simp] theorem enterPreparing_line (chained : Bool) (s : State) :
    (enterPreparing chained s).grid.line = s.grid.line := by
  unfold enterPreparing
  dsimp only
  repeat' split
  all_goals simp

@[simp] theorem chain_line (m : Fin 64) (s : State) : (chain m s).grid.line = s.grid.line := by
  unfold chain
  dsimp only
  split <;> simp

@[simp] theorem leaveEnding_line (s : State) : (leaveEnding s).grid.line = s.grid.line := by
  unfold leaveEnding
  repeat' split
  all_goals simp

@[simp] theorem reportFault_line (h : HeadId) (c : HeadCause) (s : State) :
    (reportFault h c s).grid.line = s.grid.line := by
  unfold reportFault
  repeat' split
  all_goals simp

@[simp] theorem faultHead_line (h : HeadId) (c : HeadCause) (s : State) :
    (faultHead h c s).grid.line = s.grid.line := by
  simp [faultHead]

@[simp] theorem headMoved_line (h : HeadId) (s : State) : (headMoved h s).grid.line = s.grid.line := by
  unfold headMoved
  repeat' split
  all_goals simp

@[simp] theorem boundaryL_line (d : Descriptor) (s : State) : (boundaryL d s).grid.line = s.grid.line := by
  by_cases hk : d.kind = .testCut <;> unfold boundaryL <;> dsimp only <;> repeat' split
  all_goals simp_all

@[simp] theorem boundary_line (b : Nat) (s : State) : (boundary b s).grid.line = s.grid.line := by
  unfold boundary
  repeat' split
  all_goals simp

@[simp] theorem cuttingIndex_line (c : IndexClass) (d : Descriptor) (s : State) :
    (cuttingIndex c d s).grid.line = s.grid.line := by
  unfold cuttingIndex
  dsimp only
  repeat' split
  all_goals simp

@[simp] theorem preparingIndex_line (d : Descriptor) (s : State) : (preparingIndex d s).grid.line = s.grid.line := by
  unfold preparingIndex
  dsimp only
  repeat' split
  all_goals simp

@[simp] theorem heldIndex_line (s : State) : (heldIndex s).grid.line = s.grid.line := by
  unfold heldIndex
  dsimp only
  split <;> simp

@[simp] theorem engineIndex_line (c : IndexClass) (s : State) : (engineIndex c s).grid.line = s.grid.line := by
  unfold engineIndex
  repeat' split
  all_goals simp

@[simp] theorem stopAtSeamWith_line (c : StopCause) (s : State) : (stopAtSeamWith c s).grid.line = s.grid.line := by
  unfold stopAtSeamWith
  split <;> simp

/-! ### The ports, the supervisor and the cut-abort reset -/

@[simp] theorem carriageArrival_line (p : Nat) (s : State) : (carriageArrival p s).grid.line = s.grid.line := by
  unfold carriageArrival
  repeat' split
  all_goals simp

@[simp] theorem senseOn_line (h : HeadId) (s : State) : (senseOn h s).grid.line = s.grid.line := by
  unfold senseOn
  split <;> simp

@[simp] theorem senseOff_line (h : HeadId) (s : State) : (senseOff h s).grid.line = s.grid.line := by
  unfold senseOff
  split <;> simp

@[simp] theorem landedSenseChange_line (h : HeadId) (on : Bool) (s : State) :
    (landedSenseChange h on s).grid.line = s.grid.line := by
  unfold landedSenseChange
  dsimp only
  repeat' split
  all_goals simp

@[simp] theorem ampOn_line (h : HeadId) (s : State) : (ampOn h s).grid.line = s.grid.line := by
  unfold ampOn
  split <;> simp

@[simp] theorem ampFaultChange_line (h : HeadId) (on : Bool) (s : State) :
    (ampFaultChange h on s).grid.line = s.grid.line := by
  unfold ampFaultChange
  dsimp only
  repeat' split
  all_goals simp

@[simp] theorem lowerTimeoutExpiry_line (h : HeadId) (s : State) :
    (lowerTimeoutExpiry h s).grid.line = s.grid.line := by
  unfold lowerTimeoutExpiry
  split <;> simp

@[simp] theorem liftTimeoutExpiry_line (h : HeadId) (s : State) :
    (liftTimeoutExpiry h s).grid.line = s.grid.line := by
  unfold liftTimeoutExpiry
  split <;> simp

@[simp] theorem stallWarn_line (s : State) : (stallWarn s).grid.line = s.grid.line := by
  unfold stallWarn
  split <;> simp

@[simp] theorem motionStall_line (s : State) : (motionStall s).grid.line = s.grid.line := by
  unfold motionStall
  split <;> simp

@[simp] theorem cutAbortHeads_grid (s : State) : (cutAbortHeads s).grid = s.grid := rfl

@[simp] theorem cutAbortEngine_line (s : State) : (cutAbortEngine s).grid.line = s.grid.line := by
  unfold cutAbortEngine
  split <;> simp

@[simp] theorem cutAbortReset_line (s : State) : (cutAbortReset s).grid.line = s.grid.line := by
  simp [cutAbortReset]

@[simp] theorem cutAbortLineChange_grid (asserted : Bool) (s : State) :
    (cutAbortLineChange asserted s).grid = s.grid := by
  unfold cutAbortLineChange
  dsimp only
  split <;> simp

@[simp] theorem cutAbortQualified_line (s : State) : (cutAbortQualified s).grid.line = s.grid.line := by
  unfold cutAbortQualified
  split <;> simp

/-! ### The links' own events -/

@[simp] theorem linkError_grid (l : LinkId) (s : State) : (linkError l s).grid = s.grid := rfl

@[simp] theorem setSignal_grid (l : LinkId) (on : Bool) (s : State) : (setSignal l on s).grid = s.grid := rfl

@[simp] theorem releaseOnLoss_grid (l : LinkId) (s : State) : (releaseOnLoss l s).grid = s.grid := by
  unfold releaseOnLoss
  split <;> simp

@[simp] theorem machineLinkLost_line (s : State) : (machineLinkLost s).grid.line = s.grid.line := by
  unfold machineLinkLost
  split <;> simp

@[simp] theorem linkSignalLoss_line (l : LinkId) (s : State) : (linkSignalLoss l s).grid.line = s.grid.line := by
  unfold linkSignalLoss
  dsimp only
  repeat' split
  all_goals simp

@[simp] theorem linkUp_grid (l : LinkId) (s : State) : (linkUp l s).grid = s.grid := by
  unfold linkUp
  dsimp only
  split <;> simp

end Sys2Proof.Machine
end

section
/-! SUPPORT. The requests leave the position line's part of the grid alone: one lemma for each request's checks and
effect, and what they come to for a request taken from a link. -/

namespace Sys2Proof.Machine

/-- A request whose checks and effect leave the position line's part of the grid alone. -/
def KeepsLine (f : State → State × Answer) : Prop := ∀ s, (f s).1.grid.line = s.grid.line

@[simp] theorem refuse_state (r : Result) (s : State) : (refuse r s).1 = s := rfl

@[simp] theorem accept_state (s : State) : (accept s).1 = s := rfl

@[simp] theorem acceptMoving_state (s : State) : (acceptMoving s).1 = supervise s := rfl

@[simp] theorem withPosition_state (h : HeadId) (r : Result) (s : State) : (withPosition h r s).1 = s := rfl

@[simp] theorem modStaging_grid (h : HeadId) (f : HeadStaging → HeadStaging) (s : State) :
    (modStaging h f s).grid = s.grid := rfl

/-! ### Band control (Table 7-2, R70, R154) -/

theorem mountCylinder_keepsLine (form job separation : Option Nat) : KeepsLine (mountCylinder form job separation) := by
  intro s
  unfold mountCylinder
  repeat' split
  all_goals simp

theorem armChecked_keepsLine (i : Fin 64) (restart : Bool) : KeepsLine (armChecked i restart) := by
  intro s
  unfold armChecked
  repeat' split
  all_goals simp

theorem armBand_keepsLine (l : LinkId) (slot restart : Option Nat) : KeepsLine (armBand l slot restart) := by
  intro s
  unfold armBand
  repeat' split
  case h_3 i r _ _ => exact armChecked_keepsLine i r s
  all_goals simp

theorem disarm_keepsLine : KeepsLine disarm := by
  intro s
  unfold disarm
  split <;> simp

theorem startBand_keepsLine : KeepsLine startBand := by
  intro s
  unfold startBand
  repeat' split
  all_goals simp

theorem pauseBand_keepsLine : KeepsLine pauseBand := by
  intro s
  unfold pauseBand
  repeat' split
  all_goals simp

theorem resumeBand_keepsLine : KeepsLine resumeBand := by
  intro s
  unfold resumeBand
  repeat' split
  all_goals simp

theorem stopAtSeam_keepsLine : KeepsLine stopAtSeam := by
  intro s
  unfold stopAtSeam
  split <;> simp

theorem stopAtOnce_keepsLine : KeepsLine stopAtOnce := by
  intro s
  unfold stopAtOnce
  split <;> simp

theorem ackEnd_keepsLine : KeepsLine ackEnd := by
  intro s
  unfold ackEnd
  split <;> simp

theorem setStallLimit_keepsLine (ms : Option Nat) : KeepsLine (setStallLimit ms) := by
  intro s
  unfold setStallLimit
  dsimp only
  repeat' split
  all_goals simp

theorem clearHeadFault_keepsLine (head : Option Nat) : KeepsLine (clearHeadFault head) := by
  intro s
  unfold clearHeadFault
  repeat' split
  all_goals simp

/-! ### Custody (R165 to R168) -/

theorem claimCustody_keepsLine (l : LinkId) : KeepsLine (claimCustody l) := by
  intro s
  unfold claimCustody
  repeat' split
  all_goals simp

theorem releaseCustody_keepsLine (l : LinkId) : KeepsLine (releaseCustody l) := by
  intro s
  unfold releaseCustody
  split <;> simp

theorem passCustody_keepsLine (l : LinkId) (target : Option Nat) : KeepsLine (passCustody l target) := by
  intro s
  unfold passCustody
  repeat' split
  all_goals simp

theorem seizeCustody_keepsLine : KeepsLine seizeCustody := by
  intro s
  unfold seizeCustody
  split <;> simp

/-! ### The job table and the calibration store (R45 to R50, R71, R82 to R85) -/

theorem writeDescriptor_keepsLine (l : LinkId) (slot : Option Nat) (d : RawDescriptor) :
    KeepsLine (writeDescriptor l slot d) := by
  intro s
  unfold writeDescriptor
  repeat' split
  all_goals simp

theorem clearDescriptor_keepsLine (l : LinkId) (slot : Option Nat) : KeepsLine (clearDescriptor l slot) := by
  intro s
  unfold clearDescriptor
  repeat' split
  all_goals simp

theorem writeCurve_keepsLine (l : LinkId) (curve : Option Nat) (k : Vector (Option Nat) 17) :
    KeepsLine (writeCurve l curve k) := by
  intro s
  unfold writeCurve
  repeat' split
  all_goals simp

@[simp] theorem applyFitting_grid (h : HeadId) (before after : HeadParams) (s : State) :
    (applyFitting h before after s).grid = s.grid := by
  unfold applyFitting
  dsimp only
  repeat' split
  all_goals simp

@[simp] theorem storeParams_grid (h : HeadId) (p : HeadParams) (s : State) : (storeParams h p s).grid = s.grid := by
  unfold storeParams
  dsimp only
  split <;> simp

theorem writeHeadParams_keepsLine (l : LinkId) (head : Option Nat) (p : RawParams) :
    KeepsLine (writeHeadParams l head p) := by
  intro s
  unfold writeHeadParams
  repeat' split
  all_goals simp

theorem setStylusCount_keepsLine (l : LinkId) (head count : Option Nat) : KeepsLine (setStylusCount l head count) := by
  intro s
  unfold setStylusCount
  repeat' split
  all_goals simp

/-! ### Reads, events, masks and relays (R55, R56, R97, R98, R179 to R183) -/

theorem readDescriptor_keepsLine (slot : Option Nat) : KeepsLine (readDescriptor slot) := by
  intro s
  unfold readDescriptor
  split <;> rfl

theorem readBandStatus_keepsLine (slot : Option Nat) : KeepsLine (readBandStatus slot) := by
  intro s
  unfold readBandStatus
  split <;> rfl

theorem readCurve_keepsLine (curve : Option Nat) : KeepsLine (readCurve curve) := by
  intro s
  unfold readCurve
  split <;> rfl

theorem readHead_keepsLine (head : Option Nat) : KeepsLine (readHead head) := by
  intro s
  unfold readHead
  split <;> rfl

theorem readEngine_keepsLine : KeepsLine readEngine := fun _ => rfl

theorem readEvents_keepsLine (l : LinkId) : KeepsLine (readEvents l) := fun _ => rfl

theorem setNoticeMask_keepsLine (l : LinkId) (mask : Option Nat) : KeepsLine (setNoticeMask l mask) := by
  intro s
  unfold setNoticeMask
  repeat' split
  all_goals rfl

theorem relayNote_keepsLine (l : LinkId) (target : Option Nat) (bytes : List Byte) :
    KeepsLine (relayNote l target bytes) := by
  intro s
  unfold relayNote
  repeat' split
  all_goals rfl

theorem fetchRelay_keepsLine (l : LinkId) : KeepsLine (fetchRelay l) := by
  intro s
  unfold fetchRelay
  dsimp only
  repeat' split
  all_goals simp

/-! ### Ring data (R104 to R109, R115) -/

theorem segmentFor_keepsLine (h : HeadId) (ring offset : Option Nat) (tones : List Byte) :
    KeepsLine (segmentFor h ring offset tones) := by
  intro s
  unfold segmentFor
  repeat' split
  all_goals simp

theorem ringSegment_keepsLine (head ring offset : Option Nat) (tones : List Byte) :
    KeepsLine (ringSegment head ring offset tones) := by
  intro s
  unfold ringSegment
  split
  · rfl
  · exact segmentFor_keepsLine _ ring offset tones s

theorem closeFor_keepsLine (h : HeadId) (ring check mark : Option Nat) : KeepsLine (closeFor h ring check mark) := by
  intro s
  unfold closeFor
  repeat' split
  all_goals simp

theorem ringClose_keepsLine (head ring check mark : Option Nat) : KeepsLine (ringClose head ring check mark) := by
  intro s
  unfold ringClose
  split
  · rfl
  · exact closeFor_keepsLine _ ring check mark s

theorem discardRings_keepsLine (head : Option Nat) : KeepsLine (discardRings head) := by
  intro s
  unfold discardRings
  repeat' split
  all_goals simp

/-! ### A request taken from a link (R177) -/

/-- Every request kind's owning block leaves the position line's part of the grid alone. -/
theorem handler_keepsLine (l : LinkId) (k : ReqKind) (b : List Byte) : KeepsLine (handler l k b) := by
  cases k with
  | mountCylinder => exact mountCylinder_keepsLine _ _ _
  | armBand => exact armBand_keepsLine _ _ _
  | disarm => exact disarm_keepsLine
  | startBand => exact startBand_keepsLine
  | pauseBand => exact pauseBand_keepsLine
  | resumeBand => exact resumeBand_keepsLine
  | stopAtSeam => exact stopAtSeam_keepsLine
  | stopAtOnce => exact stopAtOnce_keepsLine
  | ackEnd => exact ackEnd_keepsLine
  | setStallLimit => exact setStallLimit_keepsLine _
  | clearHeadFault => exact clearHeadFault_keepsLine _
  | claimCustody => exact claimCustody_keepsLine _
  | releaseCustody => exact releaseCustody_keepsLine _
  | passCustody => exact passCustody_keepsLine _ _
  | seizeCustody => exact seizeCustody_keepsLine
  | writeDescriptor => exact writeDescriptor_keepsLine _ _ _
  | clearDescriptor => exact clearDescriptor_keepsLine _ _
  | writeCurve => exact writeCurve_keepsLine _ _ _
  | writeHeadParams => exact writeHeadParams_keepsLine _ _ _
  | setStylusCount => exact setStylusCount_keepsLine _ _ _
  | readDescriptor => exact readDescriptor_keepsLine _
  | readBandStatus => exact readBandStatus_keepsLine _
  | readCurve => exact readCurve_keepsLine _
  | readHead => exact readHead_keepsLine _
  | readEngine => exact readEngine_keepsLine
  | readEvents => exact readEvents_keepsLine _
  | setNoticeMask => exact setNoticeMask_keepsLine _ _
  | relayNote => exact relayNote_keepsLine _ _ _
  | fetchRelay => exact fetchRelay_keepsLine _
  | ringSegment => exact ringSegment_keepsLine _ _ _ _
  | ringClose => exact ringClose_keepsLine _ _ _ _
  | discardRings => exact discardRings_keepsLine _

theorem takeRequest_line (l : LinkId) {f : State → State} (hf : ∀ x, (f x).grid.line = x.grid.line) (s : State) :
    (takeRequest l f s).grid.line = s.grid.line := by
  unfold takeRequest
  repeat' split
  all_goals simp [hf]

theorem answer_line (l : LinkId) (k : ReqKind) {f : State → State × Answer} (hf : KeepsLine f) (s : State) :
    (answer l k f s).grid.line = s.grid.line := by
  unfold answer
  dsimp only [reply, State.modLink_grid]
  split
  · exact hf s
  · rfl

theorem serve_line (l : LinkId) (k : ReqKind) {f : State → State × Answer} (hf : KeepsLine f) (s : State) :
    (serve l k f s).grid.line = s.grid.line :=
  takeRequest_line l (answer_line l k hf) s

theorem route_line (l : LinkId) (kind : Byte) (body : List Byte) (s : State) :
    (route l kind body s).grid.line = s.grid.line := by
  unfold route
  split
  · rfl
  · exact answer_line l _ (handler_keepsLine l _ body) s

@[simp] theorem frameReceived_line (l : LinkId) (kind : Byte) (body : List Byte) (check : BitVec 16) (s : State) :
    (frameReceived l kind body check s).grid.line = s.grid.line := by
  unfold frameReceived
  split
  · rfl
  · exact takeRequest_line l (route_line l kind body) s

end Sys2Proof.Machine
end

section
/-! PROOFS. R2: the position count after a step, an index and every other command. -/

namespace Sys2Proof.Machine

/-! ### Steps and indexes -/

@[simp] theorem stepStall_grid (s : State) : (stepStall s).grid = s.grid := rfl

/-- Everything a grid step can do: it moves the accumulator, and it may count a boundary and bring it (R9, R11). -/
theorem gridStep_cases (d : Descriptor) (s : State) : ∃ acc,
    gridStep d s = s.modGrid (fun g => { g with acc := acc }) ∨
      gridStep d s = boundary s.grid.boundaries
        ((s.modGrid fun g => { g with acc := acc }).modGrid fun g => { g with boundaries := g.boundaries + 1 }) := by
  unfold gridStep
  dsimp only
  repeat' split
  · exact ⟨_, .inl rfl⟩
  · exact ⟨_, .inr rfl⟩
  · exact ⟨_, .inl rfl⟩

@[simp] theorem gridStep_line (d : Descriptor) (s : State) : (gridStep d s).grid.line = s.grid.line := by
  obtain ⟨acc, h | h⟩ := gridStep_cases d s <;> simp [h]

@[simp] theorem forwardStep_line (s : State) : (forwardStep s).grid.line = s.grid.line := by
  unfold forwardStep
  split <;> simp

/-- A step moves the position count by its direction, and nothing that follows from it moves the count again. -/
theorem stepEvent_position (dir : Direction) (a : Nat) (s : State) :
    (stepEvent dir a s).grid.position = movePosition dir s.grid.position := by
  have moved : (stepStall ((passTimeTo a s).modGrid fun g =>
      { g with position := movePosition dir g.position })).grid.position = movePosition dir s.grid.position := rfl
  rw [← moved]
  apply Grid.position_of_line
  cases dir with
  | forward => exact forwardStep_line _
  | reverse =>
    unfold stepEvent
    dsimp only
    split <;> simp

/-- An index sets the position count to 0, and the engine's part of the index leaves it there. -/
theorem indexEvent_position (a : Nat) (s : State) : (indexEvent a s).grid.position = 0 := by
  unfold indexEvent
  dsimp only
  rw [Grid.position_of_line (engineIndex_line _ _)]
  split <;> rfl

/-! ### Every command -/

theorem outsideReset_cases (f : State → State) (s : State) : outsideReset f s = s ∨ outsideReset f s = f s := by
  unfold outsideReset
  split
  · exact .inl rfl
  · exact .inr rfl

theorem outsideReset_of_not_reset {s : State} (h : s.inMasterReset = false) (f : State → State) :
    outsideReset f s = f s := by
  simp [outsideReset, h]

/-- What can become of the position count from `s` to `t`: it stays, a step moves it, or it is 0 (R2, R17). -/
def PositionMoves (s t : State) : Prop :=
  t.grid.position = s.grid.position ∨ (∃ dir, t.grid.position = movePosition dir s.grid.position) ∨
    t.grid.position = 0

theorem PositionMoves.of_line {s t : State} (h : t.grid.line = s.grid.line) : PositionMoves s t :=
  .inl (Grid.position_of_line h)

theorem PositionMoves.outsideReset {s : State} {f : State → State} (h : PositionMoves s (f s)) :
    PositionMoves s (outsideReset f s) := by
  rcases outsideReset_cases f s with e | e
  · exact .inl (by rw [e])
  · exact e ▸ h

theorem movePosition_lt (dir : Direction) (p : Nat) : movePosition dir p < 1048576 := by
  cases dir <;> exact Nat.mod_lt _ (by decide)

/-- A position count below P stays below P. -/
theorem PositionMoves.lt {s t : State} (h : PositionMoves s t) (hs : s.grid.position < 1048576) :
    t.grid.position < 1048576 := by
  rcases h with h | ⟨dir, h⟩ | h
  · exact h ▸ hs
  · exact h ▸ movePosition_lt dir _
  · omega

theorem indexTimingExpiry_position (s : State) : (indexTimingExpiry s).grid.position = s.grid.position := by
  unfold indexTimingExpiry
  split <;> simp

theorem masterResetLineChange_moves (asserted : Bool) (s : State) :
    PositionMoves s (masterResetLineChange asserted s) := by
  unfold masterResetLineChange
  dsimp only
  repeat' split
  · exact .inl rfl
  · exact .inr (.inr rfl)
  · exact .inl rfl

theorem masterResetQualified_moves (s : State) : PositionMoves s (masterResetQualified s) := by
  unfold masterResetQualified
  split
  · exact .inr (.inr rfl)
  · exact .inl rfl
  · exact .inl rfl

theorem powerOn_position (s : State) : (powerOn s).grid.position = 0 := by
  unfold powerOn
  split <;> rfl

/-- Every command answers a next state, in which the position count has stayed, moved by a step or become 0. -/
theorem exec_positionMoves (c : Instr) (s : State) : ∃ t, exec c s = .next t ∧ PositionMoves s t := by
  have line {x : State} (h : x.grid.line = s.grid.line) : PositionMoves s x := .of_line h
  have request (l : LinkId) (k : ReqKind) {f : State → State × Answer} (hf : KeepsLine f) :
      PositionMoves s (serve l k f s) := .of_line (serve_line l k hf s)
  cases c with
  | stepEvent dir a => exact ⟨_, rfl, .outsideReset (.inr (.inl ⟨dir, stepEvent_position dir a s⟩))⟩
  | indexEvent a => exact ⟨_, rfl, .outsideReset (.inr (.inr (indexEvent_position a s)))⟩
  | indexTimingExpiry => exact ⟨_, rfl, .outsideReset (.inl (indexTimingExpiry_position s))⟩
  | carriageArrival p => exact ⟨_, rfl, .outsideReset (line (carriageArrival_line p s))⟩
  | landedSenseChange h on => exact ⟨_, rfl, line (landedSenseChange_line h on s)⟩
  | ampFaultChange h on => exact ⟨_, rfl, line (ampFaultChange_line h on s)⟩
  | lowerTimeoutExpiry h => exact ⟨_, rfl, .outsideReset (line (lowerTimeoutExpiry_line h s))⟩
  | liftTimeoutExpiry h => exact ⟨_, rfl, .outsideReset (line (liftTimeoutExpiry_line h s))⟩
  | stallWarn => exact ⟨_, rfl, .outsideReset (line (stallWarn_line s))⟩
  | motionStall => exact ⟨_, rfl, .outsideReset (line (motionStall_line s))⟩
  | cutAbortLineChange asserted => exact ⟨_, rfl, line (congrArg _ (cutAbortLineChange_grid asserted s))⟩
  | cutAbortQualified => exact ⟨_, rfl, .outsideReset (line (cutAbortQualified_line s))⟩
  | masterResetLineChange asserted => exact ⟨_, rfl, masterResetLineChange_moves asserted s⟩
  | masterResetQualified => exact ⟨_, rfl, masterResetQualified_moves s⟩
  | powerOn => exact ⟨_, rfl, .inr (.inr (powerOn_position s))⟩
  | linkSignalLoss l => exact ⟨_, rfl, line (linkSignalLoss_line l s)⟩
  | linkUp l => exact ⟨_, rfl, line (congrArg _ (linkUp_grid l s))⟩
  | frameReceived l kind body check =>
    exact ⟨_, rfl, .outsideReset (line (frameReceived_line l kind body check s))⟩
  | frameSent l => exact ⟨_, rfl, .outsideReset (line rfl)⟩
  | bodyLengthImpossible l => exact ⟨_, rfl, .outsideReset (line rfl)⟩
  | mountCylinder l => exact ⟨_, rfl, request l _ (mountCylinder_keepsLine _ _ _)⟩
  | armBand l => exact ⟨_, rfl, request l _ (armBand_keepsLine _ _ _)⟩
  | disarm l => exact ⟨_, rfl, request l _ disarm_keepsLine⟩
  | startBand l => exact ⟨_, rfl, request l _ startBand_keepsLine⟩
  | pauseBand l => exact ⟨_, rfl, request l _ pauseBand_keepsLine⟩
  | resumeBand l => exact ⟨_, rfl, request l _ resumeBand_keepsLine⟩
  | stopAtSeam l => exact ⟨_, rfl, request l _ stopAtSeam_keepsLine⟩
  | stopAtOnce l => exact ⟨_, rfl, request l _ stopAtOnce_keepsLine⟩
  | ackEnd l => exact ⟨_, rfl, request l _ ackEnd_keepsLine⟩
  | setStallLimit l => exact ⟨_, rfl, request l _ (setStallLimit_keepsLine _)⟩
  | clearHeadFault l => exact ⟨_, rfl, request l _ (clearHeadFault_keepsLine _)⟩
  | claimCustody l => exact ⟨_, rfl, request l _ (claimCustody_keepsLine l)⟩
  | releaseCustody l => exact ⟨_, rfl, request l _ (releaseCustody_keepsLine l)⟩
  | passCustody l => exact ⟨_, rfl, request l _ (passCustody_keepsLine l _)⟩
  | seizeCustody l => exact ⟨_, rfl, request l _ seizeCustody_keepsLine⟩
  | writeDescriptor l => exact ⟨_, rfl, request l _ (writeDescriptor_keepsLine l _ _)⟩
  | clearDescriptor l => exact ⟨_, rfl, request l _ (clearDescriptor_keepsLine l _)⟩
  | writeCurve l => exact ⟨_, rfl, request l _ (writeCurve_keepsLine l _ _)⟩
  | writeHeadParams l => exact ⟨_, rfl, request l _ (writeHeadParams_keepsLine l _ _)⟩
  | setStylusCount l => exact ⟨_, rfl, request l _ (setStylusCount_keepsLine l _ _)⟩
  | readDescriptor l => exact ⟨_, rfl, request l _ (readDescriptor_keepsLine _)⟩
  | readBandStatus l => exact ⟨_, rfl, request l _ (readBandStatus_keepsLine _)⟩
  | readCurve l => exact ⟨_, rfl, request l _ (readCurve_keepsLine _)⟩
  | readHead l => exact ⟨_, rfl, request l _ (readHead_keepsLine _)⟩
  | readEngine l => exact ⟨_, rfl, request l _ readEngine_keepsLine⟩
  | readEvents l => exact ⟨_, rfl, request l _ (readEvents_keepsLine l)⟩
  | setNoticeMask l => exact ⟨_, rfl, request l _ (setNoticeMask_keepsLine l _)⟩
  | relayNote l => exact ⟨_, rfl, request l _ (relayNote_keepsLine l _ _)⟩
  | fetchRelay l => exact ⟨_, rfl, request l _ (fetchRelay_keepsLine l)⟩
  | ringSegment l => exact ⟨_, rfl, request l _ (ringSegment_keepsLine _ _ _ _)⟩
  | ringClose l => exact ⟨_, rfl, request l _ (ringClose_keepsLine _ _ _ _)⟩
  | discardRings l => exact ⟨_, rfl, request l _ (discardRings_keepsLine _)⟩

/-- Outside master reset a step event moves the position count by its direction. -/
theorem exec_stepEvent_position {s : State} (hs : s.inMasterReset = false) (dir : Direction) (a : Nat) :
    ∃ t, exec (.stepEvent dir a) s = .next t ∧ t.grid.position = movePosition dir s.grid.position := by
  refine ⟨_, rfl, ?_⟩
  rw [outsideReset_of_not_reset hs]
  exact stepEvent_position dir a s

/-- Outside master reset an index event sets the position count to 0. -/
theorem exec_indexEvent_position {s : State} (hs : s.inMasterReset = false) (a : Nat) :
    ∃ t, exec (.indexEvent a) s = .next t ∧ t.grid.position = 0 := by
  refine ⟨_, rfl, ?_⟩
  rw [outsideReset_of_not_reset hs]
  exact indexEvent_position a s

/-- A command takes a position count below P to one below P. -/
theorem exec_position_lt {c : Instr} {s t : State} (hs : s.grid.position < 1048576) (h : exec c s = .next t) :
    t.grid.position < 1048576 := by
  obtain ⟨u, hu, moves⟩ := exec_positionMoves c s
  have same : u = t := Host.Outcome.next.inj (hu.symm.trans h)
  exact same ▸ moves.lt hs

/-- Settles O5: a step moves the count and an index clears it before the engine acts, which leaves it alone; and after
every command the count is the count before it, a stepped count or 0. -/
theorem positionFollowsTheLine : Obligations.PositionFollowsTheLine := by
  unfold Obligations.PositionFollowsTheLine
  intro s a hs
  exact ⟨exec_stepEvent_position hs .forward a, exec_stepEvent_position hs .reverse a, exec_indexEvent_position hs a,
    fun hp c t h => exec_position_lt hp h⟩

end Sys2Proof.Machine
end

section
/-! PROOFS. The computation for one cell (R20 to R25), stage by stage: the interpolated depth, the raw drive code and the
clamp. -/

namespace Sys2Proof.Machine

/-! ### The interpolated depth (R21) -/

/-- Tone `16 i + f` interpolates from knot `i` at `f` sixteenths of the way. -/
theorem interpolate_at (k : Curve) (i f : Fin 16) :
    interpolate k (16 * i.val + f.val) = k[i.val] + ((k[i.val + 1] - k[i.val]) * f.val + 8) / 16 := by
  have quotient : (16 * i.val + f.val) / 16 = i.val := by omega
  have remainder : (16 * i.val + f.val) % 16 = f.val := by omega
  have inKnots : i.val + 1 < 17 := by omega
  simp only [interpolate, quotient, remainder, Vector.getElem?_eq_getElem inKnots,
    Vector.getElem?_eq_getElem (Nat.lt_of_succ_lt inKnots), Option.getD_some]

/-- The fraction added to a knot is at most the gap to the next knot. -/
theorem roundedFraction_le (gap f : Nat) (hf : f < 16) : (gap * f + 8) / 16 ≤ gap := by
  have : gap * f ≤ gap * 15 := Nat.mul_le_mul_left gap (Nat.le_of_lt_succ hf)
  omega

/-- Each knot of a curve within R40 is 600 or less. -/
theorem Curve.fits.knot_le {k : Curve} (hk : k.fits) {i : Nat} (hi : i < 17) : k[i] ≤ 600 := hk.1 ⟨i, hi⟩

/-- No knot of a curve within R40 lies below the knot before it. -/
theorem Curve.fits.knot_le_next {k : Curve} (hk : k.fits) (i : Fin 16) : k[i.val] ≤ k[i.val + 1] := hk.2 i

/-! ### The raw drive code (R24) -/

/-- The worn depth times the gain, rounded to drive codes, lies in 1 to 11,189: the corner products of R24. -/
theorem wornProduct_range {worn gain : Nat} (hworn : 1 ≤ worn ∧ worn ≤ 700) (hgain : 64 ≤ gain ∧ gain ≤ 1023) :
    1 ≤ (worn * gain + 32) / 64 ∧ (worn * gain + 32) / 64 ≤ 11189 := by
  have least : 1 * 64 ≤ worn * gain := Nat.mul_le_mul hworn.1 hgain.1
  have greatest : worn * gain ≤ 700 * 1023 := Nat.mul_le_mul hworn.2 hgain.2
  omega

/-- The raw code of a depth of 1 or more lies in −511 to 11,700. -/
theorem rawCode_range {p : HeadParams} (hp : p.fits) {wear depth : Nat} (hwear : wear ≤ 100) (hlow : 1 ≤ depth)
    (hhigh : depth ≤ 600) : -511 ≤ rawCode p wear depth ∧ rawCode p wear depth ≤ 11700 := by
  obtain ⟨gainLow, gainHigh, biasLow, biasHigh, -⟩ := hp
  have product := wornProduct_range (worn := depth + wear) ⟨by omega, by omega⟩ ⟨gainLow, gainHigh⟩
  unfold rawCode
  omega

/-! ### The clamp (R25) -/

/-- The model's clamp and the clamp of the statements test the same ranges in another order. -/
theorem clampCode_eq_clampedCode (a : Int) : clampCode a = clampedCode a := by
  unfold clampCode clampedCode Config.maxDrive
  rcases (by omega : 4096 ≤ a ∨ (1 ≤ a ∧ a < 4096) ∨ a < 1) with high | inside | low
  · rw [if_pos (by omega), if_pos high]
  · rw [if_neg (by omega), if_neg (by omega), if_neg (by omega), if_pos inside.1]
  · rw [if_neg (by omega), if_pos (by omega), if_neg (by omega), if_neg (by omega)]

/-- A clamped code lies in 0 to 4095. -/
theorem clampedCode_le (a : Int) : (clampedCode a).1 ≤ 4095 := by
  unfold clampedCode
  split_ifs with high inside
  · exact le_rfl
  · simp only
    omega
  · exact Nat.zero_le _

/-! ### The stages after the interpolation (R22, R24, R25) -/

/-- The highlight policy decides for a depth below Dmin; any other depth but 0 is worn, turned into a code and clamped. -/
theorem driveOfDepth_eq (p : HeadParams) (policy : Policy) (wear depth : Nat) :
    driveOfDepth p policy wear depth =
      if depth < p.dmin then
        (if policy = .drop then (0, .dropped) else clampedCode (rawCode p wear p.dmin))
      else if depth = 0 then (0, .noCell)
      else clampedCode (rawCode p wear depth) := by
  unfold driveOfDepth
  simp only [clampCode_eq_clampedCode]
  cases policy with
  | drop => rw [if_pos (rfl : Policy.drop = .drop)]
  | raise => rw [if_neg (nofun : Policy.raise ≠ .drop)]

theorem driveOfDepth_le (p : HeadParams) (policy : Policy) (wear depth : Nat) :
    (driveOfDepth p policy wear depth).1 ≤ 4095 := by
  rw [driveOfDepth_eq]
  split
  case isTrue =>
    split
    · exact Nat.zero_le _
    · exact clampedCode_le _
  case isFalse =>
    split
    · exact Nat.zero_le _
    · exact clampedCode_le _

/-! ### The cell (R20) -/

/-- Tone 0 ends the computation. -/
@[simp] theorem driveOfTone_zero (k : Curve) (p : HeadParams) (policy : Policy) (wear : Nat) :
    driveOfTone k p policy wear 0 = (0, .noCell) := rfl

/-- A tone above 0 goes on to the interpolated depth. -/
theorem driveOfTone_of_ne_zero (k : Curve) (p : HeadParams) (policy : Policy) (wear : Nat) {tone : Nat} (h : tone ≠ 0) :
    driveOfTone k p policy wear tone = driveOfDepth p policy wear (interpolate k tone) := if_neg h

/-- The drive code of every tone lies in 0 to 4095. -/
theorem driveOfTone_le (k : Curve) (p : HeadParams) (policy : Policy) (wear tone : Nat) :
    (driveOfTone k p policy wear tone).1 ≤ 4095 := by
  by_cases h : tone = 0
  · rw [h, driveOfTone_zero]
    exact Nat.zero_le _
  · rw [driveOfTone_of_ne_zero k p policy wear h]
    exact driveOfDepth_le p policy wear _

/-- Settles O11: the depth stays between its knots because the rounded fraction is at most their gap, the raw code's ends
are the corners of the product of worn depth and gain, and the drive code is the clamp's. -/
theorem cellComputation : Obligations.CellComputation := by
  unfold Obligations.CellComputation
  intro k p policy wear i f hk hp hwear tone depth code
  have rises : k[i.val] ≤ k[i.val + 1] := hk.knot_le_next i
  have top : k[i.val + 1] ≤ 600 := hk.knot_le (by omega)
  have fraction := roundedFraction_le (k[i.val + 1] - k[i.val]) f.val f.isLt
  have depth_le_next : depth ≤ k[i.val + 1] := by omega
  refine ⟨Nat.le_add_right _ _, depth_le_next, depth_le_next.trans top, ?atKnot,
    fun x low high => rawCode_range hp hwear low high, driveOfTone_le k p policy wear tone, ?toneZero, ?toneAbove⟩
  case atKnot =>
    intro hf
    simp [depth, hf]
  case toneZero =>
    intro h
    rw [h, driveOfTone_zero]
  case toneAbove =>
    intro h
    rw [driveOfTone_of_ne_zero k p policy wear h, interpolate_at, driveOfDepth_eq]
    rfl

end Sys2Proof.Machine
end

section
/-! SUPPORT. What a current band rests on: its slot, the calibration store and the job table's descriptors. One lemma
for each operation that leaves all three alone, and what the engine's other operations can do to them. -/

namespace Sys2Proof.Machine

/-- What a current band rests on: the engine's slot, the calibration store and the descriptor of every slot (R42,
R77). -/
def State.bandBasis (s : State) : Option (Fin 64) × Store × Vector (Option Descriptor) 64 :=
  (s.engine.slot, s.store, s.jobs.map JobSlot.desc)

theorem State.slot_of_bandBasis {s t : State} (h : t.bandBasis = s.bandBasis) : t.engine.slot = s.engine.slot :=
  congrArg Prod.fst h

theorem State.store_of_bandBasis {s t : State} (h : t.bandBasis = s.bandBasis) : t.store = s.store :=
  congrArg (fun b => b.2.1) h

theorem State.desc_of_bandBasis {s t : State} (h : t.bandBasis = s.bandBasis) (i : Fin 64) :
    t.jobs[i].desc = s.jobs[i].desc := by
  have descs : t.jobs.map JobSlot.desc = s.jobs.map JobSlot.desc := congrArg (fun b => b.2.2) h
  simpa using congrArg (fun v => v[i]) descs

/-- Operations that touch neither the engine, the store nor the job table leave the basis alone. -/
theorem State.bandBasis_of_eq {s t : State} (engine : t.engine = s.engine) (store : t.store = s.store)
    (jobs : t.jobs = s.jobs) : t.bandBasis = s.bandBasis := by
  simp only [State.bandBasis, engine, store, jobs]

/-! ### Updates and shared operations -/

@[simp] theorem State.modEngine_bandBasis {f : Engine → Engine} (h : ∀ g, (f g).slot = g.slot) (s : State) :
    (s.modEngine f).bandBasis = s.bandBasis := by
  simp [State.bandBasis, h]

@[simp] theorem State.modGrid_bandBasis (f : Grid → Grid) (s : State) : (s.modGrid f).bandBasis = s.bandBasis := rfl

@[simp] theorem State.modSup_bandBasis (f : Supervisor → Supervisor) (s : State) :
    (s.modSup f).bandBasis = s.bandBasis := rfl

@[simp] theorem State.modHead_bandBasis (h : HeadId) (f : HeadUnit → HeadUnit) (s : State) :
    (s.modHead h f).bandBasis = s.bandBasis := rfl

@[simp] theorem State.modLink_bandBasis (l : LinkId) (f : LinkUnit → LinkUnit) (s : State) :
    (s.modLink l f).bandBasis = s.bandBasis := rfl

@[simp] theorem State.withPins_bandBasis (x : Pins) (s : State) : (s.withPins x).bandBasis = s.bandBasis := rfl

/-- A change of one slot that keeps its descriptor keeps the basis. -/
theorem State.modJob_bandBasis (i : Fin 64) {f : JobSlot → JobSlot} (h : ∀ j, (f j).desc = j.desc) (s : State) :
    (s.modJob i f).bandBasis = s.bandBasis := by
  have descs : (s.modJob i f).jobs.map JobSlot.desc = s.jobs.map JobSlot.desc := by
    ext k hk : 1
    by_cases hik : i.val = k
    · subst hik
      simp [h]
    · simp [hik]
  simp only [State.bandBasis, descs, State.modJob_engine, State.modJob_store]

@[simp] theorem modRecord_bandBasis (f : StatusRecord → StatusRecord) (s : State) :
    (modRecord f s).bandBasis = s.bandBasis := by
  unfold modRecord
  split
  · exact State.modJob_bandBasis _ (fun _ => by rfl) s
  · rfl

@[simp] theorem postAll_bandBasis (e : EventKind) (s : State) : (postAll e s).bandBasis = s.bandBasis := rfl

@[simp] theorem passTime_bandBasis (dt : Nat) (s : State) : (passTime dt s).bandBasis = s.bandBasis := rfl

@[simp] theorem passTimeTo_bandBasis (t : Nat) (s : State) : (passTimeTo t s).bandBasis = s.bandBasis := rfl

@[simp] theorem lowerSet_bandBasis (s : State) : (lowerSet s).bandBasis = s.bandBasis := rfl

@[simp] theorem silenceSet_bandBasis (s : State) : (silenceSet s).bandBasis = s.bandBasis := rfl

@[simp] theorem emptyStaging_bandBasis (s : State) : (emptyStaging s).bandBasis = s.bandBasis := rfl

@[simp] theorem takeRing_bandBasis (d : Descriptor) (r : Nat) (s : State) :
    (takeRing d r s).bandBasis = s.bandBasis := by
  unfold takeRing
  split <;> rfl

@[simp] theorem dropRing_bandBasis (s : State) : (dropRing s).bandBasis = s.bandBasis := rfl

@[simp] theorem awaitIndex_bandBasis (s : State) : (awaitIndex s).bandBasis = s.bandBasis := rfl

@[simp] theorem stepStall_bandBasis (s : State) : (stepStall s).bandBasis = s.bandBasis := rfl

/-! ### The engine's operations that leave the basis alone -/

@[simp] theorem toEnding_bandBasis (o : BandOutcome) (c : Option EndCause) (h : Option HeadId) (s : State) :
    (toEnding o c h s).bandBasis = s.bandBasis := modRecord_bandBasis _ s

@[simp] theorem postDueStall_bandBasis (s : State) : (postDueStall s).bandBasis = s.bandBasis :=
  State.bandBasis_of_eq (by simp) (by simp) (by simp)

@[simp] theorem requestCarriage_bandBasis (d : Descriptor) (s : State) :
    (requestCarriage d s).bandBasis = s.bandBasis := by
  unfold requestCarriage
  split <;> rfl

@[simp] theorem placeCarriage_bandBasis (d : Descriptor) (s : State) : (placeCarriage d s).bandBasis = s.bandBasis := by
  unfold placeCarriage
  repeat' split
  all_goals simp

@[simp] theorem prepareActions_bandBasis (d : Descriptor) (s : State) :
    (prepareActions d s).bandBasis = s.bandBasis := by
  unfold prepareActions
  split <;> simp

@[simp] theorem enterHeld_bandBasis (r : HoldReason) (s : State) : (enterHeld r s).bandBasis = s.bandBasis := rfl

@[simp] theorem headsReady_bandBasis (s : State) : (headsReady s).bandBasis = s.bandBasis := by
  unfold headsReady
  repeat' split
  all_goals rfl

@[simp] theorem startCells_bandBasis (d : Descriptor) (s : State) : (startCells d s).bandBasis = s.bandBasis := rfl

@[simp] theorem latchCells_bandBasis (d : Descriptor) (b : Nat) (s : State) :
    (latchCells d b s).bandBasis = s.bandBasis := by
  unfold latchCells
  dsimp only
  split <;> exact modRecord_bandBasis _ s

@[simp] theorem countLate_bandBasis (s : State) : (countLate s).bandBasis = s.bandBasis := by
  unfold countLate
  split <;> rfl

@[simp] theorem countSettle_bandBasis (d : Descriptor) (s : State) : (countSettle d s).bandBasis = s.bandBasis := rfl

@[simp] theorem beginCutting_bandBasis (d : Descriptor) (s : State) : (beginCutting d s).bandBasis = s.bandBasis := by
  simp [beginCutting]

@[simp] theorem beginIdle_bandBasis (d : Descriptor) (noData : Bool) (s : State) :
    (beginIdle d noData s).bandBasis = s.bandBasis := by
  unfold beginIdle
  dsimp only
  repeat' split
  all_goals simp

@[simp] theorem decideRevolution_bandBasis (d : Descriptor) (s : State) :
    (decideRevolution d s).bandBasis = s.bandBasis := by
  rcases decideRevolution_cases d s with ⟨-, -, -, h⟩ | ⟨-, h⟩ | ⟨-, -, h⟩ <;> simp [h]

@[simp] theorem judgeRevolution_bandBasis (d : Descriptor) (s : State) :
    (judgeRevolution d s).bandBasis = s.bandBasis := by
  unfold judgeRevolution
  dsimp only
  repeat' split
  all_goals simp

@[simp] theorem checkWarn_bandBasis (s : State) : (checkWarn s).bandBasis = s.bandBasis :=
  State.bandBasis_of_eq (by simp) (by simp) (by simp)

/-! ### Operations that can end the band -/

/-- Where a band is current in `t`, it rests on what `s` holds. -/
def BandStands (s t : State) : Prop := t.engine.state.isCurrent = true → t.bandBasis = s.bandBasis

theorem BandStands.of_basis {s t : State} (h : t.bandBasis = s.bandBasis) : BandStands s t := fun _ => h

theorem BandStands.of_ended {s t : State} (h : t.engine.state.isCurrent = false) : BandStands s t := by
  intro current
  simp [h] at current

/-- An operation after one that leaves the basis alone. -/
theorem BandStands.after {s s' t : State} (h : s'.bandBasis = s.bandBasis) (stands : BandStands s' t) :
    BandStands s t := fun current => (stands current).trans h

theorem BandStands.post {s t : State} {e : EventKind} (h : BandStands s t) : BandStands s (postAll e t) := h

theorem BandStands.settle {s t : State} (h : BandStands s t) : BandStands s (settle t) := h

theorem enterEnded_stands (e : EventKind) (s : State) : BandStands s (enterEnded e s) := .of_ended rfl

theorem disarmBand_stands (s : State) : BandStands s (disarmBand s) := .of_ended rfl

theorem leaveEndingPlain_stands (s : State) : BandStands s (leaveEndingPlain s) := by
  unfold leaveEndingPlain
  split
  · exact enterEnded_stands _ s
  · exact .of_basis rfl

theorem stopBand_stands (c : StopCause) (s : State) : BandStands s (stopBand c s) :=
  (leaveEndingPlain_stands _).after (toEnding_bandBasis _ _ _ s)

theorem abort_stands (c : EndCause) (h : Option HeadId) (s : State) : BandStands s (abort c h s) := by
  unfold abort
  split
  · refine (leaveEndingPlain_stands _).after ?_
    by_cases hr : s.engine.revPos = some .cut <;> simp [hr]
  · exact .of_basis rfl

theorem motionFault_stands (c : EndCause) (s : State) : BandStands s (motionFault c s) :=
  (abort_stands c none _).after (postAll_bandBasis _ s)

theorem checkStall_stands (s : State) : BandStands s (checkStall s) := by
  unfold checkStall
  split
  · exact motionFault_stands _ s
  · exact .of_basis rfl

theorem enterPreparing_stands (chained : Bool) (s : State) : BandStands s (enterPreparing chained s) := by
  have entered : (s.modEngine fun g => { g with state := .preparing, hold := none }).bandBasis = s.bandBasis := rfl
  unfold enterPreparing
  dsimp only
  repeat' split
  · exact (abort_stands _ _ _).after entered
  · exact (abort_stands _ _ _).after entered
  · exact (stopBand_stands _ _).after entered
  · exact .of_basis ((prepareActions_bandBasis _ _).trans entered)
  · exact .of_basis entered

theorem stopAtSeamWith_stands (c : StopCause) (s : State) : BandStands s (stopAtSeamWith c s) := by
  unfold stopAtSeamWith
  split
  · exact .of_basis rfl
  · exact stopBand_stands c s

theorem machineLinkLost_stands (s : State) : BandStands s (machineLinkLost s) := by
  unfold machineLinkLost
  split
  · exact stopAtSeamWith_stands _ s
  · exact .of_basis rfl

theorem cuttingIndex_stands (c : IndexClass) (d : Descriptor) (s : State) : BandStands s (cuttingIndex c d s) := by
  unfold cuttingIndex
  dsimp only
  repeat' split
  · exact abort_stands _ _ s
  · exact (abort_stands _ _ _).after (countLate_bandBasis s)
  · exact .of_basis (by simp)

theorem preparingIndex_stands (d : Descriptor) (s : State) : BandStands s (preparingIndex d s) := by
  unfold preparingIndex
  dsimp only
  repeat' split
  · exact (abort_stands _ _ _).after (countLate_bandBasis s)
  all_goals exact .of_basis (by simp)

theorem heldIndex_stands (s : State) : BandStands s (heldIndex s) := by
  unfold heldIndex
  dsimp only
  split
  · exact (abort_stands _ _ _).after (countLate_bandBasis s)
  · exact .of_basis (countLate_bandBasis s)

theorem engineIndex_stands (c : IndexClass) (s : State) : BandStands s (engineIndex c s) := by
  unfold engineIndex
  split
  case h_1 => exact .of_basis rfl
  case h_2 =>
    split
    case h_1 => exact preparingIndex_stands _ s
    case h_2 => exact cuttingIndex_stands c _ s
    case h_3 => exact heldIndex_stands s
    all_goals exact .of_basis rfl

theorem indexEvent_stands (a : Nat) (s : State) : BandStands s (indexEvent a s) := by
  unfold indexEvent
  dsimp only
  refine (engineIndex_stands _ _).after ?_
  split <;> rfl

theorem carriageArrival_stands (p : Nat) (s : State) : BandStands s (carriageArrival p s) := by
  unfold carriageArrival
  repeat' split
  · exact .of_basis rfl
  · exact abort_stands _ _ s
  · exact .of_basis rfl

theorem motionStall_stands (s : State) : BandStands s (motionStall s) := by
  unfold motionStall
  split
  · exact (checkStall_stands _).after (by simp)
  · exact .of_basis rfl

theorem cutAbortEngine_stands (s : State) : BandStands s (cutAbortEngine s) := by
  unfold cutAbortEngine
  split
  · exact disarmBand_stands s
  · exact abort_stands _ _ s

@[simp] theorem cutAbortHeads_bandBasis (s : State) : (cutAbortHeads s).bandBasis = s.bandBasis := rfl

theorem cutAbortReset_stands (s : State) : BandStands s (cutAbortReset s) := by
  unfold cutAbortReset
  refine (BandStands.after ?_ (cutAbortEngine_stands _)).post
  simp

theorem cutAbortQualified_stands (s : State) : BandStands s (cutAbortQualified s) := by
  unfold cutAbortQualified
  split
  · exact ((cutAbortReset_stands _).after (passTimeTo_bandBasis _ s)).settle
  all_goals exact .of_basis rfl

/-! ### Operations that can chain into another slot -/

/-- Where the slot of `s` is still current in `t`, its band rests on what `s` holds: chained continuation alone makes
another slot current, and it never returns to the slot it leaves (R54, R145). -/
def BandStandsOrMoves (s t : State) : Prop :=
  t.engine.state.isCurrent = true → t.engine.slot = s.engine.slot → t.bandBasis = s.bandBasis

theorem BandStands.orMoves {s t : State} (h : BandStands s t) : BandStandsOrMoves s t := fun current _ => h current

theorem BandStandsOrMoves.of_basis {s t : State} (h : t.bandBasis = s.bandBasis) : BandStandsOrMoves s t :=
  (BandStands.of_basis h).orMoves

theorem BandStandsOrMoves.after {s s' t : State} (h : s'.bandBasis = s.bandBasis) (stands : BandStandsOrMoves s' t) :
    BandStandsOrMoves s t := fun current slot =>
  (stands current (slot.trans (State.slot_of_bandBasis h).symm)).trans h

/-- A slot that has just ended COMPLETE does not qualify for chained continuation (R145: NEVER_RUN alone does). -/
theorem endCurrency_not_qualifies {s : State} {i : Fin 64} (slot : s.engine.slot = some i)
    (complete : s.jobs[i].record.outcome = some .complete) : (endCurrency s).qualifies i = false := by
  have phase : (endCurrency s).jobs[i].record.phase = .complete := by
    rw [Fin.getElem_fin] at complete
    simp [endCurrency, modRecord, slot, StatusRecord.endRun, complete, BandOutcome.phase]
  unfold State.qualifies
  split
  · rw [phase]
    rfl
  · rfl

/-- Chaining from a band that is COMPLETE makes another slot current, or none. -/
theorem chain_standsOrMoves (m : Fin 64) {s : State} {i : Fin 64} (slot : s.engine.slot = some i)
    (complete : s.jobs[i].record.outcome = some .complete) : BandStandsOrMoves s (chain m s) := by
  unfold chain
  dsimp only
  split
  case h_1 d _ qualifies =>
    intro current stays
    have basis := enterPreparing_stands true (awaitIndex (armSlot m d true (endCurrency s))) current
    have moved : some m = s.engine.slot := (State.slot_of_bandBasis basis).symm.trans stays
    obtain rfl : m = i := Option.some.inj (moved.trans slot)
    simp [endCurrency_not_qualifies slot complete] at qualifies
  case h_2 => exact (BandStands.of_ended rfl).orMoves

theorem State.slot_of_record {s : State} {r : StatusRecord} (h : s.record = some r) :
    ∃ i, s.engine.slot = some i ∧ s.jobs[i].record = r := by
  unfold State.record at h
  split at h
  · exact ⟨_, ‹_›, Option.some.inj h⟩
  · cases h

theorem leaveEnding_standsOrMoves (s : State) : BandStandsOrMoves s (leaveEnding s) := by
  unfold leaveEnding
  repeat' split
  case h_1 record _ _ _ complete _ =>
    obtain ⟨i, slot, rfl⟩ := State.slot_of_record record
    exact chain_standsOrMoves _ slot complete
  case isFalse => exact .of_basis rfl
  all_goals exact (enterEnded_stands _ s).orMoves

theorem reportFault_standsOrMoves (h : HeadId) (c : HeadCause) (s : State) :
    BandStandsOrMoves s (reportFault h c s) := by
  unfold reportFault
  repeat' split
  · exact leaveEnding_standsOrMoves s
  · exact (abort_stands _ _ s).orMoves
  · exact .of_basis rfl

theorem faultHead_standsOrMoves (h : HeadId) (c : HeadCause) (s : State) : BandStandsOrMoves s (faultHead h c s) :=
  (reportFault_standsOrMoves h c _).after (by simp)

theorem headMoved_standsOrMoves (h : HeadId) (s : State) : BandStandsOrMoves s (headMoved h s) := by
  unfold headMoved
  repeat' split
  · exact leaveEnding_standsOrMoves s
  · exact .of_basis (headsReady_bandBasis s)
  all_goals exact .of_basis rfl

/-- The part at boundary L before the end of the band, a hold or a carriage request is decided (R33, R113, R138). -/
def ringEnded (d : Descriptor) (s : State) : State :=
  let freed := if d.kind = .testCut then dropRing (silenceSet s) else postAll .ringFreed (dropRing (silenceSet s))
  (modRecord StatusRecord.ringDone freed).modEngine fun g =>
    { g with ring := some (s.nextRing + 1), revPos := some .seam }

@[simp] theorem ringEnded_bandBasis (d : Descriptor) (s : State) : (ringEnded d s).bandBasis = s.bandBasis := by
  unfold ringEnded
  split <;> simp

theorem boundaryL_eq (d : Descriptor) (s : State) :
    boundaryL d s =
      if s.nextRing + 1 = d.nr then leaveEnding (toEnding .complete none none (ringEnded d s))
      else
        match (ringEnded d s).engine.stopAtSeam with
        | some c => stopBand c (ringEnded d s)
        | none =>
          if s.stopMark d then enterHeld .stopMark (ringEnded d s)
          else if (ringEnded d s).engine.pause then enterHeld .pauseRequest (ringEnded d s)
          else requestCarriage d (ringEnded d s) := rfl

theorem boundaryL_standsOrMoves (d : Descriptor) (s : State) : BandStandsOrMoves s (boundaryL d s) := by
  rw [boundaryL_eq]
  repeat' split
  · exact (leaveEnding_standsOrMoves _).after (by simp)
  · exact ((stopBand_stands _ _).after (ringEnded_bandBasis d s)).orMoves
  all_goals exact .of_basis (by simp)

theorem boundary_standsOrMoves (b : Nat) (s : State) : BandStandsOrMoves s (boundary b s) := by
  unfold boundary
  repeat' split
  · exact .of_basis (latchCells_bandBasis _ b s)
  · exact boundaryL_standsOrMoves _ s
  all_goals exact .of_basis rfl

theorem gridStep_standsOrMoves (d : Descriptor) (s : State) : BandStandsOrMoves s (gridStep d s) := by
  obtain ⟨acc, h | h⟩ := gridStep_cases d s <;> rw [h]
  · exact .of_basis rfl
  · exact (boundary_standsOrMoves _ _).after (by simp)

theorem forwardStep_standsOrMoves (s : State) : BandStandsOrMoves s (forwardStep s) := by
  unfold forwardStep
  split
  · exact gridStep_standsOrMoves _ s
  · exact .of_basis rfl

theorem stepEvent_standsOrMoves (dir : Direction) (a : Nat) (s : State) :
    BandStandsOrMoves s (stepEvent dir a s) := by
  cases dir with
  | forward => exact (forwardStep_standsOrMoves _).after (by simp)
  | reverse =>
    unfold stepEvent
    dsimp only
    split
    · exact (BandStands.after (by simp) (motionFault_stands _ _)).orMoves
    · exact .of_basis rfl

theorem senseOn_standsOrMoves (h : HeadId) (s : State) : BandStandsOrMoves s (senseOn h s) := by
  unfold senseOn
  split
  case h_1 => exact (headMoved_standsOrMoves h _).after (by simp)
  case h_2 => exact (headMoved_standsOrMoves h _).after (by simp)
  all_goals exact .of_basis rfl

theorem senseOff_standsOrMoves (h : HeadId) (s : State) : BandStandsOrMoves s (senseOff h s) := by
  unfold senseOff
  split
  case h_1 => exact (headMoved_standsOrMoves h _).after (by simp)
  case h_2 => exact faultHead_standsOrMoves h _ s
  all_goals exact .of_basis rfl

theorem BandStandsOrMoves.settle {s t : State} (h : BandStandsOrMoves s t) : BandStandsOrMoves s (settle t) := h

theorem landedSenseChange_standsOrMoves (h : HeadId) (on : Bool) (s : State) :
    BandStandsOrMoves s (landedSenseChange h on s) := by
  unfold landedSenseChange
  dsimp only
  split
  · exact .of_basis rfl
  · refine BandStandsOrMoves.settle ?_
    split
    · exact (senseOn_standsOrMoves h _).after (by simp)
    · exact (senseOff_standsOrMoves h _).after (by simp)

theorem ampOn_standsOrMoves (h : HeadId) (s : State) : BandStandsOrMoves s (ampOn h s) := by
  unfold ampOn
  split
  case h_5 => exact .of_basis rfl
  case h_6 => exact .of_basis rfl
  all_goals exact faultHead_standsOrMoves h _ s

theorem ampFaultChange_standsOrMoves (h : HeadId) (on : Bool) (s : State) :
    BandStandsOrMoves s (ampFaultChange h on s) := by
  unfold ampFaultChange
  dsimp only
  split
  · exact .of_basis rfl
  · refine BandStandsOrMoves.settle ?_
    split
    · exact (ampOn_standsOrMoves h _).after (by simp)
    · exact .of_basis rfl

theorem lowerTimeoutExpiry_standsOrMoves (h : HeadId) (s : State) :
    BandStandsOrMoves s (lowerTimeoutExpiry h s) := by
  unfold lowerTimeoutExpiry
  split
  · exact (faultHead_standsOrMoves h _ _).after (by simp)
  · exact .of_basis rfl

theorem liftTimeoutExpiry_standsOrMoves (h : HeadId) (s : State) : BandStandsOrMoves s (liftTimeoutExpiry h s) := by
  unfold liftTimeoutExpiry
  split
  · exact (faultHead_standsOrMoves h _ _).after (by simp)
  · exact .of_basis rfl

@[simp] theorem setSignal_bandBasis (l : LinkId) (on : Bool) (s : State) :
    (setSignal l on s).bandBasis = s.bandBasis := rfl

@[simp] theorem releaseOnLoss_bandBasis (l : LinkId) (s : State) : (releaseOnLoss l s).bandBasis = s.bandBasis := by
  unfold releaseOnLoss
  split <;> rfl

theorem linkSignalLoss_stands (l : LinkId) (s : State) : BandStands s (linkSignalLoss l s) := by
  unfold linkSignalLoss
  dsimp only
  split
  · refine BandStands.settle ?_
    split
    · exact (machineLinkLost_stands _).after (by simp)
    · exact .of_basis (by simp)
  · exact .of_basis rfl

theorem linkUp_stands (l : LinkId) (s : State) : BandStands s (linkUp l s) := by
  unfold linkUp
  dsimp only
  split <;> exact .of_basis rfl

theorem indexTimingExpiry_stands (s : State) : BandStands s (indexTimingExpiry s) := by
  unfold indexTimingExpiry
  split
  · exact .of_basis ((State.modGrid_bandBasis _ _).trans (passTimeTo_bandBasis _ s))
  · exact .of_basis rfl

theorem stallWarn_stands (s : State) : BandStands s (stallWarn s) := by
  unfold stallWarn
  split
  · exact .of_basis (by simp)
  · exact .of_basis rfl

theorem cutAbortLineChange_stands (asserted : Bool) (s : State) : BandStands s (cutAbortLineChange asserted s) := by
  unfold cutAbortLineChange
  dsimp only
  split <;> exact .of_basis rfl

/-! ### Master reset: no band is current after it (R147, R160) -/

theorem masterResetLineChange_stands (asserted : Bool) (s : State) :
    BandStands s (masterResetLineChange asserted s) := by
  unfold masterResetLineChange
  dsimp only
  repeat' split
  · exact .of_basis rfl
  · exact .of_ended rfl
  · exact .of_basis rfl

theorem masterResetQualified_stands (s : State) : BandStands s (masterResetQualified s) := by
  unfold masterResetQualified
  split
  · exact .of_ended rfl
  all_goals exact .of_basis rfl

theorem powerOn_stands (s : State) : BandStands s (powerOn s) := by
  unfold powerOn
  split <;> exact .of_ended rfl

end Sys2Proof.Machine
end

section
/-! PROOFS. R51: calibration in use does not change while its band is current. -/

namespace Sys2Proof.Machine

/-! ### Calibration in use -/

/-- From `s` to `t` the calibration in use is fixed: where the band of `s` is still current in `t`, its descriptor, the
active copies of its curves and the active parameters of its heads are the same (R51). -/
def CalibrationFixed (s t : State) : Prop :=
  ∀ d, s.band = some d → t.engine.state.isCurrent = true → t.engine.slot = s.engine.slot →
    t.band = some d ∧
      (∀ c : Fin 16, s.curveInUse c = true → t.store.curves[c].active = s.store.curves[c].active) ∧
      (∀ h, s.headInUse h = true → t.params h = s.params h)

/-- A band is current when the engine is in a state with a current band and its slot holds the descriptor (R77). -/
theorem State.band_eq_some_iff {s : State} {d : Descriptor} :
    s.band = some d ↔
      s.engine.state.isCurrent = true ∧ ∃ i, s.engine.slot = some i ∧ s.jobs[i].desc = some d := by
  unfold State.band
  cases s.engine.state.isCurrent <;> cases s.engine.slot <;> simp

theorem CalibrationFixed.of_no_band {s t : State} (h : s.band = none) : CalibrationFixed s t := by
  intro d band
  simp [h] at band

theorem BandStandsOrMoves.calibrationFixed {s t : State} (h : BandStandsOrMoves s t) : CalibrationFixed s t := by
  intro d band current slot
  have basis := h current slot
  have store := State.store_of_bandBasis basis
  obtain ⟨-, i, slot_i, desc⟩ := State.band_eq_some_iff.mp band
  refine ⟨State.band_eq_some_iff.mpr ⟨current, i, slot.trans slot_i, ?_⟩, ?_, ?_⟩
  · exact (State.desc_of_bandBasis basis i).trans desc
  · intro c _
    rw [store]
  · intro h _
    simp only [State.params, store]

theorem BandStands.calibrationFixed {s t : State} (h : BandStands s t) : CalibrationFixed s t :=
  h.orMoves.calibrationFixed

theorem CalibrationFixed.of_basis {s t : State} (h : t.bandBasis = s.bandBasis) : CalibrationFixed s t :=
  (BandStands.of_basis h).calibrationFixed

theorem CalibrationFixed.outsideReset {s : State} {f : State → State} (h : CalibrationFixed s (f s)) :
    CalibrationFixed s (outsideReset f s) := by
  rcases outsideReset_cases f s with e | e <;> rw [e]
  · exact .of_basis rfl
  · exact h

/-- A request whose checks and effect fix the calibration in use. -/
def FixesCalibration (f : State → State × Answer) : Prop := ∀ s, CalibrationFixed s (f s).1

/-! ### The calibration store's writes (R46, R49) -/

/-- A new store that keeps the active copies in use fixes the calibration in use. -/
theorem CalibrationFixed.of_withStore {s : State} {x : Store}
    (curves : ∀ c : Fin 16, s.curveInUse c = true → x.curves[c].active = s.store.curves[c].active)
    (params : ∀ h, s.headInUse h = true → (x.params.get h).active = s.params h) :
    CalibrationFixed s (s.withStore x) :=
  fun _ band _ _ => ⟨band, curves, params⟩

/-- A write to a curve in use leaves its active copy alone. -/
theorem CurveCopies.write_active_of_inUse (k : Curve) (c : CurveCopies) : (c.write true k).active = c.active := rfl

theorem writeCurve_fixes (l : LinkId) (curve : Option Nat) (k : Vector (Option Nat) 17) :
    FixesCalibration (writeCurve l curve k) := by
  intro s
  unfold writeCurve
  repeat' split
  case h_2 c _ _ _ =>
    refine .of_withStore (fun c' inUse => ?_) (fun _ _ => rfl)
    by_cases same : c = c'
    · subst same
      simp [inUse, CurveCopies.write_active_of_inUse]
    · have apart : c.val ≠ c'.val := fun h => same (Fin.ext h)
      simp [apart]
  all_goals exact .of_basis rfl

theorem applyFitting_fixed {s t : State} (h : HeadId) (before after : HeadParams) (fixed : CalibrationFixed s t) :
    CalibrationFixed s (applyFitting h before after t) := by
  unfold applyFitting
  dsimp only
  repeat' split
  all_goals exact fixed

theorem storeParams_fixed (h : HeadId) (p : HeadParams) (s : State) : CalibrationFixed s (storeParams h p s) := by
  unfold storeParams
  dsimp only
  split
  case isTrue =>
    refine .of_withStore (fun _ _ => rfl) (fun h' _ => ?_)
    rw [PerHead.get_set]
    split
    · subst h'
      rfl
    · rfl
  case isFalse free =>
    refine applyFitting_fixed h _ p (.of_withStore (fun _ _ => rfl) (fun h' inUse => ?_))
    have apart : h' ≠ h := fun e => free (e ▸ inUse)
    rw [PerHead.get_set_ne _ _ apart]
    rfl

theorem writeHeadParams_fixes (l : LinkId) (head : Option Nat) (p : RawParams) :
    FixesCalibration (writeHeadParams l head p) := by
  intro s
  unfold writeHeadParams
  repeat' split
  case h_2.isFalse => exact storeParams_fixed _ _ s
  all_goals exact .of_basis rfl

theorem setStylusCount_fixes (l : LinkId) (head count : Option Nat) :
    FixesCalibration (setStylusCount l head count) := by
  intro s
  unfold setStylusCount
  repeat' split
  all_goals exact .of_basis rfl

/-! ### The job table's writes (R82, R84, R85) -/

/-- A change of a slot that is not the current band's fixes the calibration in use. -/
theorem modJob_fixed {s : State} {i : Fin 64} (free : s.slotInUse i = false) (f : JobSlot → JobSlot) :
    CalibrationFixed s (s.modJob i f) := by
  intro d band _ _
  obtain ⟨current, j, slot, desc⟩ := State.band_eq_some_iff.mp band
  have apart : i.val ≠ j.val := by
    intro e
    obtain rfl : i = j := Fin.ext e
    simp [State.slotInUse, current, slot] at free
  refine ⟨State.band_eq_some_iff.mpr ⟨current, j, slot, ?_⟩, fun _ _ => rfl, fun _ _ => rfl⟩
  rw [← desc]
  simp [apart]

theorem writeDescriptor_fixes (l : LinkId) (slot : Option Nat) (d : RawDescriptor) :
    FixesCalibration (writeDescriptor l slot d) := by
  intro s
  unfold writeDescriptor
  repeat' split
  case h_2.isFalse free => exact modJob_fixed (Bool.eq_false_iff.mpr free) _
  all_goals exact .of_basis rfl

theorem clearDescriptor_fixes (l : LinkId) (slot : Option Nat) : FixesCalibration (clearDescriptor l slot) := by
  intro s
  unfold clearDescriptor
  repeat' split
  case isFalse free => exact modJob_fixed (Bool.eq_false_iff.mpr free) _
  all_goals exact .of_basis rfl

/-! ### Band control (Table 7-2, R70, R154) -/

theorem mountCylinder_fixes (form job separation : Option Nat) :
    FixesCalibration (mountCylinder form job separation) := by
  intro s
  unfold mountCylinder
  repeat' split
  all_goals exact .of_basis rfl

/-- Arming is refused while a band is current: the engine has to be IDLE (R126). -/
theorem armBand_fixes (l : LinkId) (slot restart : Option Nat) : FixesCalibration (armBand l slot restart) := by
  intro s
  by_cases idle : s.engine.state = .idle
  · exact .of_no_band (by simp [State.band, idle, EngineState.isCurrent])
  · refine .of_basis ?_
    unfold armBand
    split <;> rfl

theorem disarm_fixes : FixesCalibration disarm := by
  intro s
  unfold disarm
  split
  · exact .of_basis rfl
  · exact (disarmBand_stands s).calibrationFixed

theorem startBand_fixes : FixesCalibration startBand := by
  intro s
  unfold startBand
  repeat' split
  case isFalse.isFalse => exact ((enterPreparing_stands false _).after (awaitIndex_bandBasis s)).calibrationFixed
  all_goals exact .of_basis rfl

theorem pauseBand_fixes : FixesCalibration pauseBand := by
  intro s
  unfold pauseBand
  repeat' split
  all_goals exact .of_basis rfl

theorem resumeBand_fixes : FixesCalibration resumeBand := by
  intro s
  unfold resumeBand
  repeat' split
  case isFalse.isFalse => exact (enterPreparing_stands false s).calibrationFixed
  all_goals exact .of_basis rfl

theorem stopAtSeam_fixes : FixesCalibration stopAtSeam := by
  intro s
  unfold stopAtSeam
  split
  · exact (stopAtSeamWith_stands _ s).calibrationFixed
  · exact .of_basis rfl

theorem stopAtOnce_fixes : FixesCalibration stopAtOnce := by
  intro s
  unfold stopAtOnce
  split
  · exact (abort_stands _ _ s).calibrationFixed
  · exact .of_basis rfl

theorem ackEnd_fixes : FixesCalibration ackEnd := by
  intro s
  unfold ackEnd
  split
  · exact .of_basis rfl
  · exact (BandStands.of_ended rfl).calibrationFixed

theorem setStallLimit_fixes (ms : Option Nat) : FixesCalibration (setStallLimit ms) := by
  intro s
  unfold setStallLimit
  split
  · exact .of_basis rfl
  case h_2 limit =>
    dsimp only
    by_cases kept : clampLimit limit = limit ∧ limit = s.sup.limit
    · rw [if_pos kept]
      exact .of_basis rfl
    · rw [if_neg kept]
      exact ((checkStall_stands _).after (by simp)).calibrationFixed

theorem clearHeadFault_fixes (head : Option Nat) : FixesCalibration (clearHeadFault head) := by
  intro s
  unfold clearHeadFault
  repeat' split
  case h_2.isFalse.isFalse => exact ((headMoved_standsOrMoves _ _).after (by simp)).calibrationFixed
  all_goals exact .of_basis rfl

/-! ### Custody (R165 to R168) -/

theorem claimCustody_fixes (l : LinkId) : FixesCalibration (claimCustody l) := by
  intro s
  unfold claimCustody
  repeat' split
  all_goals exact .of_basis rfl

theorem releaseCustody_fixes (l : LinkId) : FixesCalibration (releaseCustody l) := by
  intro s
  unfold releaseCustody
  split <;> exact .of_basis rfl

theorem passCustody_fixes (l : LinkId) (target : Option Nat) : FixesCalibration (passCustody l target) := by
  intro s
  unfold passCustody
  repeat' split
  all_goals exact .of_basis rfl

theorem seizeCustody_fixes : FixesCalibration seizeCustody := by
  intro s
  unfold seizeCustody
  split <;> exact .of_basis rfl

/-! ### Reads, events, masks and relays (R55, R56, R97, R98, R179 to R183) -/

theorem readDescriptor_fixes (slot : Option Nat) : FixesCalibration (readDescriptor slot) := by
  intro s
  unfold readDescriptor
  split <;> exact .of_basis rfl

theorem readBandStatus_fixes (slot : Option Nat) : FixesCalibration (readBandStatus slot) := by
  intro s
  unfold readBandStatus
  split <;> exact .of_basis rfl

theorem readCurve_fixes (curve : Option Nat) : FixesCalibration (readCurve curve) := by
  intro s
  unfold readCurve
  split <;> exact .of_basis rfl

theorem readHead_fixes (head : Option Nat) : FixesCalibration (readHead head) := by
  intro s
  unfold readHead
  split <;> exact .of_basis rfl

theorem readEngine_fixes : FixesCalibration readEngine := fun _ => .of_basis rfl

theorem readEvents_fixes (l : LinkId) : FixesCalibration (readEvents l) := fun _ => .of_basis rfl

theorem setNoticeMask_fixes (l : LinkId) (mask : Option Nat) : FixesCalibration (setNoticeMask l mask) := by
  intro s
  unfold setNoticeMask
  repeat' split
  all_goals exact .of_basis rfl

theorem relayNote_fixes (l : LinkId) (target : Option Nat) (bytes : List Byte) :
    FixesCalibration (relayNote l target bytes) := by
  intro s
  unfold relayNote
  repeat' split
  all_goals exact .of_basis rfl

theorem fetchRelay_fixes (l : LinkId) : FixesCalibration (fetchRelay l) := by
  intro s
  unfold fetchRelay
  dsimp only
  repeat' split
  all_goals exact .of_basis rfl

/-! ### Ring data (R104 to R109, R115) -/

theorem segmentFor_fixes (h : HeadId) (ring offset : Option Nat) (tones : List Byte) :
    FixesCalibration (segmentFor h ring offset tones) := by
  intro s
  unfold segmentFor
  repeat' split
  all_goals exact .of_basis rfl

theorem ringSegment_fixes (head ring offset : Option Nat) (tones : List Byte) :
    FixesCalibration (ringSegment head ring offset tones) := by
  intro s
  unfold ringSegment
  split
  · exact .of_basis rfl
  · exact segmentFor_fixes _ ring offset tones s

theorem closeFor_fixes (h : HeadId) (ring check mark : Option Nat) : FixesCalibration (closeFor h ring check mark) := by
  intro s
  unfold closeFor
  repeat' split
  all_goals exact .of_basis rfl

theorem ringClose_fixes (head ring check mark : Option Nat) : FixesCalibration (ringClose head ring check mark) := by
  intro s
  unfold ringClose
  split
  · exact .of_basis rfl
  · exact closeFor_fixes _ ring check mark s

theorem discardRings_fixes (head : Option Nat) : FixesCalibration (discardRings head) := by
  intro s
  unfold discardRings
  repeat' split
  all_goals exact .of_basis rfl

/-! ### A request taken from a link (R177) -/

theorem handler_fixes (l : LinkId) (k : ReqKind) (b : List Byte) : FixesCalibration (handler l k b) := by
  cases k with
  | mountCylinder => exact mountCylinder_fixes _ _ _
  | armBand => exact armBand_fixes _ _ _
  | disarm => exact disarm_fixes
  | startBand => exact startBand_fixes
  | pauseBand => exact pauseBand_fixes
  | resumeBand => exact resumeBand_fixes
  | stopAtSeam => exact stopAtSeam_fixes
  | stopAtOnce => exact stopAtOnce_fixes
  | ackEnd => exact ackEnd_fixes
  | setStallLimit => exact setStallLimit_fixes _
  | clearHeadFault => exact clearHeadFault_fixes _
  | claimCustody => exact claimCustody_fixes _
  | releaseCustody => exact releaseCustody_fixes _
  | passCustody => exact passCustody_fixes _ _
  | seizeCustody => exact seizeCustody_fixes
  | writeDescriptor => exact writeDescriptor_fixes _ _ _
  | clearDescriptor => exact clearDescriptor_fixes _ _
  | writeCurve => exact writeCurve_fixes _ _ _
  | writeHeadParams => exact writeHeadParams_fixes _ _ _
  | setStylusCount => exact setStylusCount_fixes _ _ _
  | readDescriptor => exact readDescriptor_fixes _
  | readBandStatus => exact readBandStatus_fixes _
  | readCurve => exact readCurve_fixes _
  | readHead => exact readHead_fixes _
  | readEngine => exact readEngine_fixes
  | readEvents => exact readEvents_fixes _
  | setNoticeMask => exact setNoticeMask_fixes _ _
  | relayNote => exact relayNote_fixes _ _ _
  | fetchRelay => exact fetchRelay_fixes _
  | ringSegment => exact ringSegment_fixes _ _ _ _
  | ringClose => exact ringClose_fixes _ _ _ _
  | discardRings => exact discardRings_fixes _

theorem takeRequest_fixed (l : LinkId) {f : State → State} (hf : ∀ x, CalibrationFixed x (f x)) (s : State) :
    CalibrationFixed s (takeRequest l f s) := by
  unfold takeRequest
  repeat' split
  · exact .of_basis rfl
  · exact .of_basis rfl
  · exact hf (s.modLink l fun u => { u with replyPending := true })

theorem answer_fixed (l : LinkId) (k : ReqKind) {f : State → State × Answer} (hf : FixesCalibration f) (s : State) :
    CalibrationFixed s (answer l k f s) := by
  unfold answer
  dsimp only
  split
  · exact hf s
  · exact .of_basis rfl

theorem serve_fixed (l : LinkId) (k : ReqKind) {f : State → State × Answer} (hf : FixesCalibration f) (s : State) :
    CalibrationFixed s (serve l k f s) :=
  takeRequest_fixed l (answer_fixed l k hf) s

theorem route_fixed (l : LinkId) (kind : Byte) (body : List Byte) (s : State) :
    CalibrationFixed s (route l kind body s) := by
  unfold route
  split
  · exact .of_basis rfl
  · exact answer_fixed l _ (handler_fixes l _ body) s

theorem frameReceived_fixed (l : LinkId) (kind : Byte) (body : List Byte) (check : BitVec 16) (s : State) :
    CalibrationFixed s (frameReceived l kind body check s) := by
  unfold frameReceived
  split
  · exact .of_basis rfl
  · exact takeRequest_fixed l (route_fixed l kind body) s

/-! ### Every step -/

/-- Every command answers a next state in which the calibration in use has not changed. -/
theorem exec_calibrationFixed (c : Instr) (s : State) : ∃ t, exec c s = .next t ∧ CalibrationFixed s t := by
  have request (l : LinkId) (k : ReqKind) {f : State → State × Answer} (hf : FixesCalibration f) :
      CalibrationFixed s (serve l k f s) := serve_fixed l k hf s
  cases c with
  | stepEvent dir a => exact ⟨_, rfl, .outsideReset (stepEvent_standsOrMoves dir a s).settle.calibrationFixed⟩
  | indexEvent a => exact ⟨_, rfl, .outsideReset (indexEvent_stands a s).settle.calibrationFixed⟩
  | indexTimingExpiry => exact ⟨_, rfl, .outsideReset (indexTimingExpiry_stands s).calibrationFixed⟩
  | carriageArrival p => exact ⟨_, rfl, .outsideReset (carriageArrival_stands p s).settle.calibrationFixed⟩
  | landedSenseChange h on => exact ⟨_, rfl, (landedSenseChange_standsOrMoves h on s).calibrationFixed⟩
  | ampFaultChange h on => exact ⟨_, rfl, (ampFaultChange_standsOrMoves h on s).calibrationFixed⟩
  | lowerTimeoutExpiry h =>
    exact ⟨_, rfl, .outsideReset (lowerTimeoutExpiry_standsOrMoves h s).settle.calibrationFixed⟩
  | liftTimeoutExpiry h =>
    exact ⟨_, rfl, .outsideReset (liftTimeoutExpiry_standsOrMoves h s).settle.calibrationFixed⟩
  | stallWarn => exact ⟨_, rfl, .outsideReset (stallWarn_stands s).settle.calibrationFixed⟩
  | motionStall => exact ⟨_, rfl, .outsideReset (motionStall_stands s).settle.calibrationFixed⟩
  | cutAbortLineChange asserted => exact ⟨_, rfl, (cutAbortLineChange_stands asserted s).calibrationFixed⟩
  | cutAbortQualified => exact ⟨_, rfl, .outsideReset (cutAbortQualified_stands s).calibrationFixed⟩
  | masterResetLineChange asserted => exact ⟨_, rfl, (masterResetLineChange_stands asserted s).calibrationFixed⟩
  | masterResetQualified => exact ⟨_, rfl, (masterResetQualified_stands s).calibrationFixed⟩
  | powerOn => exact ⟨_, rfl, (powerOn_stands s).calibrationFixed⟩
  | linkSignalLoss l => exact ⟨_, rfl, (linkSignalLoss_stands l s).calibrationFixed⟩
  | linkUp l => exact ⟨_, rfl, (linkUp_stands l s).calibrationFixed⟩
  | frameReceived l kind body check =>
    exact ⟨_, rfl, .outsideReset (frameReceived_fixed l kind body check s)⟩
  | frameSent l => exact ⟨_, rfl, .outsideReset (.of_basis rfl)⟩
  | bodyLengthImpossible l => exact ⟨_, rfl, .outsideReset (.of_basis rfl)⟩
  | mountCylinder l => exact ⟨_, rfl, request l _ (mountCylinder_fixes _ _ _)⟩
  | armBand l => exact ⟨_, rfl, request l _ (armBand_fixes _ _ _)⟩
  | disarm l => exact ⟨_, rfl, request l _ disarm_fixes⟩
  | startBand l => exact ⟨_, rfl, request l _ startBand_fixes⟩
  | pauseBand l => exact ⟨_, rfl, request l _ pauseBand_fixes⟩
  | resumeBand l => exact ⟨_, rfl, request l _ resumeBand_fixes⟩
  | stopAtSeam l => exact ⟨_, rfl, request l _ stopAtSeam_fixes⟩
  | stopAtOnce l => exact ⟨_, rfl, request l _ stopAtOnce_fixes⟩
  | ackEnd l => exact ⟨_, rfl, request l _ ackEnd_fixes⟩
  | setStallLimit l => exact ⟨_, rfl, request l _ (setStallLimit_fixes _)⟩
  | clearHeadFault l => exact ⟨_, rfl, request l _ (clearHeadFault_fixes _)⟩
  | claimCustody l => exact ⟨_, rfl, request l _ (claimCustody_fixes l)⟩
  | releaseCustody l => exact ⟨_, rfl, request l _ (releaseCustody_fixes l)⟩
  | passCustody l => exact ⟨_, rfl, request l _ (passCustody_fixes l _)⟩
  | seizeCustody l => exact ⟨_, rfl, request l _ seizeCustody_fixes⟩
  | writeDescriptor l => exact ⟨_, rfl, request l _ (writeDescriptor_fixes l _ _)⟩
  | clearDescriptor l => exact ⟨_, rfl, request l _ (clearDescriptor_fixes l _)⟩
  | writeCurve l => exact ⟨_, rfl, request l _ (writeCurve_fixes l _ _)⟩
  | writeHeadParams l => exact ⟨_, rfl, request l _ (writeHeadParams_fixes l _ _)⟩
  | setStylusCount l => exact ⟨_, rfl, request l _ (setStylusCount_fixes l _ _)⟩
  | readDescriptor l => exact ⟨_, rfl, request l _ (readDescriptor_fixes _)⟩
  | readBandStatus l => exact ⟨_, rfl, request l _ (readBandStatus_fixes _)⟩
  | readCurve l => exact ⟨_, rfl, request l _ (readCurve_fixes _)⟩
  | readHead l => exact ⟨_, rfl, request l _ (readHead_fixes _)⟩
  | readEngine l => exact ⟨_, rfl, request l _ readEngine_fixes⟩
  | readEvents l => exact ⟨_, rfl, request l _ (readEvents_fixes l)⟩
  | setNoticeMask l => exact ⟨_, rfl, request l _ (setNoticeMask_fixes l _)⟩
  | relayNote l => exact ⟨_, rfl, request l _ (relayNote_fixes l _ _)⟩
  | fetchRelay l => exact ⟨_, rfl, request l _ (fetchRelay_fixes l)⟩
  | ringSegment l => exact ⟨_, rfl, request l _ (ringSegment_fixes _ _ _ _)⟩
  | ringClose l => exact ⟨_, rfl, request l _ (ringClose_fixes _ _ _ _)⟩
  | discardRings l => exact ⟨_, rfl, request l _ (discardRings_fixes _)⟩

/-- A step fixes the calibration in use: a command does, and the tick changes the time base and the queue alone. -/
theorem step_calibrationFixed {s t : State} (h : step s = .next t) : CalibrationFixed s t := by
  unfold step at h
  split at h
  case h_1 c rest _ =>
    obtain ⟨u, hu, fixed⟩ := exec_calibrationFixed c (s.withPending rest)
    obtain rfl : u = t := Host.Outcome.next.inj (hu.symm.trans h)
    exact fixed
  case h_2 =>
    obtain rfl : tick s = t := Host.Outcome.next.inj h
    exact .of_basis rfl

/-- Settles O19: an operation either leaves the slot, the store and the descriptors alone, or no band is current after
it, or it has chained into another slot; and the writes spare what is in use. -/
theorem activeCalibrationIsFixed : Obligations.ActiveCalibrationIsFixed := by
  unfold Obligations.ActiveCalibrationIsFixed
  intro s t d h
  exact step_calibrationFixed h d

end Sys2Proof.Machine
end

section
/-! PROOFS. WRITE_CURVE: the checks of Table 3-4 in order, and the write applied or staged (R45, R46). -/

namespace Sys2Proof.Machine

/-! ### The knots of a written curve (R45) -/

/-- The knots of a request as its block reads them. -/
def knotFields (k : Vector (BitVec 16) 17) : Vector (Option Nat) 17 := k.map fun v => some v.toNat

theorem knotFields_read (k : Vector (BitVec 16) 17) {n : Nat} (hn : n < 17) :
    (knotFields k)[n]?.getD none = some k[n].toNat := by
  simp [knotFields, hn]

/-- The knot before knot `n` exceeds it: only a knot after K0 has one. -/
theorem exists_greater_before_iff (k : Vector (BitVec 16) 17) (n : Fin 17) :
    (∃ m : Fin 17, m.val + 1 = n.val ∧ k[n].toNat < k[m].toNat) ↔
      0 < n.val ∧ k[n].toNat < k[n.val - 1].toNat := by
  constructor
  · rintro ⟨m, next, less⟩
    have hm : m.val = n.val - 1 := by omega
    simp only [Fin.getElem_fin, hm] at less
    exact ⟨by omega, less⟩
  · rintro ⟨pos, less⟩
    exact ⟨⟨n.val - 1, by omega⟩, by simp only; omega, less⟩

/-- The block's test of a knot is R45's. -/
theorem knotOffends_iff (k : Vector (BitVec 16) 17) (n : Fin 17) :
    knotOffends (knotFields k) n.val = true ↔ knotBad k n := by
  have before : n.val - 1 < 17 := by omega
  unfold knotOffends knotBad
  rw [exists_greater_before_iff, knotFields_read k n.isLt, knotFields_read k before]
  simp only [Option.getD_some, Bool.or_eq_true, Bool.and_eq_true, decide_eq_true_eq]
  rfl

/-- The first offending knot is knot `n` when `n` offends and no knot before it does. -/
theorem firstBadKnot_eq_some {k : Vector (BitVec 16) 17} {n : Fin 17} (bad : knotBad k n)
    (before : ∀ m : Fin 17, m < n → ¬ knotBad k m) : firstBadKnot (knotFields k) = some n.val := by
  unfold firstBadKnot
  rw [List.find?_range_eq_some]
  refine ⟨(knotOffends_iff k n).mpr bad, List.mem_range.mpr n.isLt, fun j hj => ?_⟩
  have good := before ⟨j, hj.trans n.isLt⟩ hj
  rw [← knotOffends_iff] at good
  simpa using good

theorem firstBadKnot_eq_none {k : Vector (BitVec 16) 17} (good : ∀ n, ¬ knotBad k n) :
    firstBadKnot (knotFields k) = none := by
  unfold firstBadKnot
  rw [List.find?_range_eq_none]
  intro j hj
  have := good ⟨j, hj⟩
  rw [← knotOffends_iff] at this
  simpa using this

/-! ### The checks in order (Table 3-4) -/

theorem curveOf_of_le {n : Nat} (h : 16 ≤ n) : curveOf (some n) = none := by
  simp [curveOf, curveEntry, Nat.not_lt.mpr h]

theorem curveOf_val (c : Fin 16) : curveOf (some c.val) = some c := by
  simp [curveOf, curveEntry]

theorem writeCurve_of_no_custody {l : LinkId} {s : State} (custody : s.custody ≠ some l) (curve : Option Nat)
    (k : Vector (Option Nat) 17) : writeCurve l curve k s = refuse .noCustody s := by
  unfold writeCurve
  rw [if_pos custody]

theorem writeCurve_of_bad_curve {l : LinkId} {s : State} {curve : Option Nat} (custody : s.custody = some l)
    (bad : curveOf curve = none) (k : Vector (Option Nat) 17) :
    writeCurve l curve k s = refuse (.badField 0) s := by
  unfold writeCurve
  rw [if_neg (not_not.mpr custody), bad]

theorem writeCurve_of_bad_knot {l : LinkId} {s : State} {curve : Option Nat} {c : Fin 16}
    {k : Vector (Option Nat) 17} {n : Nat} (custody : s.custody = some l) (good : curveOf curve = some c)
    (bad : firstBadKnot k = some n) : writeCurve l curve k s = refuse (.badField (n + 1)) s := by
  unfold writeCurve
  rw [if_neg (not_not.mpr custody), good, bad]

/-- The store with curve `c` written: applied, or staged while the curve is in use (R46). -/
def storeWithCurve (c : Fin 16) (k : Curve) (s : State) : Store :=
  { s.store with curves := s.store.curves.set c (s.store.curves[c].write (s.curveInUse c) k) }

theorem writeCurve_of_good {l : LinkId} {s : State} {curve : Option Nat} {c : Fin 16}
    {k : Vector (BitVec 16) 17} (custody : s.custody = some l) (good : curveOf curve = some c)
    (knots : ∀ n, ¬ knotBad k n) :
    writeCurve l curve (knotFields k) s =
      (s.withStore (storeWithCurve c (k.map BitVec.toNat) s), ⟨.done, dispositionByte (s.curveInUse c)⟩) := by
  have depths : ((knotFields k).map fun v => v.getD 0) = k.map BitVec.toNat := by
    simp [knotFields, Function.comp_def]
  unfold writeCurve
  rw [if_neg (not_not.mpr custody), good, firstBadKnot_eq_none knots]
  dsimp only
  rw [depths]
  rfl

/-! ### The request -/

/-- A WRITE_CURVE that its block refuses is answered with the refusal, and nothing else changes. -/
theorem exec_writeCurve_refused {l : LinkId} {s : State} (ready : Ready l s) {curve : Byte}
    {k : Vector (BitVec 16) 17} {r : Result}
    (refused : writeCurve l (some curve.toNat) (knotFields k) (markTaken l s) = refuse r (markTaken l s)) :
    exec (.writeCurve l curve k) s = .next (s.answered l .writeCurve r.bytes) := by
  have body : r.bytes ++ everyReply .writeCurve s ++ r.plain.tail = r.bytes := by simp [Result.plain, everyReply]
  exact congrArg Host.Outcome.next
    ((serve_answered ready rfl refused).trans (congrArg (State.answered l .writeCurve · s) body))

/-- A WRITE_CURVE that its block accepts is answered DONE with its disposition, from the store written. -/
theorem exec_writeCurve_accepted {l : LinkId} {s : State} (ready : Ready l s) {curve : Byte} {c : Fin 16}
    {k : Vector (BitVec 16) 17} (custody : s.custody = some l) (good : curveOf (some curve.toNat) = some c)
    (knots : ∀ n, ¬ knotBad k n) :
    exec (.writeCurve l curve k) s =
      .next ((s.withStore (storeWithCurve c (k.map BitVec.toNat) s)).answered l .writeCurve
        [0#8, if s.curveInUse c then 1#8 else 0#8]) := by
  have answered := serve_answered (x := s.withStore (storeWithCurve c (k.map BitVec.toNat) s)) (k := .writeCurve)
    ready rfl (writeCurve_of_good (s := markTaken l s) custody good knots)
  have body : Result.bytes .done ++ everyReply .writeCurve (s.withStore (storeWithCurve c (k.map BitVec.toNat) s)) ++
      dispositionByte (s.curveInUse c) = [0#8, if s.curveInUse c then 1#8 else 0#8] := by
    cases s.curveInUse c <;> rfl
  exact congrArg Host.Outcome.next (answered.trans (congrArg (State.answered l .writeCurve · _) body))

/-- Settles O17: the block's checks in order on the request taken, and its write of the store. -/
theorem writeCurveIsAppliedOrStaged : Obligations.WriteCurveIsAppliedOrStaged := by
  unfold Obligations.WriteCurveIsAppliedOrStaged
  intro l curve k s ready
  refine ⟨?noCustody, ?badCurve, ?badKnot, ?accepted⟩
  case noCustody =>
    intro custody
    exact exec_writeCurve_refused ready (writeCurve_of_no_custody (s := markTaken l s) custody _ _)
  case badCurve =>
    intro custody bad
    exact exec_writeCurve_refused ready (writeCurve_of_bad_curve (s := markTaken l s) custody (curveOf_of_le bad) _)
  case badKnot =>
    intro n custody small bad before
    exact exec_writeCurve_refused ready
      (writeCurve_of_bad_knot (s := markTaken l s) custody (curveOf_val ⟨curve.toNat, small⟩)
        (firstBadKnot_eq_some bad before))
  case accepted =>
    intro c custody names knots
    rw [exec_writeCurve_accepted ready custody (names ▸ curveOf_val c) knots]
    cases hu : s.curveInUse c <;> simp [storeWithCurve, CurveCopies.write, hu]

end Sys2Proof.Machine
end

section
/-! PROOFS. R105, R110: the running check adds each stored cell's contribution mod 65,536, so over a segment it adds the
segment's weighted sum; and storing two segments in turn is storing them as one. -/

namespace Sys2Proof.Machine

/-- The sum of each tone times the weight of its cell, for tones stored from cell `k` on; not reduced mod 65,536. -/
def weightedSum (k : Nat) (tones : List Byte) : Nat :=
  ((List.range tones.length).map fun j => (tones.getD j 0#8).toNat * checkWeight (k + j)).sum

@[simp] theorem weightedSum_nil (k : Nat) : weightedSum k [] = 0 := rfl

@[simp] theorem weightedSum_cons (k : Nat) (t : Byte) (ts : List Byte) :
    weightedSum k (t :: ts) = t.toNat * checkWeight k + weightedSum (k + 1) ts := by
  have shifted (j : Nat) : k + 1 + j = k + (j + 1) := by omega
  simp [weightedSum, List.range_succ_eq_map, Function.comp_def, shifted]

@[simp] theorem runCheck_nil (k check : Nat) : runCheck k check [] = check := rfl

@[simp] theorem runCheck_cons (k check : Nat) (t : Byte) (ts : List Byte) :
    runCheck k check (t :: ts) = runCheck (k + 1) ((check + t.toNat * checkWeight k) % 65536) ts := rfl

/-- The bound on the check matters for an empty segment only, which does not reduce it. -/
theorem runCheck_eq_add_weightedSum {k check : Nat} {tones : List Byte} (reduced : check < 65536) :
    runCheck k check tones = (check + weightedSum k tones) % 65536 := by
  induction tones generalizing k check with
  | nil => exact (Nat.mod_eq_of_lt reduced).symm
  | cons t ts ih =>
    calc runCheck k check (t :: ts)
      _ = ((check + t.toNat * checkWeight k) % 65536 + weightedSum (k + 1) ts) % 65536 := ih (Nat.mod_lt _ (by decide))
      _ = (check + t.toNat * checkWeight k + weightedSum (k + 1) ts) % 65536 := Nat.mod_add_mod _ _ _
      _ = (check + weightedSum k (t :: ts)) % 65536 := by rw [weightedSum_cons, Nat.add_assoc]

theorem ringCheck_eq_weightedSum_mod (tones : List Byte) : ringCheck tones = weightedSum 0 tones % 65536 := by
  simpa [ringCheck] using runCheck_eq_add_weightedSum (k := 0) (tones := tones) (check := 0) (by decide)

theorem runCheck_append (k check : Nat) (tones more : List Byte) :
    runCheck k check (tones ++ more) = runCheck (k + tones.length) (runCheck k check tones) more := by
  induction tones generalizing k check with
  | nil => rfl
  | cons t ts ih =>
    have next : k + 1 + ts.length = k + (t :: ts).length := by rw [List.length_cons]; omega
    rw [List.cons_append, runCheck_cons, ih, next, runCheck_cons]

/-- Settles O33: the running check from 0 at cell 0 is the weighted sum reduced, and a second segment's running check
starts from the first one's. -/
theorem ringCheckIsTheWeightedSum : Obligations.RingCheckIsTheWeightedSum := by
  unfold Obligations.RingCheckIsTheWeightedSum
  intro tones more
  refine ⟨?sum, ?segments⟩
  case sum => simpa [weightedSum, checkWeight] using ringCheck_eq_weightedSum_mod tones
  case segments => simpa [ringCheck] using runCheck_append 0 0 tones more

end Sys2Proof.Machine
end

section
/-! PROOFS. R125, R129: what MOUNT_CYLINDER and ACK_END answer and leave in each state of the engine, and what
MOUNT_CYLINDER and ARM_BAND are refused outside IDLE. -/

namespace Sys2Proof.Machine

/-! ### A request refused, and a request done -/

/-- A request that its block refuses is answered with the refusal, and nothing else changes. -/
theorem serve_refused {l : LinkId} {k : ReqKind} {f : State → State × Answer} {s : State} {r : Result}
    (ready : Ready l s) (permitted : k.permitted l = true) (plain : everyReply k s = [])
    (refused : f (markTaken l s) = refuse r (markTaken l s)) : serve l k f s = s.answered l k r.bytes := by
  have body : r.plain.result.bytes ++ everyReply k s ++ r.plain.tail = r.bytes := by simp [Result.plain, plain]
  rw [serve_answered ready permitted refused, body]

/-- A request that its block accepts, leaving `x`, is answered DONE from `x`. -/
theorem serve_done {l : LinkId} {k : ReqKind} {f : State → State × Answer} {s x : State} (ready : Ready l s)
    (permitted : k.permitted l = true) (plain : everyReply k x = [])
    (accepted : f (markTaken l s) = accept (markTaken l x)) : serve l k f s = x.answered l k [0#8] := by
  have body : (Result.plain .done).result.bytes ++ everyReply k x ++ (Result.plain .done).tail = [0#8] := by
    rw [plain]; rfl
  rw [serve_answered ready permitted accepted, body]

/-! ### The blocks' answers -/

/-- The state with the mounted identity `c` (R125). -/
def State.mounting (c : Option CylinderId) (s : State) : State := s.withEngine { s.engine with mounted := c }

/-- The state with the band acknowledged: IDLE with no current slot and no current ring (R129). -/
def State.acknowledged (s : State) : State :=
  s.withEngine { s.engine with state := .idle, slot := none, ring := none }

theorem mountCylinder_of_not_idle {s : State} (busy : s.engine.state ≠ .idle) (form job separation : Option Nat) :
    mountCylinder form job separation s = refuse .busy s := by
  unfold mountCylinder
  rw [if_pos busy]

theorem mountCylinder_form_zero {s : State} (idle : s.engine.state = .idle) (job separation : Option Nat) :
    mountCylinder (some 0) job separation s = accept (s.mounting none) := by
  unfold mountCylinder
  rw [if_neg (not_not.mpr idle)]
  rfl

theorem mountCylinder_form_one {s : State} (idle : s.engine.state = .idle) (job separation : Nat) :
    mountCylinder (some 1) (some job) (some separation) s =
      if 15 < separation then refuse (.badField 2) s else accept (s.mounting (some ⟨job, separation⟩)) := by
  unfold mountCylinder
  rw [if_neg (not_not.mpr idle)]
  rfl

theorem mountCylinder_form_other {s : State} (idle : s.engine.state = .idle) {form : Nat} (ne_zero : form ≠ 0)
    (ne_one : form ≠ 1) (job separation : Option Nat) :
    mountCylinder (some form) job separation s = refuse (.badField 0) s := by
  unfold mountCylinder
  rw [if_neg (not_not.mpr idle)]
  match form, ne_zero, ne_one with
  | _ + 2, _, _ => rfl

theorem ackEnd_of_ended {s : State} (ended : s.engine.state = .ended) : ackEnd s = accept s.acknowledged := by
  unfold ackEnd
  rw [if_neg (not_not.mpr ended)]
  rfl

theorem armBand_of_not_idle {l : LinkId} {s : State} (custody : s.custody = some l) (busy : s.engine.state ≠ .idle)
    (slot restart : Option Nat) : armBand l slot restart s = refuse .busy s := by
  unfold armBand
  rw [if_neg (not_not.mpr custody), if_pos busy]

/-! ### The requests -/

section
variable {s : State} (ready : Ready .machine s)
include ready

theorem exec_mountCylinder_of_not_idle (busy : s.engine.state ≠ .idle) (form : Byte) (job : BitVec 32)
    (separation : Byte) :
    exec (.mountCylinder .machine form job separation) s = .next (s.answered .machine .mountCylinder [7#8]) :=
  congrArg Host.Outcome.next
    (serve_refused ready rfl rfl (mountCylinder_of_not_idle (s := markTaken .machine s) busy _ _ _))

/-- MOUNT_CYLINDER in IDLE (R125): form 0 mounts NONE, form 1 the identity given, and no other form is taken. -/
theorem exec_mountCylinder_of_idle (idle : s.engine.state = .idle) (form : Byte) (job : BitVec 32)
    (separation : Byte) :
    exec (.mountCylinder .machine form job separation) s =
      .next (if form = 0#8 then (s.mounting none).answered .machine .mountCylinder [0#8]
        else if form = 1#8 then
          (if separation.toNat ≤ 15 then
            (s.mounting (some ⟨job.toNat, separation.toNat⟩)).answered .machine .mountCylinder [0#8]
          else s.answered .machine .mountCylinder [17#8, 2#8])
        else s.answered .machine .mountCylinder [17#8, 0#8]) := by
  have idle' : (markTaken .machine s).engine.state = .idle := idle
  refine congrArg Host.Outcome.next ?_
  split_ifs with zero one small
  · subst zero
    exact serve_done ready rfl rfl (mountCylinder_form_zero idle' _ _)
  · subst one
    exact serve_done ready rfl rfl
      ((mountCylinder_form_one idle' _ _).trans (if_neg (Nat.not_lt.mpr small)))
  · subst one
    exact serve_refused ready rfl rfl
      ((mountCylinder_form_one idle' _ _).trans (if_pos (Nat.lt_of_not_le small)))
  · exact serve_refused ready rfl rfl
      (mountCylinder_form_other idle' (fun h => zero (BitVec.eq_of_toNat_eq h))
        (fun h => one (BitVec.eq_of_toNat_eq h)) _ _)

theorem exec_ackEnd_of_ended (ended : s.engine.state = .ended) :
    exec (.ackEnd .machine) s = .next (s.acknowledged.answered .machine .ackEnd [0#8]) :=
  congrArg Host.Outcome.next
    (serve_done ready rfl rfl (ackEnd_of_ended (s := markTaken .machine s) ended))

theorem exec_armBand_of_not_idle (custody : s.custody = some .machine) (busy : s.engine.state ≠ .idle)
    (slot restart : Byte) :
    exec (.armBand .machine slot restart) s = .next (s.answered .machine .armBand [7#8]) :=
  congrArg Host.Outcome.next
    (serve_refused ready rfl rfl (armBand_of_not_idle (s := markTaken .machine s) custody busy _ _))

end

/-- Settles O35: MOUNT_CYLINDER by its form in IDLE; in ENDED, ACK_END is done and the two requests that need IDLE are
refused. -/
theorem mountAndAcknowledge : Obligations.MountAndAcknowledge := by
  unfold Obligations.MountAndAcknowledge
  refine ⟨?inIdle, ?inEnded⟩
  case inIdle =>
    intro form job separation s ready idle
    exact exec_mountCylinder_of_idle ready idle form job separation
  case inEnded =>
    intro s ready ended
    have busy : s.engine.state ≠ .idle := by simp [ended]
    exact ⟨exec_ackEnd_of_ended ready ended, exec_mountCylinder_of_not_idle ready busy,
      fun custody => exec_armBand_of_not_idle ready custody busy⟩

end Sys2Proof.Machine
end

section
/-! PROOFS. R165 to R168: the four requests of the custody unit. What the unit does is the same whether or not the mark
that a request is taken is set first, so every case is the unit's own answer, with the holder after it in the reply. -/

namespace Sys2Proof.Machine

/-! ### Posting and the mark that a request is taken -/

theorem PerLink.set_comm {α : Type} (p : PerLink α) {k l : LinkId} (h : k ≠ l) (a b : α) :
    (p.set k a).set l b = (p.set l b).set k a := by
  have one_only (j : LinkId) (isL : j = l) : ¬ j = k := fun isK => h (isK.symm.trans isL)
  have reorder (j : LinkId) (old : α) :
      (if j = l then b else if j = k then a else old) = if j = k then a else if j = l then b else old :=
    ite_ite_comm _ _ _ _ (one_only j)
  simp only [PerLink.set, PerLink.mapL, reorder]

/-- Changes of two link units commute. -/
theorem State.modLink_comm {k l : LinkId} (h : k ≠ l) (f g : LinkUnit → LinkUnit) (s : State) :
    (s.modLink k f).modLink l g = (s.modLink l g).modLink k f := by
  unfold State.modLink
  simp only [State.withLinks_links, PerLink.get_set_ne _ _ h, PerLink.get_set_ne _ _ h.symm]
  rw [PerLink.set_comm _ h]
  rfl

theorem LinkUnit.post_replyPending (e : EventKind) (u : LinkUnit) (b : Bool) :
    LinkUnit.post e { u with replyPending := b } = { LinkUnit.post e u with replyPending := b } := by
  unfold LinkUnit.post
  split <;> rfl

/-- A post neither reads nor changes the mark that a request is taken, on the same link or another. -/
@[simp] theorem postTo_markTaken (k l : LinkId) (e : EventKind) (s : State) :
    postTo k e (markTaken l s) = markTaken l (postTo k e s) := by
  unfold postTo markTaken
  by_cases same : k = l
  · subst same
    simp only [State.modLink_modLink, LinkUnit.post_replyPending]
  · exact State.modLink_comm (Ne.symm same) _ _ s

@[simp] theorem withCustody_markTaken (l : LinkId) (x : Option LinkId) (s : State) :
    (markTaken l s).withCustody x = markTaken l (s.withCustody x) := rfl

@[simp] theorem markTaken_custody (l : LinkId) (s : State) : (markTaken l s).custody = s.custody := rfl

@[simp] theorem markTaken_up (l k : LinkId) (s : State) :
    ((markTaken l s).links.get k).up = (s.links.get k).up := by
  simp only [markTaken, State.modLink_links, PerLink.get_set]
  split
  · next same => subst same; rfl
  · rfl

/-! ### The requests of the custody unit -/

/-- The block `f` neither reads nor changes the mark that a request of link `l` is taken. -/
def IgnoresMark (l : LinkId) (f : State → State × Answer) : Prop :=
  ∀ s, f (markTaken l s) = (markTaken l (f s).1, (f s).2)

/-- The command `c` is a request of kind `k` from link `l` to the custody unit, which answers it by `f`: its reply
carries the holder whatever the result (Table 10-10), and `f` does not look at the mark. -/
structure CustodyRequest (c : Instr) (l : LinkId) (k : ReqKind) (f : State → State × Answer) : Prop where
  runs : ∀ s, exec c s = .next (serve l k f s)
  carriesHolder : ∀ x, everyReply k x = be1 (holderByte x.custody)
  ignoresMark : IgnoresMark l f

theorem claimCustody_request (l : LinkId) : CustodyRequest (.claimCustody l) l .claimCustody (claimCustody l) where
  runs _ := rfl
  carriesHolder _ := rfl
  ignoresMark s := by
    unfold claimCustody
    rw [markTaken_custody]
    cases s.custody with
    | none => simp [accept]
    | some k => by_cases same : k = l <;> simp [same, accept, refuse]

theorem releaseCustody_request (l : LinkId) :
    CustodyRequest (.releaseCustody l) l .releaseCustody (releaseCustody l) where
  runs _ := rfl
  carriesHolder _ := rfl
  ignoresMark s := by
    unfold releaseCustody
    by_cases holds : s.custody = some l <;> simp [holds, accept, refuse]

theorem passCustody_request (l : LinkId) (target : Byte) :
    CustodyRequest (.passCustody l target) l .passCustody (passCustody l (some target.toNat)) where
  runs _ := rfl
  carriesHolder _ := rfl
  ignoresMark s := by
    unfold passCustody
    by_cases holds : s.custody = some l
    · cases (some target.toNat).bind LinkId.ofNum with
      | none => simp [holds, refuse]
      | some t =>
        by_cases self : t = l
        · simp [holds, self, accept]
        · cases up : (s.links.get t).up <;> simp [holds, self, up, accept, refuse]
    · simp [holds, refuse]

theorem seizeCustody_request (l : LinkId) : CustodyRequest (.seizeCustody l) l .seizeCustody seizeCustody where
  runs _ := rfl
  carriesHolder _ := rfl
  ignoresMark s := by
    unfold seizeCustody
    rw [markTaken_custody]
    cases s.custody with
    | none => simp [accept]
    | some k => cases k <;> simp [accept]

section
variable {c : Instr} {l : LinkId} {k : ReqKind} {f : State → State × Answer} {s : State}

/-- A custody request that the unit accepts, leaving `x`, is answered DONE and the holder in `x`, from `x`. -/
theorem CustodyRequest.exec_done (request : CustodyRequest c l k f) (ready : Ready l s)
    (permitted : k.permitted l = true) {x : State} {holder : Option LinkId} {body : List Byte}
    (accepted : f s = accept x) (after : x.custody = holder)
    (bytes : [0#8, BitVec.ofNat 8 (holderByte holder)] = body) :
    exec c s = .next (x.answered l k body) := by
  have taken : f (markTaken l s) = (markTaken l x, Result.plain .done) := by rw [request.ignoresMark, accepted]; rfl
  rw [request.runs, serve_answered ready permitted taken, request.carriesHolder, after, ← bytes]
  rfl

/-- A custody request that the unit refuses is answered with the refusal and the holder, and nothing else changes. -/
theorem CustodyRequest.exec_refused (request : CustodyRequest c l k f) (ready : Ready l s)
    (permitted : k.permitted l = true) {r : Result} {holder : Option LinkId} {body : List Byte}
    (refused : f s = refuse r s) (held : s.custody = holder)
    (bytes : r.bytes ++ [BitVec.ofNat 8 (holderByte holder)] = body) :
    exec c s = .next (s.answered l k body) := by
  have taken : f (markTaken l s) = (markTaken l s, r.plain) := by rw [request.ignoresMark, refused]; rfl
  rw [request.runs, serve_answered ready permitted taken, request.carriesHolder, held, Result.plain, List.append_nil,
    ← bytes]
  rfl

/-- A custody request from a link that may not send it is answered NOT_PERMITTED and the holder, and nothing else
changes (R177, step 4). -/
theorem CustodyRequest.exec_not_permitted (request : CustodyRequest c l k f) (ready : Ready l s)
    (denied : k.permitted l = false) {holder : Option LinkId} {body : List Byte} (held : s.custody = holder)
    (bytes : [3#8, BitVec.ofNat 8 (holderByte holder)] = body) :
    exec c s = .next (s.answered l k body) := by
  have answered : answer l k f (markTaken l s) = reply l k.code ([3#8] ++ everyReply k s ++ []) (markTaken l s) := by
    rw [answer, denied, ← everyReply_markTaken k l s]
    rfl
  rw [request.runs, serve_ready ready, answered, reply_markTaken, request.carriesHolder, held, ← bytes]
  rfl

end

/-! ### The unit's answers -/

section
variable {l k : LinkId} {s : State}

theorem claimCustody_of_free (free : s.custody = none) :
    claimCustody l s = accept (postTo l .custodyGranted (s.withCustody (some l))) := by
  unfold claimCustody
  rw [free]

theorem claimCustody_of_holder (holds : s.custody = some l) : claimCustody l s = accept s := by
  unfold claimCustody
  rw [holds]
  exact if_pos rfl

theorem claimCustody_of_other (held : s.custody = some k) (other : k ≠ l) :
    claimCustody l s = refuse .custodyHeld s := by
  unfold claimCustody
  rw [held]
  exact if_neg other

theorem releaseCustody_of_holder (holds : s.custody = some l) : releaseCustody l s = accept (s.withCustody none) :=
  if_pos holds

theorem releaseCustody_of_not_holder (lacks : s.custody ≠ some l) : releaseCustody l s = refuse .noCustody s :=
  if_neg lacks

theorem LinkId.ofNum_num (t : LinkId) : LinkId.ofNum t.num = some t := by cases t <;> rfl

theorem LinkId.ofNum_of_three_le {n : Nat} (h : 3 ≤ n) : LinkId.ofNum n = none :=
  match n, h with
  | _ + 3, _ => rfl

theorem passCustody_of_not_holder (lacks : s.custody ≠ some l) (target : Option Nat) :
    passCustody l target s = refuse .noCustody s :=
  if_pos lacks

theorem passCustody_of_no_link (holds : s.custody = some l) {n : Nat} (no_link : 3 ≤ n) :
    passCustody l (some n) s = refuse (.badField 0) s := by
  unfold passCustody
  rw [if_neg (not_not.mpr holds), Option.bind_some, LinkId.ofNum_of_three_le no_link]

/-- PASS_CUSTODY from the holder to a link: nothing to itself, refused to a DOWN link, and else the custody passed. -/
theorem passCustody_to_link (holds : s.custody = some l) (t : LinkId) :
    passCustody l (some t.num) s =
      if t = l then accept s
      else if !(s.links.get t).up then refuse .linkDown s
      else accept (postTo l .custodyLost (postTo t .custodyGranted (s.withCustody (some t)))) := by
  unfold passCustody
  rw [if_neg (not_not.mpr holds), Option.bind_some, LinkId.ofNum_num]

theorem passCustody_to_self (holds : s.custody = some l) : passCustody l (some l.num) s = accept s := by
  rw [passCustody_to_link holds, if_pos rfl]

theorem passCustody_to_down (holds : s.custody = some l) {t : LinkId} (other : t ≠ l)
    (down : (s.links.get t).up = false) : passCustody l (some t.num) s = refuse .linkDown s := by
  rw [passCustody_to_link holds, if_neg other, down]
  rfl

theorem passCustody_to_up (holds : s.custody = some l) {t : LinkId} (other : t ≠ l)
    (up : (s.links.get t).up = true) :
    passCustody l (some t.num) s =
      accept (postTo l .custodyLost (postTo t .custodyGranted (s.withCustody (some t)))) := by
  rw [passCustody_to_link holds, if_neg other, up]
  rfl

theorem seizeCustody_of_free (free : s.custody = none) :
    seizeCustody s = accept (postTo .machine .custodyGranted (s.withCustody (some .machine))) := by
  unfold seizeCustody
  rw [free]

theorem seizeCustody_of_holder (holds : s.custody = some .machine) : seizeCustody s = accept s := by
  unfold seizeCustody
  rw [holds]

theorem seizeCustody_of_other (held : s.custody = some k) (other : k ≠ .machine) :
    seizeCustody s =
      accept (postTo .machine .custodyGranted (postTo k .custodyLost (s.withCustody (some .machine)))) := by
  unfold seizeCustody
  rw [held]
  cases k with
  | machine => exact absurd rfl other
  | prepress => rfl
  | gauge => rfl

theorem not_holder_of_other (held : s.custody = some k) (other : k ≠ l) : s.custody ≠ some l :=
  fun holds => other (Option.some.inj (held.symm.trans holds))

theorem not_holder_of_free (free : s.custody = none) : s.custody ≠ some l := by
  simp [free]

end

/-- Settles O50: every case is the unit's own answer, replied with the holder it leaves. -/
theorem custodyRequests : Obligations.CustodyRequests := by
  unfold Obligations.CustodyRequests
  refine ⟨?claimAndRelease, ?pass, ?seizeElsewhere, ?seize⟩
  case claimAndRelease =>
    intro l s ready
    have claim := claimCustody_request l
    have release := releaseCustody_request l
    exact ⟨fun free => claim.exec_done ready rfl (claimCustody_of_free free) rfl rfl,
      fun holds => claim.exec_done ready rfl (claimCustody_of_holder holds) holds rfl,
      fun _ held other => claim.exec_refused ready rfl (claimCustody_of_other held other) held rfl,
      fun holds => release.exec_done ready rfl (releaseCustody_of_holder holds) rfl rfl,
      fun _ held other =>
        release.exec_refused ready rfl (releaseCustody_of_not_holder (not_holder_of_other held other)) held rfl,
      fun free => release.exec_refused ready rfl (releaseCustody_of_not_holder (not_holder_of_free free)) free rfl⟩
  case pass =>
    intro l target s ready
    have pass := passCustody_request l target
    refine ⟨fun free => ?free, fun k held other => ?other,
      fun holds => ⟨fun no_link => ?noLink, fun t names => ?link⟩⟩
    case free => exact pass.exec_refused ready rfl (passCustody_of_not_holder (not_holder_of_free free) _) free rfl
    case other =>
      exact pass.exec_refused ready rfl (passCustody_of_not_holder (not_holder_of_other held other) _) held rfl
    case noLink => exact pass.exec_refused ready rfl (passCustody_of_no_link holds no_link) holds rfl
    case link =>
      rw [names] at pass
      refine ⟨fun self => ?self,
        fun other down => pass.exec_refused ready rfl (passCustody_to_down holds other down) holds rfl,
        fun other up => pass.exec_done ready rfl (passCustody_to_up holds other up) rfl rfl⟩
      rw [self] at pass
      exact pass.exec_done ready rfl (passCustody_to_self holds) holds rfl
  case seizeElsewhere =>
    intro l s ready elsewhere
    have denied : ReqKind.seizeCustody.permitted l = false := beq_eq_false_iff_ne.mpr elsewhere
    cases held : s.custody with
    | none => exact (seizeCustody_request l).exec_not_permitted ready denied held rfl
    | some k => exact (seizeCustody_request l).exec_not_permitted ready denied held rfl
  case seize =>
    intro s ready
    have seize := seizeCustody_request .machine
    exact ⟨fun free => seize.exec_done ready rfl (seizeCustody_of_free free) rfl rfl,
      fun holds => seize.exec_done ready rfl (seizeCustody_of_holder holds) holds rfl,
      fun _ held other => seize.exec_done ready rfl (seizeCustody_of_other held other) rfl rfl⟩

end Sys2Proof.Machine
end

section
/-! PROOFS. R181, R182: the notes passed from link to link. Neither request looks at the mark that it is taken, so every
case is the block's own answer on the state before it. -/

namespace Sys2Proof.Machine

/-! ### The mark that a request is taken, and a change of a relay queue -/

/-- A change of a link unit that leaves the mark alone commutes with setting it, on the same link or another. -/
theorem modLink_markTaken {f : LinkUnit → LinkUnit}
    (keeps : ∀ u, f { u with replyPending := true } = { f u with replyPending := true }) (k l : LinkId) (s : State) :
    (markTaken l s).modLink k f = markTaken l (s.modLink k f) := by
  unfold markTaken
  by_cases same : k = l
  · subst same
    simp only [State.modLink_modLink, keeps]
  · exact State.modLink_comm (Ne.symm same) _ _ s

@[simp] theorem markTaken_relay (l k : LinkId) (s : State) :
    ((markTaken l s).links.get k).relay = (s.links.get k).relay := by
  simp only [markTaken, State.modLink_links, PerLink.get_set]
  split
  · next same => subst same; rfl
  · rfl

/-- A permitted request whose block does not look at the mark is answered as the block answers it without the mark. -/
theorem IgnoresMark.serve_answered {l : LinkId} {k : ReqKind} {f : State → State × Answer} {s x : State} {a : Answer}
    (ignores : IgnoresMark l f) (ready : Ready l s) (permitted : k.permitted l = true) (answers : f s = (x, a)) :
    serve l k f s = x.answered l k (a.result.bytes ++ everyReply k x ++ a.tail) :=
  Machine.serve_answered ready permitted (by rw [ignores, answers])

/-! ### RELAY_NOTE (R181) -/

section
variable {l t : LinkId} {bytes : List Byte} {s : State}

/-- The note `n` appended to link `t`'s relay queue, and RELAY_WAITING posted there. -/
def State.noteAppended (t : LinkId) (n : Note) (s : State) : State :=
  postTo t .relayWaiting (s.modLink t fun u => { u with relay := u.relay ++ [n] })

@[simp] theorem noteAppended_markTaken (l t : LinkId) (n : Note) (s : State) :
    (markTaken l s).noteAppended t n = markTaken l (s.noteAppended t n) := by
  unfold State.noteAppended
  rw [modLink_markTaken fun _ => rfl, postTo_markTaken]

theorem relayNote_of_no_link {n : Nat} (no_link : 3 ≤ n) : relayNote l (some n) bytes s = refuse (.badField 0) s := by
  unfold relayNote
  rw [Option.bind_some, LinkId.ofNum_of_three_le no_link]

/-- RELAY_NOTE to a link: the byte count, the target's link and its queue checked in this order, and else appended. -/
theorem relayNote_to_link :
    relayNote l (some t.num) bytes s =
      if bytes.length = 0 ∨ 64 < bytes.length then refuse (.badField 1) s
      else if !(s.links.get t).up then refuse .linkDown s
      else if 4 ≤ (s.links.get t).relay.length then refuse .relayFull s
      else accept (s.noteAppended t ⟨l, bytes⟩) := by
  unfold relayNote
  rw [Option.bind_some, LinkId.ofNum_num]
  rfl

theorem relayNote_of_bad_count (bad : bytes.length = 0 ∨ 64 < bytes.length) :
    relayNote l (some t.num) bytes s = refuse (.badField 1) s := by
  rw [relayNote_to_link, if_pos bad]

theorem relayNote_to_down (count : ¬(bytes.length = 0 ∨ 64 < bytes.length)) (down : (s.links.get t).up = false) :
    relayNote l (some t.num) bytes s = refuse .linkDown s := by
  rw [relayNote_to_link, if_neg count, down]
  rfl

theorem relayNote_to_full (count : ¬(bytes.length = 0 ∨ 64 < bytes.length)) (up : (s.links.get t).up = true)
    (full : 4 ≤ (s.links.get t).relay.length) : relayNote l (some t.num) bytes s = refuse .relayFull s := by
  rw [relayNote_to_link, if_neg count, up, if_pos full]
  rfl

theorem relayNote_accepted (count : ¬(bytes.length = 0 ∨ 64 < bytes.length)) (up : (s.links.get t).up = true)
    (room : (s.links.get t).relay.length < 4) :
    relayNote l (some t.num) bytes s = accept (s.noteAppended t ⟨l, bytes⟩) := by
  rw [relayNote_to_link, if_neg count, up, if_neg (Nat.not_le.mpr room)]
  rfl

theorem LinkId.three_le_or_eq_num (n : Nat) : 3 ≤ n ∨ ∃ t : LinkId, n = t.num :=
  match n with
  | 0 => .inr ⟨.machine, rfl⟩
  | 1 => .inr ⟨.prepress, rfl⟩
  | 2 => .inr ⟨.gauge, rfl⟩
  | _ + 3 => .inl (Nat.le_add_left _ _)

theorem relayNote_ignoresMark (n : Nat) : IgnoresMark l (relayNote l (some n) bytes) := by
  intro s
  obtain no_link | ⟨t, rfl⟩ := LinkId.three_le_or_eq_num n
  · simp only [relayNote_of_no_link no_link, refuse]
  · simp only [relayNote_to_link, markTaken_up, markTaken_relay, noteAppended_markTaken]
    split_ifs <;> rfl

/-- RELAY_NOTE's reply is its result alone, from the state that the block leaves. -/
theorem exec_relayNote {target : Byte} {r : Result} {x : State} (ready : Ready l s)
    (answers : relayNote l (some target.toNat) bytes s = (x, r.plain)) :
    exec (.relayNote l target bytes) s = .next (x.answered l .relayNote r.bytes) := by
  have body : r.plain.result.bytes ++ everyReply .relayNote x ++ r.plain.tail = r.bytes := by
    simp [Result.plain, everyReply]
  have answered := (relayNote_ignoresMark target.toNat).serve_answered (k := .relayNote) ready rfl answers
  rw [body] at answered
  exact congrArg Host.Outcome.next answered

end

/-! ### FETCH_RELAY (R182) -/

section
variable {l : LinkId} {s : State}

/-- Link `l`'s relay queue left with the notes `rest`, and RELAY_WAITING posted again if there are any. -/
def State.notesLeft (l : LinkId) (rest : List Note) (s : State) : State :=
  let t := s.modLink l fun u => { u with relay := rest }
  if rest = [] then t else postTo l .relayWaiting t

@[simp] theorem notesLeft_markTaken (l k : LinkId) (rest : List Note) (s : State) :
    (markTaken l s).notesLeft k rest = markTaken l (s.notesLeft k rest) := by
  unfold State.notesLeft
  rw [modLink_markTaken fun _ => rfl]
  cases rest with
  | nil => rfl
  | cons => exact postTo_markTaken _ _ _ _

theorem fetchRelay_of_nil (none_waits : (s.links.get l).relay = []) : fetchRelay l s = refuse .empty s := by
  unfold fetchRelay
  rw [none_waits]

theorem fetchRelay_of_cons {n : Note} {rest : List Note} (waits : (s.links.get l).relay = n :: rest) :
    fetchRelay l s = (s.notesLeft l rest, ⟨.done, noteReply n rest.length⟩) := by
  unfold fetchRelay
  rw [waits]
  cases rest <;> rfl

theorem fetchRelay_ignoresMark (l : LinkId) : IgnoresMark l (fetchRelay l) := by
  intro s
  cases waiting : (s.links.get l).relay with
  | nil =>
    rw [fetchRelay_of_nil waiting, fetchRelay_of_nil ((markTaken_relay l l s).trans waiting)]
    rfl
  | cons n rest =>
    rw [fetchRelay_of_cons waiting, fetchRelay_of_cons ((markTaken_relay l l s).trans waiting), notesLeft_markTaken]

theorem exec_fetchRelay_of_nil (ready : Ready l s) (none_waits : (s.links.get l).relay = []) :
    exec (.fetchRelay l) s = .next (s.answered l .fetchRelay [28#8]) :=
  congrArg Host.Outcome.next
    ((fetchRelay_ignoresMark l).serve_answered (k := .fetchRelay) ready rfl (fetchRelay_of_nil none_waits))

theorem exec_fetchRelay_of_cons (ready : Ready l s) {n : Note} {rest : List Note}
    (waits : (s.links.get l).relay = n :: rest) :
    exec (.fetchRelay l) s =
      .next ((s.notesLeft l rest).answered l .fetchRelay (0#8 :: noteReply n rest.length)) :=
  congrArg Host.Outcome.next
    ((fetchRelay_ignoresMark l).serve_answered (k := .fetchRelay) ready rfl (fetchRelay_of_cons waits))

end

/-- Settles O56: every case is the block's own answer, RELAY_NOTE's in the order of its checks and FETCH_RELAY's by the
queue. -/
theorem notesAreRelayed : Obligations.NotesAreRelayed := by
  unfold Obligations.NotesAreRelayed
  intro l target bytes s ready
  refine ⟨fun no_link => exec_relayNote ready (relayNote_of_no_link no_link), fun t names => ?toLink,
    exec_fetchRelay_of_nil ready, fun _ _ waits => exec_fetchRelay_of_cons ready waits⟩
  case toLink =>
    have answered {r : Result} {x : State} (answers : relayNote l (some t.num) bytes s = (x, r.plain)) :
        exec (.relayNote l target bytes) s = .next (x.answered l .relayNote r.bytes) :=
      exec_relayNote ready (names ▸ answers)
    refine ⟨fun bad => answered (relayNote_of_bad_count bad), fun least most => ?count⟩
    have count : ¬(bytes.length = 0 ∨ 64 < bytes.length) := by omega
    exact ⟨fun down => answered (relayNote_to_down count down), fun up =>
      ⟨fun full => answered (relayNote_to_full count up full),
        fun room => answered (relayNote_accepted count up room)⟩⟩

end Sys2Proof.Machine
end

section
/-! SUPPORT. What a command comes to, once for every command: a request is not taken, discarded, refused, or answered by
its owning block; every other command is its own event. A law that each of these keeps is kept by every step. -/

namespace Sys2Proof.Machine

/-! ### The blocks' answers -/

/-- `f` is the checks and effect of the block that owns the requests of kind `k` from link `l`, for some fields of the
request (Table 10-8). -/
inductive Block (l : LinkId) : ReqKind → (State → State × Answer) → Prop
  | mountCylinder (form job separation : Option Nat) :
    Block l .mountCylinder (Machine.mountCylinder form job separation)
  | armBand (slot restart : Option Nat) : Block l .armBand (Machine.armBand l slot restart)
  | disarm : Block l .disarm Machine.disarm
  | startBand : Block l .startBand Machine.startBand
  | pauseBand : Block l .pauseBand Machine.pauseBand
  | resumeBand : Block l .resumeBand Machine.resumeBand
  | stopAtSeam : Block l .stopAtSeam Machine.stopAtSeam
  | stopAtOnce : Block l .stopAtOnce Machine.stopAtOnce
  | ackEnd : Block l .ackEnd Machine.ackEnd
  | setStallLimit (ms : Option Nat) : Block l .setStallLimit (Machine.setStallLimit ms)
  | clearHeadFault (head : Option Nat) : Block l .clearHeadFault (Machine.clearHeadFault head)
  | claimCustody : Block l .claimCustody (Machine.claimCustody l)
  | releaseCustody : Block l .releaseCustody (Machine.releaseCustody l)
  | passCustody (target : Option Nat) : Block l .passCustody (Machine.passCustody l target)
  | seizeCustody : Block l .seizeCustody Machine.seizeCustody
  | writeDescriptor (slot : Option Nat) (d : RawDescriptor) : d.patches.length = d.patchCount.getD 0 →
    Block l .writeDescriptor (Machine.writeDescriptor l slot d)
  | clearDescriptor (slot : Option Nat) : Block l .clearDescriptor (Machine.clearDescriptor l slot)
  | writeCurve (curve : Option Nat) (k : Vector (Option Nat) 17) :
    Block l .writeCurve (Machine.writeCurve l curve k)
  | writeHeadParams (head : Option Nat) (p : RawParams) :
    Block l .writeHeadParams (Machine.writeHeadParams l head p)
  | setStylusCount (head count : Option Nat) : Block l .setStylusCount (Machine.setStylusCount l head count)
  | readDescriptor (slot : Option Nat) : Block l .readDescriptor (Machine.readDescriptor slot)
  | readBandStatus (slot : Option Nat) : Block l .readBandStatus (Machine.readBandStatus slot)
  | readCurve (curve : Option Nat) : Block l .readCurve (Machine.readCurve curve)
  | readHead (head : Option Nat) : Block l .readHead (Machine.readHead head)
  | readEngine : Block l .readEngine Machine.readEngine
  | readEvents : Block l .readEvents (Machine.readEvents l)
  | setNoticeMask (mask : Option Nat) : Block l .setNoticeMask (Machine.setNoticeMask l mask)
  | relayNote (target : Option Nat) (bytes : List Byte) : Block l .relayNote (Machine.relayNote l target bytes)
  | fetchRelay : Block l .fetchRelay (Machine.fetchRelay l)
  | ringSegment (head ring offset : Option Nat) (tones : List Byte) :
    Block l .ringSegment (Machine.ringSegment head ring offset tones)
  | ringClose (head ring check mark : Option Nat) : Block l .ringClose (Machine.ringClose head ring check mark)
  | discardRings (head : Option Nat) : Block l .discardRings (Machine.discardRings head)

/-- The block that a frame of kind `k` is routed to owns that kind. -/
theorem handler_block (l : LinkId) (k : ReqKind) (b : List Byte) : Block l k (handler l k b) := by
  cases k
  case writeDescriptor => exact .writeDescriptor _ _ (by simp [rawOfBytes])
  all_goals constructor

/-! ### What a block can leave -/

/-- What the block of a request of kind `k` from link `l` can leave of `s`: nothing changed by a refusal or a read, or
one effect with the checks that came before it. -/
inductive BlockMove (l : LinkId) : ReqKind → State → State → Prop
  | same {k : ReqKind} {s : State} : BlockMove l k s s
  | mounted {s : State} (c : Option CylinderId) : s.engine.state = .idle →
    BlockMove l .mountCylinder s (s.mounting c)
  | armed {s : State} (i : Fin 64) (d : Descriptor) (restart : Bool) : s.engine.state = .idle →
    s.jobs[i].desc = some d → (restart = false → s.jobs[i].record.phase ≠ .complete) →
    BlockMove l .armBand s (supervise (armSlot i d restart s))
  | disarmed {s : State} : s.engine.state = .armed → BlockMove l .disarm s (supervise (disarmBand s))
  | started {s : State} : s.engine.state = .armed →
    BlockMove l .startBand s (supervise (enterPreparing false (awaitIndex s)))
  | pauseSet {s : State} : BlockMove l .pauseBand s (s.modEngine fun g => { g with pause := true })
  | paused {s : State} : s.engine.state = .cutting → s.engine.revPos ≠ some .cut →
    BlockMove l .pauseBand s (supervise (enterHeld .pauseRequest s))
  | resumed {s : State} : s.engine.state = .held → BlockMove l .resumeBand s (supervise (enterPreparing false s))
  | stopped {s : State} : s.engine.state.abortable = true →
    BlockMove l .stopAtSeam s (supervise (stopAtSeamWith .operatorStop s))
  | aborted {s : State} : BlockMove l .stopAtOnce s (supervise (abort .operatorAbort none s))
  | acknowledged {s : State} : s.engine.state = .ended → BlockMove l .ackEnd s s.acknowledged
  | limitSet {s : State} (v : Nat) : BlockMove l .setStallLimit s
    (supervise (checkStall (checkWarn (s.modSup fun u => { u with limit := clampLimit v }))))
  | faultCleared {s : State} (h : HeadId) : (s.heads.get h).state = .faulted → (s.heads.get h).ampFault = false →
    BlockMove l .clearHeadFault s (supervise (headMoved h (s.modHead h (HeadUnit.clear s.now (s.params h)))))
  | claimed {s : State} : s.custody = none →
    BlockMove l .claimCustody s (postTo l .custodyGranted (s.withCustody (some l)))
  | released {s : State} : BlockMove l .releaseCustody s (s.withCustody none)
  | passed {s : State} (t : LinkId) : (s.links.get t).up = true →
    BlockMove l .passCustody s (postTo l .custodyLost (postTo t .custodyGranted (s.withCustody (some t))))
  | seized {s : State} : s.custody = none →
    BlockMove l .seizeCustody s (postTo .machine .custodyGranted (s.withCustody (some .machine)))
  | seizedFrom {s : State} (k : LinkId) : s.custody = some k →
    BlockMove l .seizeCustody s
      (postTo .machine .custodyGranted (postTo k .custodyLost (s.withCustody (some .machine))))
  | descriptorWritten {s : State} (i : Fin 64) (d : RawDescriptor) : s.slotInUse i = false →
    d.patches.length = d.patchCount.getD 0 →
    firstOffence (d.checks i) = none →
    BlockMove l .writeDescriptor s (s.modJob i fun _ => ⟨some d.build, StatusRecord.fresh d.build.heads⟩)
  | descriptorCleared {s : State} (i : Fin 64) : s.slotInUse i = false →
    BlockMove l .clearDescriptor s (s.modJob i fun _ => JobSlot.empty)
  | curveWritten {s : State} (c : Fin 16) (k : Curve) : BlockMove l .writeCurve s (s.withStore (storeWithCurve c k s))
  | paramsWritten {s : State} (h : HeadId) (p : HeadParams) : (s.headInUse h = true → p.fitted = true) →
    BlockMove l .writeHeadParams s (storeParams h p s)
  | stylusSet {s : State} (h : HeadId) (n : Nat) : s.headInUse h = false →
    BlockMove l .setStylusCount s (s.modHead h fun u => { u with stylus := n })
  | eventsRead {s : State} : BlockMove l .readEvents s (s.modLink l fun u => { u with events := 0#14 })
  | maskSet {s : State} (m : EventSet) : BlockMove l .setNoticeMask s (s.modLink l (LinkUnit.setMask m))
  | noteAppended {s : State} (t : LinkId) (n : Note) : (s.links.get t).up = true →
    (s.links.get t).relay.length < 4 → BlockMove l .relayNote s (s.noteAppended t n)
  | noteFetched {s : State} (n : Note) (rest : List Note) : (s.links.get l).relay = n :: rest →
    BlockMove l .fetchRelay s (s.notesLeft l rest)
  | segmentStored {s : State} (h : HeadId) (d : Descriptor) (r offset : Nat) (tones : List Byte) :
    s.ringBand h = some d → r < d.nr → (s.staging.heads.get h).nf = some r →
    segmentRefusal (s.staging.heads.get h) offset tones.length d.cut = none →
    BlockMove l .ringSegment s (modStaging h (HeadStaging.storeTones r tones) s)
  | fillingDropped {s : State} (h : HeadId) (d : Descriptor) : s.ringBand h = some d →
    BlockMove l .ringClose s (modStaging h (HeadStaging.mapSlots RingSlot.dropFilling) s)
  | ringClosed {s : State} (h : HeadId) (d : Descriptor) (r check : Nat) (mark : Bool) : s.ringBand h = some d →
    r < d.nr → (s.staging.heads.get h).fillingOf = some (r, d.cut, check) →
    BlockMove l .ringClose s
      (modStaging h (fun t => { t.mapSlots (RingSlot.close mark) with nf := t.nf.map fun n => n + 1 }) s)
  | ringsDiscarded {s : State} (h : HeadId) (d : Descriptor) : s.ringBand h = some d →
    BlockMove l .discardRings s (modStaging h (HeadStaging.discard s.nextRing) s)

section
variable (l : LinkId) (s : State)

theorem mountCylinder_move (form job separation : Option Nat) :
    BlockMove l .mountCylinder s (mountCylinder form job separation s).1 := by
  unfold mountCylinder
  split_ifs with busy
  · exact .same
  · have idle := not_not.mp busy
    repeat' split
    case h_1 => exact .mounted none idle
    case h_3.isFalse => exact .mounted _ idle
    all_goals exact .same

theorem armBand_move (slot restart : Option Nat) : BlockMove l .armBand s (armBand l slot restart s).1 := by
  unfold armBand
  split_ifs with custody busy
  · exact .same
  · exact .same
  · split
    case h_3 i r _ _ =>
      unfold armChecked
      split
      case h_1 => exact .same
      case h_2 d desc =>
        split_ifs with mounted heads curves complete
        · exact .same
        · exact .same
        · exact .same
        · exact .same
        · refine .armed i d r (not_not.mp busy) desc fun keeps done => complete ?_
          rw [keeps, done]
          rfl
    all_goals exact .same

theorem pauseBand_move : BlockMove l .pauseBand s (pauseBand s).1 := by
  unfold pauseBand
  split_ifs with preparing cutting set waits
  · exact .pauseSet
  · exact .same
  · exact .pauseSet
  · exact .paused cutting fun cut => waits (.inl cut)
  · exact .same

theorem setStallLimit_move (ms : Option Nat) : BlockMove l .setStallLimit s (setStallLimit ms s).1 := by
  unfold setStallLimit
  cases ms with
  | none => exact .same
  | some v =>
    dsimp only
    by_cases inForce : clampLimit v = v ∧ v = s.sup.limit
    · rw [if_pos inForce]
      exact .same
    · rw [if_neg inForce]
      exact .limitSet v

theorem clearHeadFault_move (head : Option Nat) : BlockMove l .clearHeadFault s (clearHeadFault head s).1 := by
  unfold clearHeadFault
  split
  · exact .same
  · next h _ =>
    split_ifs with sound present
    · exact .same
    · exact .same
    · exact .faultCleared h (not_not.mp sound) (Bool.eq_false_iff.mpr present)

theorem passCustody_move (target : Option Nat) : BlockMove l .passCustody s (passCustody l target s).1 := by
  unfold passCustody
  repeat' split
  case h_2.isFalse.isFalse t _ _ down => exact .passed t (by simpa using down)
  all_goals exact .same

theorem seizeCustody_move : BlockMove l .seizeCustody s (seizeCustody s).1 := by
  unfold seizeCustody
  split
  · exact .seized ‹_›
  · exact .same
  · exact .seizedFrom _ ‹_›

theorem writeDescriptor_move (slot : Option Nat) (d : RawDescriptor) (listed : d.patches.length = d.patchCount.getD 0) :
    BlockMove l .writeDescriptor s (writeDescriptor l slot d s).1 := by
  unfold writeDescriptor
  repeat' split
  case h_2.isFalse free => exact .descriptorWritten _ d (Bool.eq_false_iff.mpr free) listed ‹_›
  all_goals exact .same

theorem clearDescriptor_move (slot : Option Nat) : BlockMove l .clearDescriptor s (clearDescriptor l slot s).1 := by
  unfold clearDescriptor
  repeat' split
  case isFalse free => exact .descriptorCleared _ (Bool.eq_false_iff.mpr free)
  all_goals exact .same

theorem writeCurve_move (curve : Option Nat) (k : Vector (Option Nat) 17) :
    BlockMove l .writeCurve s (writeCurve l curve k s).1 := by
  unfold writeCurve
  repeat' split
  case h_2 c _ _ _ => exact .curveWritten c _
  all_goals exact .same

theorem writeHeadParams_move (head : Option Nat) (p : RawParams) :
    BlockMove l .writeHeadParams s (writeHeadParams l head p s).1 := by
  unfold writeHeadParams
  repeat' split
  case h_2.isFalse h _ _ _ unfits =>
    refine .paramsWritten h p.build fun used => ?_
    simpa [used] using unfits
  all_goals exact .same

theorem setStylusCount_move (head count : Option Nat) :
    BlockMove l .setStylusCount s (setStylusCount l head count s).1 := by
  unfold setStylusCount
  repeat' split
  case isFalse free => exact .stylusSet _ _ (Bool.eq_false_iff.mpr free)
  all_goals exact .same

theorem relayNote_move (target : Option Nat) (bytes : List Byte) :
    BlockMove l .relayNote s (relayNote l target bytes s).1 := by
  unfold relayNote
  repeat' split
  case h_2.isFalse.isFalse.isFalse down full =>
    exact .noteAppended _ ⟨l, bytes⟩ (by simpa using down) (Nat.lt_of_not_le full)
  all_goals exact .same

theorem fetchRelay_move : BlockMove l .fetchRelay s (fetchRelay l s).1 := by
  cases waiting : (s.links.get l).relay with
  | nil => rw [fetchRelay_of_nil waiting]; exact .same
  | cons n rest => rw [fetchRelay_of_cons waiting]; exact .noteFetched n rest waiting

theorem ringSegment_move (head ring offset : Option Nat) (tones : List Byte) :
    BlockMove l .ringSegment s (ringSegment head ring offset tones s).1 := by
  unfold ringSegment segmentFor
  split
  · exact .same
  · next h _ =>
    split
    case h_3 r o =>
      split
      · exact .same
      · split
        · exact .same
        · next d band =>
          split_ifs with high order
          · exact .same
          · exact .same
          · split
            · exact .same
            · next fits =>
              exact .segmentStored h d r o tones band (Nat.lt_of_not_le high) (not_not.mp order) fits
    all_goals exact .same

theorem ringClose_move (head ring check mark : Option Nat) :
    BlockMove l .ringClose s (ringClose head ring check mark s).1 := by
  unfold ringClose closeFor
  split
  · exact .same
  · next h _ =>
    split
    case h_4 =>
      split
      · exact .same
      · next d band =>
        split_ifs with high
        · exact .same
        · split
          · exact .same
          · next filling =>
            split_ifs with other short wrong
            · exact .same
            · exact .fillingDropped h d band
            · exact .fillingDropped h d band
            · obtain rfl := not_not.mp other
              obtain rfl := not_not.mp short
              exact .ringClosed h d _ _ _ band (Nat.lt_of_not_le high) filling
    all_goals exact .same

theorem discardRings_move (head : Option Nat) : BlockMove l .discardRings s (discardRings head s).1 := by
  unfold discardRings
  repeat' split
  case h_2 => exact .ringsDiscarded _ _ ‹_›
  all_goals exact .same

end

/-- Everything a block can do. -/
theorem Block.move {l : LinkId} {k : ReqKind} {f : State → State × Answer} (block : Block l k f) (s : State) :
    BlockMove l k s (f s).1 := by
  cases block with
  | mountCylinder => exact mountCylinder_move l s _ _ _
  | armBand => exact armBand_move l s _ _
  | disarm =>
    unfold Machine.disarm
    split_ifs with other
    · exact .same
    · exact .disarmed (not_not.mp other)
  | startBand =>
    unfold Machine.startBand
    split_ifs with other
    · exact .same
    · exact .same
    · exact .started (not_not.mp other)
  | pauseBand => exact pauseBand_move l s
  | resumeBand =>
    unfold Machine.resumeBand
    split_ifs with other
    · exact .same
    · exact .same
    · exact .resumed (not_not.mp other)
  | stopAtSeam =>
    unfold Machine.stopAtSeam
    split_ifs with runs
    · exact .stopped runs
    · exact .same
  | stopAtOnce =>
    unfold Machine.stopAtOnce
    split_ifs
    · exact .aborted
    · exact .same
  | ackEnd =>
    unfold Machine.ackEnd
    split_ifs with other
    · exact .same
    · exact .acknowledged (not_not.mp other)
  | setStallLimit => exact setStallLimit_move l s _
  | clearHeadFault => exact clearHeadFault_move l s _
  | claimCustody =>
    unfold Machine.claimCustody
    split
    · exact .claimed ‹_›
    · split_ifs <;> exact .same
  | releaseCustody =>
    unfold Machine.releaseCustody
    split_ifs
    · exact .released
    · exact .same
  | passCustody => exact passCustody_move l s _
  | seizeCustody => exact seizeCustody_move l s
  | writeDescriptor _ _ listed => exact writeDescriptor_move l s _ _ listed
  | clearDescriptor => exact clearDescriptor_move l s _
  | writeCurve => exact writeCurve_move l s _ _
  | writeHeadParams => exact writeHeadParams_move l s _ _
  | setStylusCount => exact setStylusCount_move l s _ _
  | readDescriptor => unfold Machine.readDescriptor; split <;> exact .same
  | readBandStatus => unfold Machine.readBandStatus; split <;> exact .same
  | readCurve => unfold Machine.readCurve; split <;> exact .same
  | readHead => unfold Machine.readHead; split <;> exact .same
  | readEngine => exact .same
  | readEvents => exact .eventsRead
  | setNoticeMask =>
    unfold Machine.setNoticeMask
    repeat' split
    case isFalse => exact .maskSet _
    all_goals exact .same
  | relayNote => exact relayNote_move l s _ _
  | fetchRelay => exact fetchRelay_move l s
  | ringSegment => exact ringSegment_move l s _ _ _ _
  | ringClose => exact ringClose_move l s _ _ _ _
  | discardRings => exact discardRings_move l s _

/-! ### What a request frame comes to (R175, R177, R178) -/

/-- What an intact frame on link `l` comes to from `s`, where the kinds that it may carry are `K`: it is not taken, it is
discarded for LINK_ERROR, it is refused with a reply alone, or its block answers it. -/
inductive Served (l : LinkId) (K : ReqKind → Prop) (s : State) : State → Prop
  | ignored : Served l K s s
  | linkError : Served l K s (transmitAll (postTo l .linkError s))
  | refused (kind : Byte) (body : List Byte) : Ready l s →
    Served l K s (transmitAll (reply l kind body (markTaken l s)))
  | answered {k : ReqKind} {f : State → State × Answer} (kind : Byte) (body : List Byte) : K k → Block l k f →
    k.permitted l = true → Ready l s → Served l K s (transmitAll (reply l kind body (f (markTaken l s)).1))

/-- A frame that is taken when its link is ready, and not taken or discarded otherwise. -/
theorem takeRequest_served {l : LinkId} {K : ReqKind → Prop} {f : State → State} {s : State}
    (taken : Ready l s → Served l K s (transmitAll (f (markTaken l s)))) : Served l K s (takeRequest l f s) := by
  unfold takeRequest
  split_ifs with idle pending
  · exact .ignored
  · exact .linkError
  · simp only [Bool.or_eq_true, Bool.not_eq_true', not_or, Bool.not_eq_true, Bool.not_eq_false] at idle pending
    exact taken ⟨idle.1, idle.2, pending⟩

theorem answer_served {l : LinkId} {k : ReqKind} {K : ReqKind → Prop} {f : State → State × Answer} {s : State}
    (kind : K k) (block : Block l k f) (ready : Ready l s) :
    Served l K s (transmitAll (answer l k f (markTaken l s))) := by
  unfold answer
  cases permitted : k.permitted l with
  | true => exact .answered _ _ kind block permitted ready
  | false => exact .refused _ _ ready

theorem serve_served {l : LinkId} {k : ReqKind} {K : ReqKind → Prop} {f : State → State × Answer} (s : State)
    (kind : K k) (block : Block l k f) : Served l K s (serve l k f s) :=
  takeRequest_served (answer_served kind block)

theorem frameReceived_served {K : ReqKind → Prop} (l : LinkId) (kind : Byte) (body : List Byte) (check : BitVec 16)
    (s : State) (names : ∀ k, ReqKind.ofCode kind = some k → K k) :
    Served l K s (frameReceived l kind body check s) := by
  unfold frameReceived
  split_ifs
  · exact .linkError
  · refine takeRequest_served fun ready => ?_
    unfold route
    split
    · exact .refused _ _ ready
    · next k known => exact answer_served (names k known) (handler_block l k body) ready

/-! ### What a command comes to -/

/-- The events of the machine lines after which supervision and the transmitters follow in the same step, and what each
does before that (R150, R180). -/
inductive LineOp : Instr → (State → State) → Prop
  | stepEvent (dir : Direction) (a : Nat) : LineOp (.stepEvent dir a) (Machine.stepEvent dir a)
  | indexEvent (a : Nat) : LineOp (.indexEvent a) (Machine.indexEvent a)
  | carriageArrival (p : Nat) : LineOp (.carriageArrival p) (Machine.carriageArrival p)
  | lowerTimeoutExpiry (h : HeadId) : LineOp (.lowerTimeoutExpiry h) (Machine.lowerTimeoutExpiry h)
  | liftTimeoutExpiry (h : HeadId) : LineOp (.liftTimeoutExpiry h) (Machine.liftTimeoutExpiry h)
  | stallWarn : LineOp .stallWarn Machine.stallWarn
  | motionStall : LineOp .motionStall Machine.motionStall

/-- The kinds that the request of a command may be of: a frame's by its kind byte, a request row's its own. -/
def Asks (c : Instr) (k : ReqKind) : Prop :=
  match c with
  | .frameReceived _ kind _ _ => ReqKind.ofCode kind = some k
  | c => ∃ l body, c.asFrame = some (l, k, body)

/-- What command `c` comes to from `s`. -/
inductive Effect (s : State) : Instr → State → Prop
  | untaken (c : Instr) : Effect s c s
  | request {c : Instr} {l : LinkId} {t : State} : Served l (Asks c) s t → Effect s c t
  | line {c : Instr} {f : State → State} : LineOp c f → s.inMasterReset = false → Effect s c (settle (f s))
  | indexTimingExpiry : Effect s .indexTimingExpiry (Machine.indexTimingExpiry s)
  | landedSenseChange (h : HeadId) (on : Bool) :
    Effect s (.landedSenseChange h on) (Machine.landedSenseChange h on s)
  | ampFaultChange (h : HeadId) (on : Bool) : Effect s (.ampFaultChange h on) (Machine.ampFaultChange h on s)
  | cutAbortLineChange (asserted : Bool) :
    Effect s (.cutAbortLineChange asserted) (Machine.cutAbortLineChange asserted s)
  | cutAbortQualified : s.inMasterReset = false → Effect s .cutAbortQualified (Machine.cutAbortQualified s)
  | masterResetLineChange (asserted : Bool) :
    Effect s (.masterResetLineChange asserted) (Machine.masterResetLineChange asserted s)
  | masterResetQualified : Effect s .masterResetQualified (Machine.masterResetQualified s)
  | powerOn : Effect s .powerOn (Machine.powerOn s)
  | linkSignalLoss (l : LinkId) : Effect s (.linkSignalLoss l) (Machine.linkSignalLoss l s)
  | linkUp (l : LinkId) : Effect s (.linkUp l) (Machine.linkUp l s)
  | frameSent (l : LinkId) : Effect s (.frameSent l) (s.modLink l LinkUnit.frameSent)

theorem outsideReset_effect {c : Instr} {f : State → State} {s : State}
    (taken : s.inMasterReset = false → Effect s c (f s)) : Effect s c (outsideReset f s) := by
  unfold outsideReset
  split_ifs with reset
  · exact .untaken c
  · exact taken (Bool.eq_false_iff.mpr reset)

/-- Every command answers a next state, and it is what the command comes to. -/
theorem exec_effect (c : Instr) (s : State) : ∃ t, exec c s = .next t ∧ Effect s c t := by
  have row {c : Instr} {l : LinkId} {k : ReqKind} {f : State → State × Answer}
      (asks : Asks c k) (block : Block l k f) : Effect s c (serve l k f s) :=
    .request (serve_served s asks block)
  cases c with
  | stepEvent dir a => exact ⟨_, rfl, outsideReset_effect (.line (.stepEvent dir a))⟩
  | indexEvent a => exact ⟨_, rfl, outsideReset_effect (.line (.indexEvent a))⟩
  | indexTimingExpiry => exact ⟨_, rfl, outsideReset_effect fun _ => .indexTimingExpiry⟩
  | carriageArrival p => exact ⟨_, rfl, outsideReset_effect (.line (.carriageArrival p))⟩
  | landedSenseChange h on => exact ⟨_, rfl, .landedSenseChange h on⟩
  | ampFaultChange h on => exact ⟨_, rfl, .ampFaultChange h on⟩
  | lowerTimeoutExpiry h => exact ⟨_, rfl, outsideReset_effect (.line (.lowerTimeoutExpiry h))⟩
  | liftTimeoutExpiry h => exact ⟨_, rfl, outsideReset_effect (.line (.liftTimeoutExpiry h))⟩
  | stallWarn => exact ⟨_, rfl, outsideReset_effect (.line .stallWarn)⟩
  | motionStall => exact ⟨_, rfl, outsideReset_effect (.line .motionStall)⟩
  | cutAbortLineChange asserted => exact ⟨_, rfl, .cutAbortLineChange asserted⟩
  | cutAbortQualified => exact ⟨_, rfl, outsideReset_effect .cutAbortQualified⟩
  | masterResetLineChange asserted => exact ⟨_, rfl, .masterResetLineChange asserted⟩
  | masterResetQualified => exact ⟨_, rfl, .masterResetQualified⟩
  | powerOn => exact ⟨_, rfl, .powerOn⟩
  | linkSignalLoss l => exact ⟨_, rfl, .linkSignalLoss l⟩
  | linkUp l => exact ⟨_, rfl, .linkUp l⟩
  | frameReceived l kind body check =>
    exact ⟨_, rfl, outsideReset_effect fun _ => .request (frameReceived_served l kind body check s fun _ => id)⟩
  | frameSent l => exact ⟨_, rfl, outsideReset_effect fun _ => .frameSent l⟩
  | bodyLengthImpossible l =>
    exact ⟨_, rfl, outsideReset_effect fun _ => .request (l := l) .linkError⟩
  | mountCylinder l _ _ _ => exact ⟨_, rfl, row ⟨l, _, rfl⟩ (.mountCylinder _ _ _)⟩
  | armBand l _ _ => exact ⟨_, rfl, row ⟨l, _, rfl⟩ (.armBand _ _)⟩
  | disarm l => exact ⟨_, rfl, row ⟨l, _, rfl⟩ .disarm⟩
  | startBand l => exact ⟨_, rfl, row ⟨l, _, rfl⟩ .startBand⟩
  | pauseBand l => exact ⟨_, rfl, row ⟨l, _, rfl⟩ .pauseBand⟩
  | resumeBand l => exact ⟨_, rfl, row ⟨l, _, rfl⟩ .resumeBand⟩
  | stopAtSeam l => exact ⟨_, rfl, row ⟨l, _, rfl⟩ .stopAtSeam⟩
  | stopAtOnce l => exact ⟨_, rfl, row ⟨l, _, rfl⟩ .stopAtOnce⟩
  | ackEnd l => exact ⟨_, rfl, row ⟨l, _, rfl⟩ .ackEnd⟩
  | setStallLimit l _ => exact ⟨_, rfl, row ⟨l, _, rfl⟩ (.setStallLimit _)⟩
  | clearHeadFault l _ => exact ⟨_, rfl, row ⟨l, _, rfl⟩ (.clearHeadFault _)⟩
  | claimCustody l => exact ⟨_, rfl, row ⟨l, _, rfl⟩ .claimCustody⟩
  | releaseCustody l => exact ⟨_, rfl, row ⟨l, _, rfl⟩ .releaseCustody⟩
  | passCustody l _ => exact ⟨_, rfl, row ⟨l, _, rfl⟩ (.passCustody _)⟩
  | seizeCustody l => exact ⟨_, rfl, row ⟨l, _, rfl⟩ .seizeCustody⟩
  | writeDescriptor l _ _ => exact ⟨_, rfl, row ⟨l, _, rfl⟩ (.writeDescriptor _ _ (by simp [rawOfFields, patchEntries]))⟩
  | clearDescriptor l _ => exact ⟨_, rfl, row ⟨l, _, rfl⟩ (.clearDescriptor _)⟩
  | writeCurve l _ _ => exact ⟨_, rfl, row ⟨l, _, rfl⟩ (.writeCurve _ _)⟩
  | writeHeadParams l _ _ => exact ⟨_, rfl, row ⟨l, _, rfl⟩ (.writeHeadParams _ _)⟩
  | setStylusCount l _ _ => exact ⟨_, rfl, row ⟨l, _, rfl⟩ (.setStylusCount _ _)⟩
  | readDescriptor l _ => exact ⟨_, rfl, row ⟨l, _, rfl⟩ (.readDescriptor _)⟩
  | readBandStatus l _ => exact ⟨_, rfl, row ⟨l, _, rfl⟩ (.readBandStatus _)⟩
  | readCurve l _ => exact ⟨_, rfl, row ⟨l, _, rfl⟩ (.readCurve _)⟩
  | readHead l _ => exact ⟨_, rfl, row ⟨l, _, rfl⟩ (.readHead _)⟩
  | readEngine l => exact ⟨_, rfl, row ⟨l, _, rfl⟩ .readEngine⟩
  | readEvents l => exact ⟨_, rfl, row ⟨l, _, rfl⟩ .readEvents⟩
  | setNoticeMask l _ => exact ⟨_, rfl, row ⟨l, _, rfl⟩ (.setNoticeMask _)⟩
  | relayNote l _ _ => exact ⟨_, rfl, row ⟨l, _, rfl⟩ (.relayNote _ _)⟩
  | fetchRelay l => exact ⟨_, rfl, row ⟨l, _, rfl⟩ .fetchRelay⟩
  | ringSegment l _ _ _ _ => exact ⟨_, rfl, row ⟨l, _, rfl⟩ (.ringSegment _ _ _ _)⟩
  | ringClose l _ _ _ _ => exact ⟨_, rfl, row ⟨l, _, rfl⟩ (.ringClose _ _ _ _)⟩
  | discardRings l _ => exact ⟨_, rfl, row ⟨l, _, rfl⟩ (.discardRings _)⟩

theorem effect_of_exec {c : Instr} {s t : State} (run : exec c s = .next t) : Effect s c t := by
  obtain ⟨u, runs, effect⟩ := exec_effect c s
  obtain rfl : u = t := Host.Outcome.next.inj (runs.symm.trans run)
  exact effect

/-- A law that does not look at the queue, that a tick keeps and that everything a command can come to keeps, is kept by
every step. -/
theorem step_keeps {I : State → Prop} (queue : ∀ {s} rest, I s → I (s.withPending rest))
    (ticked : ∀ {s}, I s → I (tick s)) (command : ∀ {c s t}, Effect s c t → I s → I t) {s t : State}
    (run : step s = .next t) (holds : I s) : I t := by
  unfold step at run
  split at run
  · exact command (effect_of_exec run) (queue _ holds)
  · obtain rfl : tick s = t := Host.Outcome.next.inj run
    exact ticked holds

end Sys2Proof.Machine
end

section
/-! PROOFS. What every step does with the queue and the time base: the command at the front is run, the tick passes 1 µs,
and no command changes the queue or turns the time base back. -/

namespace Sys2Proof.Machine

/-- Settles O1: a step on a queue with a front is the run of that front. -/
theorem stepTakesFrontCommand : Obligations.StepTakesFrontCommand := by
  unfold Obligations.StepTakesFrontCommand
  intro c rest s
  rfl

/-! ### The tick -/

/-- The expiries that the tick puts into the queue are those that are due. -/
theorem due_eq_expiriesDue (s : State) : s.due = expiriesDue s := by
  have filter (f : LineFilter) (c : Instr) :
      (if f.due s.now then [c] else []) =
        match f with
        | .qualifying q => if q + 2000 ≤ s.now then [c] else []
        | _ => [] := by
    cases f with
    | qualifying q => exact if_congr decide_eq_true_iff rfl rfl
    | released => rfl
    | taken => rfl
  have head (h : HeadId) :
      (s.heads.get h).due s.now h =
        match (s.heads.get h).timeout with
        | some (.lower, x) => if x ≤ s.now then [.lowerTimeoutExpiry h] else []
        | some (.lift, x) => if x ≤ s.now then [.liftTimeoutExpiry h] else []
        | none => [] := rfl
  unfold State.due expiriesDue
  simp only [filter, head]
  rfl

/-- Settles O2: the tick on an empty queue, with its expiries read as the due ones. -/
theorem idleStepPassesOneMicrosecond : Obligations.IdleStepPassesOneMicrosecond := by
  unfold Obligations.IdleStepPassesOneMicrosecond
  intro s
  have queued : (tick (s.withPending [])).pending = (passTime 1 (s.withPending [])).due := rfl
  refine ⟨tick (s.withPending []), rfl, rfl, ?_, queued.trans (due_eq_expiriesDue _), rfl⟩
  change (if s.sup.active then { s.sup with stall := min 2000000 (s.sup.stall + 1) } else s.sup) = _
  cases s.sup.active <;> rfl

/-! ### The queue and the time base -/

/-- From `s` to `t` the queue is as it was and the time base has not run back. -/
def Onward (s t : State) : Prop := t.pending = s.pending ∧ s.now ≤ t.now

theorem Onward.of_eq {s t : State} (queue : t.pending = s.pending) (now : t.now = s.now) : Onward s t :=
  ⟨queue, now.ge⟩

theorem Onward.rfl (s : State) : Onward s s := ⟨Eq.refl _, Nat.le_refl _⟩

theorem Onward.trans {s t u : State} (a : Onward s t) (b : Onward t u) : Onward s u :=
  ⟨b.1.trans a.1, a.2.trans b.2⟩

theorem passTimeTo_onward (a : Nat) (s : State) : Onward s (passTimeTo a s) := ⟨rfl, Nat.le_add_right _ _⟩

theorem passTime_onward (dt : Nat) (s : State) : Onward s (passTime dt s) := ⟨rfl, Nat.le_add_right _ _⟩

theorem storeParams_onward (h : HeadId) (p : HeadParams) (s : State) : Onward s (storeParams h p s) := by
  unfold storeParams applyFitting
  dsimp only
  repeat' split
  all_goals exact .of_eq (by simp) (by simp)

theorem stopAtSeamWith_onward (c : StopCause) (s : State) : Onward s (stopAtSeamWith c s) := by
  unfold stopAtSeamWith
  split <;> exact .of_eq (by simp) (by simp)

theorem notesLeft_onward (l : LinkId) (rest : List Note) (s : State) : Onward s (s.notesLeft l rest) := by
  unfold State.notesLeft
  dsimp only
  split <;> exact .of_eq rfl rfl

/-- No block changes the queue or the time base. -/
theorem BlockMove.onward {l : LinkId} {k : ReqKind} {s t : State} (move : BlockMove l k s t) : Onward s t := by
  cases move with
  | paramsWritten h p => exact storeParams_onward h p s
  | noteFetched n rest => exact notesLeft_onward l rest s
  | stopped => exact (stopAtSeamWith_onward .operatorStop s).trans (.of_eq (by simp) (by simp))
  | same => exact .rfl s
  | mounted | acknowledged | noteAppended | segmentStored | fillingDropped | ringClosed | ringsDiscarded =>
    exact .of_eq rfl rfl
  | _ => exact .of_eq (by simp) (by simp)

theorem Served.onward {l : LinkId} {K : ReqKind → Prop} {s t : State} (served : Served l K s t) : Onward s t := by
  cases served with
  | ignored => exact .of_eq rfl rfl
  | linkError => exact .of_eq rfl rfl
  | refused => exact .of_eq rfl rfl
  | answered _ _ _ block =>
    exact (BlockMove.onward (block.move (markTaken l s))).trans (.of_eq (by simp [reply]) (by simp [reply]))

/-! ### The other commands -/

theorem faultHead_onward (h : HeadId) (c : HeadCause) (s : State) : Onward s (faultHead h c s) :=
  .of_eq (by simp) (by simp)

theorem headMoved_onward (h : HeadId) (s : State) : Onward s (headMoved h s) := .of_eq (by simp) (by simp)

theorem settle_onward (s : State) : Onward s (settle s) := .of_eq (by simp) (by simp)

theorem modHead_onward (h : HeadId) (f : HeadUnit → HeadUnit) (s : State) : Onward s (s.modHead h f) :=
  .of_eq (by simp) (by simp)

theorem withPins_onward (x : Pins) (s : State) : Onward s (s.withPins x) := .of_eq (by simp) (by simp)

theorem postAll_onward (e : EventKind) (s : State) : Onward s (postAll e s) := .of_eq (by simp) (by simp)

theorem modGrid_onward (f : Grid → Grid) (s : State) : Onward s (s.modGrid f) := .of_eq (by simp) (by simp)

theorem forwardStep_onward (s : State) : Onward s (forwardStep s) := by
  unfold forwardStep
  split
  · next d _ _ =>
    obtain ⟨acc, same | same⟩ := gridStep_cases d s <;> rw [same] <;> exact .of_eq (by simp) (by simp)
  · exact .rfl s

theorem stepEvent_onward (dir : Direction) (a : Nat) (s : State) : Onward s (stepEvent dir a s) := by
  have moved : Onward s (stepStall ((passTimeTo a s).modGrid fun g =>
      { g with position := movePosition dir g.position })) :=
    (passTimeTo_onward a s).trans (.of_eq (by simp [stepStall]) (by simp [stepStall]))
  cases dir with
  | forward => exact moved.trans (forwardStep_onward _)
  | reverse =>
    unfold stepEvent
    dsimp only
    split
    · exact moved.trans (.of_eq (by simp) (by simp))
    · exact moved

theorem indexEvent_onward (a : Nat) (s : State) : Onward s (indexEvent a s) := by
  unfold indexEvent
  dsimp only
  refine (passTimeTo_onward a s).trans ?_
  split <;> exact .of_eq (by simp) (by simp)

theorem carriageArrival_onward (p : Nat) (s : State) : Onward s (carriageArrival p s) := by
  unfold carriageArrival
  repeat' split
  all_goals exact .of_eq (by simp) (by simp)

theorem lowerTimeoutExpiry_onward (h : HeadId) (s : State) : Onward s (lowerTimeoutExpiry h s) := by
  unfold lowerTimeoutExpiry
  split
  · exact (passTimeTo_onward _ s).trans (faultHead_onward h _ _)
  · exact .rfl s

theorem liftTimeoutExpiry_onward (h : HeadId) (s : State) : Onward s (liftTimeoutExpiry h s) := by
  unfold liftTimeoutExpiry
  split
  · exact (passTimeTo_onward _ s).trans (faultHead_onward h _ _)
  · exact .rfl s

theorem checkWarn_onward (s : State) : Onward s (checkWarn s) := .of_eq (by simp) (by simp)

theorem checkStall_onward (s : State) : Onward s (checkStall s) := .of_eq (by simp) (by simp)

theorem stallWarn_onward (s : State) : Onward s (stallWarn s) := by
  unfold stallWarn
  split
  · exact (passTime_onward _ s).trans (checkWarn_onward _)
  · exact .rfl s

theorem motionStall_onward (s : State) : Onward s (motionStall s) := by
  unfold motionStall
  split
  · exact (passTime_onward _ s).trans ((checkWarn_onward _).trans (checkStall_onward _))
  · exact .rfl s

theorem LineOp.onward {c : Instr} {f : State → State} (op : LineOp c f) (s : State) : Onward s (f s) := by
  cases op with
  | stepEvent dir a => exact stepEvent_onward dir a s
  | indexEvent a => exact indexEvent_onward a s
  | carriageArrival p => exact carriageArrival_onward p s
  | lowerTimeoutExpiry h => exact lowerTimeoutExpiry_onward h s
  | liftTimeoutExpiry h => exact liftTimeoutExpiry_onward h s
  | stallWarn => exact stallWarn_onward s
  | motionStall => exact motionStall_onward s

theorem senseOn_onward (h : HeadId) (s : State) : Onward s (senseOn h s) := by
  unfold senseOn
  split
  case h_1 => exact (modHead_onward h _ s).trans (headMoved_onward h _)
  case h_2 => exact (modHead_onward h _ s).trans (headMoved_onward h _)
  all_goals exact .rfl s

theorem senseOff_onward (h : HeadId) (s : State) : Onward s (senseOff h s) := by
  unfold senseOff
  split
  case h_1 => exact (modHead_onward h _ s).trans (headMoved_onward h _)
  case h_2 => exact faultHead_onward h _ s
  all_goals exact .rfl s

theorem landedSenseChange_onward (h : HeadId) (on : Bool) (s : State) : Onward s (landedSenseChange h on s) := by
  unfold landedSenseChange
  dsimp only
  refine (withPins_onward { s.pins with landed := s.pins.landed.set h on } s).trans ?_
  split
  · exact .rfl _
  · refine (modHead_onward h (fun x => { x with landed := on }) _).trans (Onward.trans ?_ (settle_onward _))
    split
    · exact senseOn_onward h _
    · exact senseOff_onward h _

theorem ampOn_onward (h : HeadId) (s : State) : Onward s (ampOn h s) := by
  unfold ampOn
  split
  case h_5 => exact .rfl s
  case h_6 => exact .rfl s
  all_goals exact faultHead_onward h _ s

theorem ampFaultChange_onward (h : HeadId) (on : Bool) (s : State) : Onward s (ampFaultChange h on s) := by
  unfold ampFaultChange
  dsimp only
  refine (withPins_onward { s.pins with ampFault := s.pins.ampFault.set h on } s).trans ?_
  split
  · exact .rfl _
  · refine (modHead_onward h (fun x => { x with ampFault := on }) _).trans (Onward.trans ?_ (settle_onward _))
    split
    · exact ampOn_onward h _
    · exact .rfl _

theorem cutAbortEngine_onward (s : State) : Onward s (cutAbortEngine s) := by
  unfold cutAbortEngine
  split <;> exact .of_eq (by simp) (by simp)

theorem cutAbortReset_onward (s : State) : Onward s (cutAbortReset s) := by
  have heads : Onward s (cutAbortHeads (emptyStaging (s.modSup fun u => { u with cutAbort := .taken }))) :=
    .of_eq rfl rfl
  exact heads.trans ((cutAbortEngine_onward _).trans (postAll_onward _ _))

theorem cutAbortQualified_onward (s : State) : Onward s (cutAbortQualified s) := by
  unfold cutAbortQualified
  split
  · exact (passTimeTo_onward _ s).trans ((cutAbortReset_onward _).trans (settle_onward _))
  all_goals exact .rfl s

theorem cutAbortLineChange_onward (asserted : Bool) (s : State) : Onward s (cutAbortLineChange asserted s) := by
  unfold cutAbortLineChange
  dsimp only
  split <;> exact .of_eq rfl rfl

theorem masterResetLineChange_onward (asserted : Bool) (s : State) :
    Onward s (masterResetLineChange asserted s) := by
  unfold masterResetLineChange
  dsimp only
  repeat' split
  all_goals exact .of_eq rfl rfl

theorem masterResetQualified_onward (s : State) : Onward s (masterResetQualified s) := by
  unfold masterResetQualified
  split
  · exact passTimeTo_onward _ s
  all_goals exact .rfl s

theorem powerOn_onward (s : State) : Onward s (powerOn s) := by
  unfold powerOn
  split <;> exact .of_eq rfl rfl

theorem machineLinkLost_onward (s : State) : Onward s (machineLinkLost s) := by
  unfold machineLinkLost
  split
  · exact stopAtSeamWith_onward _ s
  · exact .rfl s

theorem releaseOnLoss_onward (l : LinkId) (s : State) : Onward s (releaseOnLoss l s) := by
  unfold releaseOnLoss
  split <;> exact .of_eq rfl rfl

theorem linkSignalLoss_onward (l : LinkId) (s : State) : Onward s (linkSignalLoss l s) := by
  unfold linkSignalLoss
  dsimp only
  split
  · have cleared : Onward s ((setSignal l false s).modLink l fun _ => LinkUnit.reset) := .of_eq rfl rfl
    refine cleared.trans ((releaseOnLoss_onward l _).trans (Onward.trans ?_ (settle_onward _)))
    split
    · exact machineLinkLost_onward _
    · exact .rfl _
  · exact .of_eq rfl rfl

theorem linkUp_onward (l : LinkId) (s : State) : Onward s (linkUp l s) := by
  unfold linkUp
  dsimp only
  split <;> exact .of_eq rfl rfl

theorem indexTimingExpiry_onward (s : State) : Onward s (indexTimingExpiry s) := by
  unfold indexTimingExpiry
  split
  · exact (passTimeTo_onward _ s).trans (modGrid_onward _ _)
  · exact .rfl s

/-- Whatever a command comes to, the queue is as it was and the time base has not run back. -/
theorem Effect.onward {c : Instr} {s t : State} (effect : Effect s c t) : Onward s t := by
  cases effect with
  | untaken => exact .rfl s
  | request served => exact served.onward
  | line op => exact (op.onward s).trans (settle_onward _)
  | indexTimingExpiry => exact indexTimingExpiry_onward s
  | landedSenseChange h on => exact landedSenseChange_onward h on s
  | ampFaultChange h on => exact ampFaultChange_onward h on s
  | cutAbortLineChange asserted => exact cutAbortLineChange_onward asserted s
  | cutAbortQualified => exact cutAbortQualified_onward s
  | masterResetLineChange asserted => exact masterResetLineChange_onward asserted s
  | masterResetQualified => exact masterResetQualified_onward s
  | powerOn => exact powerOn_onward s
  | linkSignalLoss l => exact linkSignalLoss_onward l s
  | linkUp l => exact linkUp_onward l s
  | frameSent l => exact .of_eq rfl rfl

/-- Settles O3: every command answers what it comes to, which leaves the queue alone. -/
theorem everyCommandCompletes : Obligations.EveryCommandCompletes := by
  unfold Obligations.EveryCommandCompletes
  intro c s
  obtain ⟨t, runs, effect⟩ := exec_effect c s
  exact ⟨t, runs, effect.onward.1, effect.onward.2⟩

end Sys2Proof.Machine
end

section
/-! SUPPORT. The moves of the part: the coarse changes that every operation of the engine, the heads, the cell computer,
staging and the store is made of, each with what is known when it is made. A law that every move keeps is kept by every
command. -/

namespace Sys2Proof.Machine

/-! ### The moves of a head controller (Table 4-1) -/

/-- From `u` to `v` a head controller makes a move of its state machine: it stays consistent, an OFFLINE head stays
OFFLINE, the drive output stays or becomes 0, and the stylus count stays (R57 to R68). -/
structure HeadStep (u v : HeadUnit) : Prop where
  ok : u.ok → v.ok
  offline : u.state = .offline → v.state = .offline
  drive : v.drive = u.drive ∨ v.drive = 0
  stylus : v.stylus = u.stylus

theorem HeadStep.rfl (u : HeadUnit) : HeadStep u u := ⟨id, id, .inl (Eq.refl _), Eq.refl _⟩

theorem HeadUnit.beginLift_landed {u : HeadUnit} (landed : u.landed = true) (now : Nat) (p : HeadParams) :
    u.beginLift now p = { u with state := .lifting, drive := 0, timeout := some (.lift, expiryAt now p.liftMs) } := by
  simp [HeadUnit.beginLift, landed]

/-- A LOWERING head that lifts has its landed sense off and no lower request, so it is LIFTED at once (R63, R64). -/
theorem HeadUnit.beginLift_of_lowering {u : HeadUnit} (landed : u.landed = false) (request : u.lowerRequest = false)
    (now : Nat) (p : HeadParams) : u.beginLift now p = { u with state := .lifted, drive := 0, timeout := none } := by
  simp [HeadUnit.beginLift, HeadUnit.endLift, landed, request]

theorem HeadStep.silence (u : HeadUnit) : HeadStep u { u with drive := 0 } where
  ok h := by
    obtain ⟨cause, request, timeout, drive, range, up, down⟩ := h
    exact ⟨cause, request, timeout, by simp, by simp, up, down⟩
  offline := id
  drive := .inr (Eq.refl _)
  stylus := Eq.refl _

theorem HeadStep.lower (now : Nat) (p : HeadParams) (u : HeadUnit) : HeadStep u (u.lower now p) := by
  unfold HeadUnit.lower
  split
  case h_1 lifted =>
    refine ⟨fun h => ?_, by simp [lifted], .inl (Eq.refl _), Eq.refl _⟩
    obtain ⟨cause, request, timeout, drive, range, up, down⟩ := h
    simp_all [HeadUnit.ok, HeadUnit.beginLower]
  case h_2 lifting =>
    refine ⟨fun h => ?_, by simp [lifting], .inl (Eq.refl _), Eq.refl _⟩
    obtain ⟨cause, request, timeout, drive, range, up, down⟩ := h
    exact ⟨cause, fun _ => lifting, timeout, drive, range, up, down⟩
  all_goals exact .rfl u

theorem HeadStep.lift (now : Nat) (p : HeadParams) (u : HeadUnit) : HeadStep u (u.lift now p) := by
  unfold HeadUnit.lift
  split
  case h_1 lowering =>
    refine ⟨fun h => ?_, by simp [lowering], ?_, ?_⟩
    · obtain ⟨cause, request, timeout, drive, range, up, down⟩ := h
      have off : u.landed = false := up (.inr lowering)
      have none_requested : u.lowerRequest = false := by simpa [lowering] using request
      rw [HeadUnit.beginLift_of_lowering off none_requested]
      simp_all [HeadUnit.ok]
    · unfold HeadUnit.beginLift HeadUnit.endLift HeadUnit.beginLower
      dsimp only
      split_ifs <;> simp
    · unfold HeadUnit.beginLift HeadUnit.endLift HeadUnit.beginLower
      dsimp only
      split_ifs <;> rfl
  case h_2 engaged =>
    refine ⟨fun h => ?_, by simp [engaged], ?_, ?_⟩
    · obtain ⟨cause, request, timeout, drive, range, up, down⟩ := h
      have on : u.landed = true := down (.inl engaged)
      rw [HeadUnit.beginLift_landed on]
      simp_all [HeadUnit.ok]
    · unfold HeadUnit.beginLift HeadUnit.endLift HeadUnit.beginLower
      dsimp only
      split_ifs <;> simp
    · unfold HeadUnit.beginLift HeadUnit.endLift HeadUnit.beginLower
      dsimp only
      split_ifs <;> rfl
  case h_3 lifting =>
    refine ⟨fun h => ?_, by simp [lifting], .inl (Eq.refl _), Eq.refl _⟩
    obtain ⟨cause, request, timeout, drive, range, up, down⟩ := h
    exact ⟨cause, by simp, timeout, drive, range, up, down⟩
  all_goals exact .rfl u

theorem HeadStep.trans {u v w : HeadUnit} (a : HeadStep u v) (b : HeadStep v w) : HeadStep u w where
  ok := b.ok ∘ a.ok
  offline := b.offline ∘ a.offline
  drive := by
    rcases b.drive with h | h
    · exact h ▸ a.drive
    · exact .inr h
  stylus := b.stylus.trans a.stylus

/-- A head that is not OFFLINE enters FAULTED from any levels at its port (R66). -/
theorem HeadStep.fault (c : HeadCause) {u v : HeadUnit} (fitted : u.state ≠ .offline) (stylus : v.stylus = u.stylus) :
    HeadStep u (v.fault c) :=
  ⟨fun _ => by simp [HeadUnit.ok, HeadUnit.fault], fun h => absurd h fitted, .inr (Eq.refl _), stylus⟩

theorem HeadStep.clear (now : Nat) (p : HeadParams) {u : HeadUnit} (faulted : u.state = .faulted) :
    HeadStep u (u.clear now p) := by
  unfold HeadUnit.clear
  split <;>
  · refine ⟨fun h => ?_, by simp [faulted], .inl (Eq.refl _), Eq.refl _⟩
    obtain ⟨cause, request, timeout, drive, range, up, down⟩ := h
    have silent : u.drive = 0 := by simpa [faulted] using drive
    simp_all [HeadUnit.ok]

/-- The landed sense comes on (R62, R65, R68): a LOWERING head lands. -/
theorem HeadStep.land {u : HeadUnit} (lowering : u.state = .lowering) :
    HeadStep u { u with landed := true }.land := by
  refine ⟨fun h => ?_, by simp [lowering], .inl (Eq.refl _), Eq.refl _⟩
  obtain ⟨cause, request, timeout, drive, range, up, down⟩ := h
  simp_all [HeadUnit.ok, HeadUnit.land]

/-- The landed sense comes on in LIFTED: the head lifts (R65). -/
theorem HeadStep.touch (now : Nat) (p : HeadParams) {u : HeadUnit} (lifted : u.state = .lifted) :
    HeadStep u ({ u with landed := true }.beginLift now p) := by
  rw [HeadUnit.beginLift_landed (by rfl)]
  refine ⟨fun h => ?_, by simp [lifted], .inr (Eq.refl _), Eq.refl _⟩
  obtain ⟨cause, request, timeout, drive, range, up, down⟩ := h
  simp_all [HeadUnit.ok]

/-- The landed sense goes off in LIFTING: the lift is complete (R64). -/
theorem HeadStep.leave (now : Nat) (p : HeadParams) {u : HeadUnit} (lifting : u.state = .lifting) :
    HeadStep u ({ u with landed := false }.endLift now p) := by
  unfold HeadUnit.endLift
  split <;>
  · refine ⟨fun h => ?_, by simp [lifting], .inl (Eq.refl _), Eq.refl _⟩
    obtain ⟨cause, request, timeout, drive, range, up, down⟩ := h
    simp_all [HeadUnit.ok, HeadUnit.beginLower]

/-- A level of the landed sense that asks no move of the head is recorded: a consistent head that is ENGAGED or LIFTING
has its sense on, so it cannot come on there, and it goes off in OFFLINE and FAULTED alone (R58, R68). -/
theorem HeadStep.sense {u : HeadUnit} {on : Bool} (changes : u.landed ≠ on)
    (still : u.state = .offline ∨ u.state = .faulted ∨
      (on = true ∧ (u.state = .engaged ∨ u.state = .lifting)) ∨
      (on = false ∧ (u.state = .lifted ∨ u.state = .lowering))) :
    HeadStep u { u with landed := on } := by
  refine ⟨fun h => ?_, id, .inl (Eq.refl _), Eq.refl _⟩
  obtain ⟨cause, request, timeout, drive, range, up, down⟩ := h
  refine ⟨cause, request, timeout, drive, range, ?_, ?_⟩ <;> simp only <;>
    rcases still with h | h | ⟨rfl, h | h⟩ | ⟨rfl, h | h⟩ <;> simp_all

theorem HeadStep.amp (u : HeadUnit) (on : Bool) : HeadStep u { u with ampFault := on } :=
  ⟨fun h => h, id, .inl (Eq.refl _), Eq.refl _⟩

/-! ### The moves -/

/-- The part at the entry to ENDING by an abort, before the test whether the heads are at rest (R34, R91, R114, R143,
R144). -/
def abortEntry (c : EndCause) (h : Option HeadId) (s : State) : State :=
  toEnding .aborted (some c) h (dropRing (silenceSet
    (if s.engine.revPos = some .cut then modRecord (fun r => { r with partialRing := some r.nextRing }) s else s)))

theorem postDueStall_engine (s : State) : (postDueStall s).engine = s.engine := by simp

theorem abort_eq (c : EndCause) (h : Option HeadId) (s : State) :
    abort c h s =
      if s.engine.state.abortable then leaveEndingPlain (abortEntry c h (postDueStall s)) else s := by
  unfold abort abortEntry
  rw [postDueStall_engine]

/-- The part chained into slot `m`, with the band that was in ENDING no longer current (R54, R145). -/
def chained (m : Fin 64) (d : Descriptor) (s : State) : State :=
  (awaitIndex (armSlot m d true (endCurrency s))).modEngine fun g => { g with state := .preparing, hold := none }

/-- The part with accumulator `acc` after a carry, with the boundary counted and not yet acted on (R9, R11). -/
def counted (acc : Nat) (s : State) : State :=
  s.modGrid fun g => { g with acc := acc, boundaries := g.boundaries + 1 }

/-- A carry of a RUNNING grid of the current band `d` that leaves accumulator `acc` and makes a boundary (R9, R11). -/
structure Carries (d : Descriptor) (acc : Nat) (s : State) : Prop where
  running : s.grid.state = .running
  band : s.band = some d
  carry : acc + Config.stepsPerRev = s.grid.acc + d.nc
  counts : s.grid.boundaries ≤ d.nc

/-- Every head of the set has drive 0 and an EMPTY prepared cell. -/
def SetSilent (s : State) : Prop :=
  ∀ h, s.headInUse h = true → (s.heads.get h).drive = 0 ∧ (s.cells.get h).prepared = none

/-- The stall counter stands at 0 and the warning is ARMED while supervision is INACTIVE (R150). -/
def Supervisor.Quiet (u : Supervisor) : Prop := u.active = false → u.stall = 0 ∧ u.warnArmed = true

/-- One move of the part: a coarse change of one block or of several at once, with what is known when it is made. -/
inductive Move : State → State → Prop
  | post (e : EventKind) (s : State) : Move s (postAll e s)
  | time (dt : Nat) (s : State) : Move s (passTime dt s)
  | sup {f : Supervisor → Supervisor} {s : State} : (s.sup.Quiet → (f s.sup).Quiet) → Move s (s.modSup f)
  /-- Counters, the carriage and the requests of the engine. -/
  | counters {f : Engine → Engine} {s : State} :
    (f s.engine).state = s.engine.state → (f s.engine).slot = s.engine.slot → (f s.engine).revPos = s.engine.revPos →
    Move s (s.modEngine f)
  /-- The position count, the reference, the period and the index timing. -/
  | position {f : Grid → Grid} {s : State} :
    (f s.grid).state = s.grid.state → (f s.grid).acc = s.grid.acc → (f s.grid).boundaries = s.grid.boundaries →
    Move s (s.modGrid f)
  /-- Counts of the current record. -/
  | tally {f : StatusRecord → StatusRecord} {s : State} :
    (∀ r, (f r).phase = r.phase ∧ (f r).outcome = r.outcome ∧ (f r).nextRing = r.nextRing ∧
      (f r).ringsCut = r.ringsCut) → Move s (modRecord f s)
  | heads {x : PerHead HeadUnit} {s : State} : (∀ h, HeadStep (s.heads.get h) (x.get h)) → Move s (s.withHeads x)
  | cells {x : PerHead CellUnit} {s : State} :
    (∀ h, (x.get h).prepared = (s.cells.get h).prepared ∨ (x.get h).prepared = none) → Move s (s.withCells x)
  | aborted (c : EndCause) (h : Option HeadId) (f : Grid → Grid) {s : State} : s.engine.state.abortable = true →
    Move s (abortEntry c h (s.modGrid f))
  /-- The cut-abort reset empties staging before it aborts the band. -/
  | cutAborted (c : EndCause) {s : State} : s.engine.state.abortable = true →
    Move s (abortEntry c none (emptyStaging s))
  | emptied {s : State} : s.engine.state.abortable = false → s.engine.state ≠ .armed → Move s (emptyStaging s)
  | stopped (c : StopCause) {s : State} : s.engine.state.abortable = true → s.ringBeingCut = false →
    Move s (toEnding .stopped (some c.endCause) none s)
  | ended (e : EventKind) {s : State} : s.engine.state = .ending → Move s (enterEnded e s)
  | chained {m : Fin 64} {d : Descriptor} {s : State} : s.engine.state = .ending →
    (endCurrency s).jobs[m].desc = some d → (endCurrency s).jobs[m].record.phase = .neverRun →
    Move s (chained m d s)
  | disarmed {s : State} : s.engine.state = .armed → Move s (disarmBand s)
  | armed (i : Fin 64) (d : Descriptor) (restart : Bool) {s : State} : s.engine.state = .idle →
    s.jobs[i].desc = some d → (restart = false → s.jobs[i].record.phase ≠ .complete) →
    Move s (armSlot i d restart s)
  | started {s : State} : s.engine.state = .armed →
    Move s ((awaitIndex s).modEngine fun g => { g with state := .preparing, hold := none })
  | resumed {s : State} : s.engine.state = .held →
    Move s (s.modEngine fun g => { g with state := .preparing, hold := none })
  | acknowledged {s : State} : s.engine.state = .ended → Move s s.acknowledged
  | held (r : HoldReason) {s : State} : s.engine.state.abortable = true → s.ringBeingCut = false →
    Move s (s.modEngine fun g =>
      { g with state := .held, hold := some r, pause := false, revPos := none, settleCount := none })
  /-- A step that makes no boundary. -/
  | accumulated (d : Descriptor) (acc : Nat) {s : State} : s.grid.state = .running → s.band = some d →
    (acc = s.grid.acc + d.nc ∧ acc < Config.stepsPerRev ∨ acc + Config.stepsPerRev = s.grid.acc + d.nc) →
    Move s (s.modGrid fun g => { g with acc := acc })
  /-- A boundary that the engine and the cell computer let pass. -/
  | passed {d : Descriptor} {acc : Nat} {s : State} : Carries d acc s → (s.ringBeingCut = true → d.cut < s.grid.boundaries) →
    Move s (counted acc s)
  | latched {d : Descriptor} {acc : Nat} {s : State} : Carries d acc s → s.ringBeingCut = true → s.grid.boundaries < d.cut →
    Move s (latchCells d s.grid.boundaries (counted acc s))
  | ringDone {d : Descriptor} {acc : Nat} {s : State} : Carries d acc s → s.ringBeingCut = true → s.grid.boundaries = d.cut →
    s.nextRing + 1 ≠ d.nr → Move s (ringEnded d (counted acc s))
  | bandDone {d : Descriptor} {acc : Nat} {s : State} : Carries d acc s → s.ringBeingCut = true → s.grid.boundaries = d.cut →
    s.nextRing + 1 = d.nr → Move s (toEnding .complete none none (ringEnded d (counted acc s)))
  | preset (now r g : Nat) {s : State} : (s.ringBeingCut = true → SetSilent s) →
    Move s (s.modGrid (Grid.index now (presetFor r g)))
  | cuttingBegun {d : Descriptor} {s : State} : s.engine.state = .preparing ∨ s.engine.state = .cutting →
    s.band = some d → s.dataReady d s.nextRing = true → SetSilent s →
    (s.grid.state = .running → s.grid.boundaries = 0) →
    Move s (beginCutting d (s.modEngine fun g => { g with state := .cutting }))
  | idleBegun {f : Engine → Engine} {s : State} : s.engine.state = .preparing ∨ s.engine.state = .cutting →
    SetSilent s → (f s.engine).state = .cutting → (f s.engine).slot = s.engine.slot →
    (f s.engine).revPos = some .idle → Move s (s.modEngine f)
  | descriptorWritten (i : Fin 64) (d : RawDescriptor) {s : State} : s.slotInUse i = false →
    d.patches.length = d.patchCount.getD 0 →
    firstOffence (d.checks i) = none →
    Move s (s.modJob i fun _ => ⟨some d.build, StatusRecord.fresh d.build.heads⟩)
  | descriptorCleared (i : Fin 64) {s : State} : s.slotInUse i = false → Move s (s.modJob i fun _ => JobSlot.empty)
  | curveWritten (c : Fin 16) (k : Curve) (s : State) : Move s (s.withStore (storeWithCurve c k s))
  | paramsWritten (h : HeadId) (p : HeadParams) {s : State} : (s.headInUse h = true → p.fitted = true) →
    Move s (storeParams h p s)
  | segmentStored (h : HeadId) {d : Descriptor} {r offset : Nat} {tones : List Byte} {s : State} :
    s.ringBand h = some d → r < d.nr → (s.staging.heads.get h).nf = some r →
    segmentRefusal (s.staging.heads.get h) offset tones.length d.cut = none →
    Move s (modStaging h (HeadStaging.storeTones r tones) s)
  | fillingDropped (h : HeadId) {d : Descriptor} {s : State} : s.ringBand h = some d →
    Move s (modStaging h (HeadStaging.mapSlots RingSlot.dropFilling) s)
  | ringClosed (h : HeadId) {d : Descriptor} {r check : Nat} (mark : Bool) {s : State} : s.ringBand h = some d →
    r < d.nr → (s.staging.heads.get h).fillingOf = some (r, d.cut, check) →
    Move s (modStaging h (fun t => { t.mapSlots (RingSlot.close mark) with nf := t.nf.map fun n => n + 1 }) s)
  | ringsDiscarded (h : HeadId) {d : Descriptor} {s : State} : s.ringBand h = some d →
    Move s (modStaging h (HeadStaging.discard s.nextRing) s)

/-- The moves that lead from `s` to `t`. -/
abbrev Moves : State → State → Prop := Relation.ReflTransGen Move

theorem Move.moves {s t : State} (m : Move s t) : Moves s t := .single m

theorem Moves.rfl {s : State} : Moves s s := .refl

/-- A law that every move keeps. -/
theorem Moves.keeps {I : State → Prop} (move : ∀ {s t}, Move s t → I s → I t) {s t : State} (m : Moves s t)
    (holds : I s) : I t := by
  induction m with
  | refl => exact holds
  | tail _ last ih => exact move last ih

/-! ### The engine's operations as moves -/

theorem PerHead.set_set {α : Type} (p : PerHead α) (h : HeadId) (a b : α) : (p.set h a).set h b = p.set h b := by
  cases h <;> rfl

/-- Two changes of one head controller are one. -/
theorem State.modHead_modHead (h : HeadId) (f g : HeadUnit → HeadUnit) (s : State) :
    (s.modHead h f).modHead h g = s.modHead h fun u => g (f u) := by
  simp only [State.modHead, State.withHeads_heads, PerHead.get_set_self, PerHead.set_set]
  rfl

theorem modHead_moves {h : HeadId} {f : HeadUnit → HeadUnit} {s : State}
    (step : HeadStep (s.heads.get h) (f (s.heads.get h))) : Moves s (s.modHead h f) := by
  refine Move.moves (.heads fun k => ?_)
  rw [PerHead.get_set]
  split
  · next same => exact same ▸ step
  · exact .rfl _

theorem silenceSet_moves (s : State) : Moves s (silenceSet s) := by
  have heads : Move s (s.withHeads (s.heads.mapH fun h u => if s.headInUse h then { u with drive := 0 } else u)) := by
    refine .heads fun h => ?_
    rw [PerHead.get_mapH]
    split
    · exact .silence _
    · exact .rfl _
  refine heads.moves.tail (.cells fun h => ?_)
  rw [PerHead.get_mapH]
  split
  · exact .inr rfl
  · exact .inl rfl

theorem liftSet_moves (s : State) : Moves s (liftSet s) := by
  refine Move.moves (.heads fun h => ?_)
  rw [PerHead.get_mapH]
  split
  · exact .lift _ _ _
  · exact .rfl _

theorem lowerSet_moves (s : State) : Moves s (lowerSet s) := by
  refine Move.moves (.heads fun h => ?_)
  rw [PerHead.get_mapH]
  split
  · exact .lower _ _ _
  · exact .rfl _

theorem leaveEndingPlain_moves (s : State) : Moves s (leaveEndingPlain s) := by
  unfold leaveEndingPlain
  split
  · next h => exact Move.moves (.ended _ h.1)
  · exact .rfl

theorem stopBand_moves (c : StopCause) {s : State} (runs : s.engine.state.abortable = true)
    (whole : s.ringBeingCut = false) : Moves s (stopBand c s) :=
  (Move.moves (.stopped c runs whole)).trans (leaveEndingPlain_moves _)

theorem postDueStall_moves (s : State) : Moves s (postDueStall s) := by
  unfold postDueStall
  split
  · split
    · exact (Move.moves (.post _ s)).tail (.post _ _)
    · exact Move.moves (.post _ s)
  · exact .rfl

theorem postDueStall_modGrid (f : Grid → Grid) (s : State) :
    postDueStall (s.modGrid f) = (postDueStall s).modGrid f := by
  unfold postDueStall
  rw [State.modGrid_sup]
  by_cases due : s.sup.active = true ∧ faultThreshold s.sup.limit ≤ s.sup.stall
  · rw [if_pos due, if_pos due]
    cases s.sup.warnArmed <;> rfl
  · rw [if_neg due, if_neg due]

/-- An abort that is taken with the grid changed, as at an index, stops the grid all the same. -/
theorem abort_modGrid_moves (c : EndCause) (h : Option HeadId) (f : Grid → Grid) {s : State}
    (runs : s.engine.state.abortable = true) : Moves s (abort c h (s.modGrid f)) := by
  rw [abort_eq, State.modGrid_engine, if_pos runs, postDueStall_modGrid]
  have posted : (postDueStall s).engine.state.abortable = true := by rwa [postDueStall_engine]
  exact (postDueStall_moves s).trans ((Move.moves (.aborted c h f posted)).trans (leaveEndingPlain_moves _))

theorem abort_moves (c : EndCause) (h : Option HeadId) (s : State) : Moves s (abort c h s) := by
  by_cases runs : s.engine.state.abortable = true
  · exact abort_modGrid_moves c h id runs
  · rw [abort_eq, if_neg runs]

theorem requestCarriage_moves (d : Descriptor) (s : State) : Moves s (requestCarriage d s) := by
  unfold requestCarriage
  split
  · exact .rfl
  · exact Move.moves (.counters rfl rfl rfl)

theorem placeCarriage_moves (d : Descriptor) (s : State) : Moves s (placeCarriage d s) := by
  unfold placeCarriage
  split
  · exact .rfl
  · split
    · exact Move.moves (.counters rfl rfl rfl)
    · exact requestCarriage_moves d s
  · exact requestCarriage_moves d s

theorem prepareActions_moves (d : Descriptor) (s : State) : Moves s (prepareActions d s) := by
  unfold prepareActions
  dsimp only
  refine Relation.ReflTransGen.trans ?_ ((Move.moves (.counters rfl rfl rfl)).trans (placeCarriage_moves d _))
  split
  · exact .refl
  · exact lowerSet_moves s

/-- From the state in which the engine has been set to PREPARING, what follows its entry (R130). -/
theorem enterPreparing_moves (chained : Bool) (s : State) :
    Moves (s.modEngine fun g => { g with state := .preparing, hold := none }) (enterPreparing chained s) := by
  unfold enterPreparing
  dsimp only
  repeat' split
  · exact abort_moves _ _ _
  · exact abort_moves _ _ _
  · exact stopBand_moves _ rfl rfl
  · exact prepareActions_moves _ _
  · exact .rfl

theorem chain_moves (m : Fin 64) {s : State} (ending : s.engine.state = .ending) : Moves s (chain m s) := by
  unfold chain
  dsimp only
  split
  · next d desc qualifies =>
    refine (Move.moves (.chained ending desc ?_)).trans (enterPreparing_moves true _)
    unfold State.qualifies at qualifies
    rw [desc] at qualifies
    simp only [Bool.and_eq_true, beq_iff_eq] at qualifies
    exact qualifies.1.1.1
  · exact Move.moves (.ended .chainStopped ending)

theorem leaveEnding_moves (s : State) : Moves s (leaveEnding s) := by
  unfold leaveEnding
  split
  · next rest =>
    split
    · split
      · exact chain_moves _ rest.1
      · exact Move.moves (.ended _ rest.1)
    · exact Move.moves (.ended _ rest.1)
  · exact .rfl

theorem enterHeld_moves (r : HoldReason) {s : State} (runs : s.engine.state.abortable = true)
    (whole : s.ringBeingCut = false) : Moves s (enterHeld r s) :=
  (liftSet_moves s).trans ((Move.moves (.held r (s := liftSet s) runs whole)).tail (.post _ _))

theorem reportFault_moves (h : HeadId) (c : HeadCause) (s : State) : Moves s (reportFault h c s) := by
  unfold reportFault
  repeat' split
  · exact leaveEnding_moves s
  · exact abort_moves _ _ s
  · exact .rfl

/-- Head `h`, after the change `f` of its levels, enters FAULTED. -/
theorem faultHead_moves {h : HeadId} (c : HeadCause) {f : HeadUnit → HeadUnit} {s : State}
    (step : HeadStep (s.heads.get h) ((f (s.heads.get h)).fault c)) : Moves s (faultHead h c (s.modHead h f)) := by
  unfold faultHead
  rw [State.modHead_modHead]
  exact (modHead_moves step).trans ((Move.moves (.post _ _)).trans (reportFault_moves h c _))

theorem headsReady_moves (s : State) : Moves s (headsReady s) := by
  unfold headsReady
  repeat' split
  · exact Move.moves (.counters rfl rfl rfl)
  all_goals exact .rfl

theorem headMoved_moves (h : HeadId) (s : State) : Moves s (headMoved h s) := by
  unfold headMoved
  repeat' split
  · exact leaveEnding_moves s
  · exact headsReady_moves s
  all_goals exact .rfl

/-! ### The position line's steps as moves (R9, R33, R137, R138) -/

@[simp] theorem counted_nextRing (acc : Nat) (s : State) : (counted acc s).nextRing = s.nextRing := rfl

@[simp] theorem counted_band (acc : Nat) (s : State) : (counted acc s).band = s.band := rfl

@[simp] theorem counted_ringBeingCut (acc : Nat) (s : State) : (counted acc s).ringBeingCut = s.ringBeingCut := rfl

/-- Boundary L of a cutting revolution. -/
theorem boundaryL_moves {d : Descriptor} {acc : Nat} {s : State} (carries : Carries d acc s) (cutting : s.ringBeingCut = true)
    (last : s.grid.boundaries = d.cut) : Moves s (boundaryL d (counted acc s)) := by
  have runs : (ringEnded d (counted acc s)).engine.state.abortable = true := by
    simp only [State.ringBeingCut, Bool.and_eq_true, beq_iff_eq] at cutting
    have state : (ringEnded d (counted acc s)).engine.state = s.engine.state := by
      unfold ringEnded
      split <;> simp [counted]
    rw [state, cutting.1]
    rfl
  have whole : (ringEnded d (counted acc s)).ringBeingCut = false := by
    simp [State.ringBeingCut, ringEnded]
  rw [boundaryL_eq]
  split
  · next done =>
    rw [counted_nextRing] at done
    exact (Move.moves (.bandDone carries cutting last done)).trans (leaveEnding_moves _)
  · next more =>
    rw [counted_nextRing] at more
    refine (Move.moves (.ringDone carries cutting last more)).trans ?_
    repeat' split
    · exact stopBand_moves _ runs whole
    · exact enterHeld_moves _ runs whole
    · exact enterHeld_moves _ runs whole
    · exact requestCarriage_moves d _

/-- A carry's boundary, in every revolution. -/
theorem boundary_moves {d : Descriptor} {acc : Nat} {s : State} (carries : Carries d acc s) :
    Moves s (boundary s.grid.boundaries (counted acc s)) := by
  have band : (counted acc s).band = some d := (counted_band acc s).trans carries.band
  have cut := counted_ringBeingCut acc s
  rcases boundary_cases s.grid.boundaries d (counted acc s) band with
    ⟨cutting, below, same⟩ | ⟨cutting, last, same⟩ | ⟨idle, below, same⟩ | ⟨above, same⟩ <;> rw [same]
  · exact Move.moves (.latched carries (cut ▸ cutting) below)
  · exact boundaryL_moves carries (cut ▸ cutting) last
  · exact (Move.moves (.passed carries fun h => absurd (cut ▸ h) (Bool.eq_false_iff.mp idle))).trans (silenceSet_moves _)
  · refine Move.moves (.passed carries fun h => ?_)
    rcases above with above | ⟨idle, -⟩
    · exact above
    · exact absurd (cut ▸ h) (Bool.eq_false_iff.mp idle)

/-- A grid step whose carry leaves accumulator `acc`. -/
def carryStep (acc : Nat) (d : Descriptor) (s : State) : State :=
  if s.grid.boundaries ≤ d.nc then boundary s.grid.boundaries (counted acc s) else s.modGrid fun g => { g with acc := acc }

/-- The grid step with its accumulator's sum `n` and the steps `p` of a revolution as variables, so that no proof
evaluates the subtraction. -/
theorem gridStep_split (n p : Nat) (d : Descriptor) (s : State) :
    (if n < p then s.modGrid fun g => { g with acc := n }
      else
        let t := s.modGrid fun g => { g with acc := n - p }
        if s.grid.boundaries ≤ d.nc then
          boundary s.grid.boundaries (t.modGrid fun g => { g with boundaries := g.boundaries + 1 })
        else t) =
      if n < p then s.modGrid fun g => { g with acc := n } else carryStep (n - p) d s := by
  rfl

theorem gridStep_eq (d : Descriptor) (s : State) :
    gridStep d s = if s.grid.acc + d.nc < Config.stepsPerRev then s.modGrid fun g => { g with acc := s.grid.acc + d.nc }
      else carryStep (s.grid.acc + d.nc - Config.stepsPerRev) d s :=
  gridStep_split (s.grid.acc + d.nc) Config.stepsPerRev d s

theorem gridStep_of_no_carry {d : Descriptor} {s : State} (below : s.grid.acc + d.nc < Config.stepsPerRev) :
    gridStep d s = s.modGrid fun g => { g with acc := s.grid.acc + d.nc } := by
  rw [gridStep_eq, if_pos below]

theorem gridStep_of_carry {d : Descriptor} {s : State} (carry : ¬ s.grid.acc + d.nc < Config.stepsPerRev) :
    gridStep d s = carryStep (s.grid.acc + d.nc - Config.stepsPerRev) d s := by
  rw [gridStep_eq, if_neg carry]

theorem carryStep_moves {d : Descriptor} {acc : Nat} {s : State} (running : s.grid.state = .running)
    (band : s.band = some d) (carry : acc + Config.stepsPerRev = s.grid.acc + d.nc) : Moves s (carryStep acc d s) := by
  unfold carryStep
  split
  · next counts => exact boundary_moves ⟨running, band, carry, counts⟩
  · exact Move.moves (.accumulated d acc running band (.inr carry))

/-- A grid step by what becomes of the accumulator: no carry, a carry that makes a boundary, or one past Nc + 1 (R9). -/
theorem gridStep_moves {d : Descriptor} {s : State} (running : s.grid.state = .running) (band : s.band = some d) :
    Moves s (gridStep d s) := by
  by_cases below : s.grid.acc + d.nc < Config.stepsPerRev
  · rw [gridStep_of_no_carry below]
    exact Move.moves (.accumulated d _ running band (.inl ⟨rfl, below⟩))
  · rw [gridStep_of_carry below]
    exact carryStep_moves running band (Nat.sub_add_cancel (Nat.le_of_not_lt below))

theorem forwardStep_moves (s : State) : Moves s (forwardStep s) := by
  unfold forwardStep
  split
  · next d running band => exact gridStep_moves running band
  · exact .refl

theorem motionFault_moves (c : EndCause) (s : State) : Moves s (motionFault c s) :=
  (Move.moves (.post _ s)).trans (abort_moves c none _)

theorem passTimeTo_moves (a : Nat) (s : State) : Moves s (passTimeTo a s) := Move.moves (.time _ s)

theorem stepEvent_moves (dir : Direction) (a : Nat) (s : State) : Moves s (stepEvent dir a s) := by
  have moved : Moves s (stepStall ((passTimeTo a s).modGrid fun g =>
      { g with position := movePosition dir g.position })) := by
    refine (passTimeTo_moves a s).trans ((Move.moves (.position rfl rfl rfl)).tail (.sup fun quiet => ?_))
    split
    · next active => exact fun inactive => absurd (active.symm.trans inactive) (by decide)
    · exact quiet
  cases dir with
  | forward => exact moved.trans (forwardStep_moves _)
  | reverse =>
    unfold stepEvent
    dsimp only
    split
    · exact moved.trans (motionFault_moves _ _)
    · exact moved

/-! ### The index as moves (R8, R131, R134 to R136) -/

theorem countLate_moves (s : State) : Moves s (countLate s) := by
  unfold countLate
  split
  · exact Move.moves (.counters rfl rfl rfl)
  · exact .refl

theorem judgeRevolution_moves (d : Descriptor) (s : State) : Moves s (judgeRevolution d s) := by
  unfold judgeRevolution
  dsimp only
  split
  · exact Move.moves (.counters rfl rfl rfl)
  · refine (Move.moves (.post .speedDeviation s)).trans (Relation.ReflTransGen.tail ?_ (.counters rfl rfl rfl))
    split
    · exact Move.moves (.tally fun _ => ⟨rfl, rfl, rfl, rfl⟩)
    · exact .refl

theorem State.headInUse_of_engine {s t : State} (state : t.engine.state.isCurrent = s.engine.state.isCurrent)
    (slot : t.engine.slot = s.engine.slot) (desc : ∀ i : Fin 64, t.jobs[i].desc = s.jobs[i].desc) :
    t.headInUse = s.headInUse := by
  funext h
  unfold State.headInUse State.band
  rw [state, slot]
  cases s.engine.slot <;> simp only [desc]

theorem State.band_of_engine {s t : State} (state : t.engine.state.isCurrent = s.engine.state.isCurrent)
    (slot : t.engine.slot = s.engine.slot) (desc : ∀ i : Fin 64, t.jobs[i].desc = s.jobs[i].desc) :
    t.band = s.band := by
  unfold State.band
  rw [state, slot]
  cases s.engine.slot <;> simp only [desc]

end Sys2Proof.Machine
end

section
/-! SUPPORT. An index event as moves (R3, R8, R131, R134 to R136). -/

namespace Sys2Proof.Machine

/-! ### What silencing commutes with -/

/-- Silencing the heads `p` names. -/
def silence (p : HeadId → Bool) (s : State) : State :=
  (s.withHeads (s.heads.mapH fun h u => if p h then { u with drive := 0 } else u)).withCells
    (s.cells.mapH fun h c => if p h then { c with prepared := none } else c)

theorem silenceSet_eq (s : State) : silenceSet s = silence s.headInUse s := rfl

/-- A change that leaves the heads in use alone passes through the silencing of the set. -/
theorem silenceSet_comm {f : State → State} {s : State} (used : (f s).headInUse = s.headInUse)
    (comm : silence s.headInUse (f s) = f (silence s.headInUse s)) : silenceSet (f s) = f (silenceSet s) := by
  rw [silenceSet_eq, used, comm, ← silenceSet_eq]

theorem modRecord_desc (f : StatusRecord → StatusRecord) (s : State) (i : Fin 64) :
    (modRecord f s).jobs[i].desc = s.jobs[i].desc := by
  unfold modRecord
  split
  · next k _ =>
    simp only [State.modJob_jobs]
    by_cases same : k = i
    · subst same
      simp
    · have apart : (k : Nat) ≠ i := fun h => same (Fin.ext h)
      simp [apart]
  · rfl

theorem silenceSet_modEngine {f : Engine → Engine} {s : State}
    (state : (f s.engine).state.isCurrent = s.engine.state.isCurrent) (slot : (f s.engine).slot = s.engine.slot) :
    silenceSet (s.modEngine f) = (silenceSet s).modEngine f :=
  silenceSet_comm (f := fun t => t.modEngine f) (State.headInUse_of_engine state slot fun _ => rfl) rfl

theorem silenceSet_modGrid (f : Grid → Grid) (s : State) : silenceSet (s.modGrid f) = (silenceSet s).modGrid f := rfl

theorem silenceSet_postAll (e : EventKind) (s : State) : silenceSet (postAll e s) = postAll e (silenceSet s) := rfl

theorem silenceSet_modRecord (f : StatusRecord → StatusRecord) (s : State) :
    silenceSet (modRecord f s) = modRecord f (silenceSet s) := by
  refine silenceSet_comm (State.headInUse_of_engine ?_ ?_ fun i => modRecord_desc f s i) ?_
  · simp
  · simp
  · have slot : (silence s.headInUse s).engine.slot = s.engine.slot := rfl
    unfold modRecord
    rw [slot]
    cases s.engine.slot <;> rfl

theorem silenceSet_judgeRevolution (d : Descriptor) (s : State) :
    silenceSet (judgeRevolution d s) = judgeRevolution d (silenceSet s) := by
  have grid : (silenceSet s).grid = s.grid := rfl
  have engine : (silenceSet s).engine = s.engine := rfl
  unfold judgeRevolution
  rw [grid, engine]
  split
  · exact silenceSet_modEngine rfl rfl
  · split
    · exact (silenceSet_modEngine rfl rfl).trans (by rw [silenceSet_modRecord, silenceSet_postAll])
    · exact silenceSet_modEngine rfl rfl

theorem silenceSet_silent (s : State) : SetSilent (silenceSet s) := by
  intro h used
  have used : s.headInUse h = true := used
  rw [silenceSet_head, silenceSet_cell, if_pos used, if_pos used]
  exact ⟨rfl, rfl⟩

/-! ### The engine in CUTTING -/

/-- The engine entering CUTTING, the position of the revolution not yet decided (R131). -/
def enterCutting (s : State) : State := s.modEngine fun g => { g with state := .cutting }

theorem enterCutting_of_cutting {s : State} (cutting : s.engine.state = .cutting) : enterCutting s = s := by
  obtain ⟨now, pins, grid, cells, store, heads, jobs, staging, engine, sup, custody, links, pending⟩ := s
  obtain ⟨state, slot, ring, pos, pause, stop, dataIdle, dev, run, count, hold, target, late, arrived, last, mounted⟩ :=
    engine
  subst cutting
  rfl

theorem modRecord_enterCutting (f : StatusRecord → StatusRecord) (s : State) :
    modRecord f (enterCutting s) = enterCutting (modRecord f s) := by
  unfold modRecord
  have slot : (enterCutting s).engine.slot = s.engine.slot := rfl
  rw [slot]
  cases s.engine.slot <;> rfl

theorem postAll_enterCutting (e : EventKind) (s : State) :
    postAll e (enterCutting s) = enterCutting (postAll e s) := rfl

theorem judgeRevolution_enterCutting (d : Descriptor) (s : State) :
    judgeRevolution d (enterCutting s) = enterCutting (judgeRevolution d s) := by
  have grid : (enterCutting s).grid = s.grid := rfl
  have pos : (enterCutting s).engine.revPos = s.engine.revPos := rfl
  unfold judgeRevolution
  rw [grid, pos]
  by_cases inside : judgeSpeed d.texp d.speedTol s.grid.lastPeriod = .inside
  · rw [if_pos inside, if_pos inside]
    rfl
  · rw [if_neg inside, if_neg inside, postAll_enterCutting]
    by_cases seam : s.engine.revPos = some .seam
    · simp only [if_pos seam, modRecord_enterCutting]
      rfl
    · simp only [if_neg seam]
      rfl

theorem silenceSet_enterCutting {s : State} (runs : s.engine.state = .preparing ∨ s.engine.state = .cutting) :
    silenceSet (enterCutting s) = enterCutting (silenceSet s) := by
  refine silenceSet_modEngine ?_ rfl
  rcases runs with state | state <;> simp [state, EngineState.isCurrent]

theorem enterCutting_state (s : State) : (enterCutting s).engine.state = .cutting := rfl

/-- A silenced set with the grid preset: what a decision starts from (R31, R136). -/
structure Poised (d : Descriptor) (s : State) : Prop where
  runs : s.engine.state = .preparing ∨ s.engine.state = .cutting
  band : s.band = some d
  silent : SetSilent s
  fresh : s.grid.state = .running → s.grid.boundaries = 0

/-- A change that moves no part a decision starts from. -/
theorem Poised.of_eq {d : Descriptor} {s t : State} (p : Poised d s) (state : t.engine.state = s.engine.state)
    (slot : t.engine.slot = s.engine.slot) (desc : ∀ i : Fin 64, t.jobs[i].desc = s.jobs[i].desc)
    (heads : t.heads = s.heads) (cells : t.cells = s.cells) (grid : t.grid = s.grid) : Poised d t where
  runs := by rw [state]; exact p.runs
  band := (State.band_of_engine (by rw [state]) slot desc).trans p.band
  silent h used := by
    rw [State.headInUse_of_engine (by rw [state]) slot desc] at used
    rw [heads, cells]
    exact p.silent h used
  fresh := by rw [grid]; exact p.fresh

theorem Poised.modRecord {d : Descriptor} {s : State} (p : Poised d s) (f : StatusRecord → StatusRecord) :
    Poised d (modRecord f s) :=
  p.of_eq (by simp) (by simp) (modRecord_desc f s) (by simp) (by simp) (by simp)

theorem Poised.modEngine {d : Descriptor} {s : State} (p : Poised d s) {f : Engine → Engine}
    (state : (f s.engine).state = s.engine.state) (slot : (f s.engine).slot = s.engine.slot) :
    Poised d (s.modEngine f) :=
  p.of_eq state slot (fun _ => rfl) rfl rfl rfl

theorem Poised.judgeRevolution {d : Descriptor} {s : State} (p : Poised d s) : Poised d (judgeRevolution d s) := by
  unfold Machine.judgeRevolution
  dsimp only
  split
  · exact p.modEngine rfl rfl
  · have posted : Poised d (postAll .speedDeviation s) := p.of_eq rfl rfl (fun _ => rfl) rfl rfl rfl
    split
    · exact (posted.modRecord _).modEngine rfl rfl
    · exact posted.modEngine rfl rfl

/-- The decision once the set is silent (R136). -/
def decideSilent (d : Descriptor) (t : State) : State :=
  if !t.dataReady d t.nextRing then beginIdle d true t
  else if !t.engine.arrived then beginIdle d false t
  else if 0 < t.engine.speedDev then beginIdle d false t
  else beginCutting d t

theorem decideRevolution_eq (d : Descriptor) (s : State) : decideRevolution d s = decideSilent d (silenceSet s) := rfl

/-- The engine entering CUTTING in position IDLE, the data-idle counter changed by `f` (R136). -/
def enterIdle (f : Nat → Nat) (s : State) : State :=
  s.modEngine fun g => { g with state := .cutting, revPos := some .idle, dataIdle := f g.dataIdle }

theorem beginIdle_moves {d : Descriptor} {s : State} (poised : Poised d s) (noData : Bool) :
    Moves s (beginIdle d noData (enterCutting s)) := by
  unfold beginIdle
  rw [modRecord_enterCutting]
  have counted := poised.modRecord fun r => { r with idleRevs := countUp r.idleRevs }
  refine (Move.moves (.tally (f := fun r => { r with idleRevs := countUp r.idleRevs }) fun _ =>
    ⟨rfl, rfl, rfl, rfl⟩)).trans ?_
  generalize modRecord (fun r => { r with idleRevs := countUp r.idleRevs }) s = t at counted ⊢
  have idle : ((enterCutting t).modEngine fun g =>
      { g with revPos := some .idle, dataIdle := if noData then min 255 (g.dataIdle + 1) else g.dataIdle }) =
    enterIdle (fun n => if noData then min 255 (n + 1) else n) t := rfl
  have entered := Move.moves (.idleBegun counted.runs counted.silent rfl rfl rfl (f := fun g =>
    { g with
      state := .cutting, revPos := some .idle, dataIdle := if noData then min 255 (g.dataIdle + 1) else g.dataIdle }))
  rw [idle]
  refine Relation.ReflTransGen.trans (b := enterIdle (fun n => if noData then min 255 (n + 1) else n) t) entered ?_
  have runs : (enterIdle (fun n => if noData then min 255 (n + 1) else n) t).engine.state.abortable = true := rfl
  have whole : (enterIdle (fun n => if noData then min 255 (n + 1) else n) t).ringBeingCut = false := rfl
  generalize enterIdle (fun n => if noData then min 255 (n + 1) else n) t = u at runs whole
  dsimp only
  repeat' split
  · exact enterHeld_moves .speed runs whole
  · exact enterHeld_moves .starved runs whole
  · exact enterHeld_moves .pauseRequest runs whole
  · exact .refl

theorem decideSilent_moves {d : Descriptor} {s : State} (poised : Poised d s) :
    Moves s (decideSilent d (enterCutting s)) := by
  unfold decideSilent
  split
  · exact beginIdle_moves poised true
  · next ready =>
    have same : (enterCutting s).dataReady d (enterCutting s).nextRing = s.dataReady d s.nextRing := rfl
    have ready : s.dataReady d s.nextRing = true := by simpa [same] using ready
    split
    · exact beginIdle_moves poised false
    · split
      · exact beginIdle_moves poised false
      · exact Move.moves (.cuttingBegun poised.runs poised.band ready poised.silent poised.fresh)

/-- From a poised part, the revolution that has ended is judged and the next one decided. -/
theorem judged_moves {d : Descriptor} {s : State} (poised : Poised d s) :
    Moves s (decideSilent d (judgeRevolution d (enterCutting s))) := by
  rw [judgeRevolution_enterCutting]
  exact (judgeRevolution_moves d s).trans (decideSilent_moves poised.judgeRevolution)

/-! ### The index -/

theorem Grid.index_fresh (now preset : Nat) (g : Grid) (running : (g.index now preset).state = .running) :
    (g.index now preset).boundaries = 0 := by
  unfold Grid.index at running ⊢
  by_cases stopped : g.state = .stopped <;> simp_all

theorem poised_index {d : Descriptor} {s : State} (runs : s.engine.state = .preparing ∨ s.engine.state = .cutting)
    (band : s.band = some d) (now preset : Nat) : Poised d ((silenceSet s).modGrid (Grid.index now preset)) where
  runs := runs
  band := band
  silent := silenceSet_silent s
  fresh := Grid.index_fresh now preset s.grid

theorem countLate_modGrid (f : Grid → Grid) (s : State) : countLate (s.modGrid f) = (countLate s).modGrid f := by
  unfold countLate
  rw [State.modGrid_engine]
  split <;> rfl

theorem countLate_engine (s : State) :
    (countLate s).engine = { s.engine with late := (countLate s).engine.late } := by
  unfold countLate
  split <;> rfl

theorem countLate_state (s : State) : (countLate s).engine.state = s.engine.state := by rw [countLate_engine]

theorem countLate_band (s : State) : (countLate s).band = s.band := by
  refine State.band_of_engine ?_ ?_ fun i => ?_
  · rw [countLate_engine]
  · rw [countLate_engine]
  · unfold countLate
    split <;> rfl

/-- The preset at an index with the ring and the stagger of the part. -/
theorem preset_moves (now r g : Nat) {s : State} (whole : s.ringBeingCut = true → SetSilent s) :
    Moves s (s.modGrid (Grid.index now (presetFor r g))) := Move.moves (.preset now r g whole)

theorem cuttingIndex_moves (c : IndexClass) {d : Descriptor} {s : State} (cutting : s.engine.state = .cutting)
    (band : s.band = some d) (now r g : Nat) :
    Moves s (cuttingIndex c d (s.modGrid (Grid.index now (presetFor r g)))) := by
  unfold cuttingIndex
  dsimp only
  split
  · exact abort_modGrid_moves _ _ _ (by rw [cutting]; rfl)
  · rw [countLate_modGrid]
    refine (countLate_moves s).trans ?_
    have cutting : (countLate s).engine.state = .cutting := by rw [countLate_state, cutting]
    have band : (countLate s).band = some d := by rw [countLate_band, band]
    generalize countLate s = t at cutting band ⊢
    split
    · exact abort_modGrid_moves _ _ _ (by rw [cutting]; rfl)
    · have poised := poised_index (.inr cutting) band now (presetFor r g)
      have entered : enterCutting ((silenceSet t).modGrid (Grid.index now (presetFor r g))) =
        (silenceSet t).modGrid (Grid.index now (presetFor r g)) := enterCutting_of_cutting cutting
      have judged := judged_moves poised
      rw [entered, ← silenceSet_modGrid, ← silenceSet_judgeRevolution, ← decideRevolution_eq] at judged
      exact (silenceSet_moves t).trans ((preset_moves now r g fun _ => silenceSet_silent t).trans judged)

theorem heldIndex_moves (s : State) : Moves s (heldIndex s) := by
  unfold heldIndex
  dsimp only
  refine (countLate_moves s).trans ?_
  split
  · exact abort_moves _ _ _
  · exact .refl

theorem countSettle_moves (d : Descriptor) (s : State) : Moves s (countSettle d s) :=
  Move.moves (.counters rfl rfl rfl)

theorem preparingIndex_moves {d : Descriptor} {s : State} (preparing : s.engine.state = .preparing)
    (band : s.band = some d) (fresh : s.grid.state = .running → s.grid.boundaries = 0) :
    Moves s (preparingIndex d s) := by
  unfold preparingIndex
  dsimp only
  refine (countLate_moves s).trans ?_
  have preparing : (countLate s).engine.state = .preparing := by rw [countLate_state, preparing]
  have band : (countLate s).band = some d := by rw [countLate_band, band]
  have fresh : (countLate s).grid.state = .running → (countLate s).grid.boundaries = 0 := by simpa using fresh
  generalize countLate s = t at preparing band fresh ⊢
  split
  · exact abort_moves _ _ _
  · refine (countSettle_moves d t).trans ?_
    have preparing : (countSettle d t).engine.state = .preparing := preparing
    have band : (countSettle d t).band = some d := band
    have fresh : (countSettle d t).grid.state = .running → (countSettle d t).grid.boundaries = 0 := fresh
    generalize countSettle d t = u at preparing band fresh ⊢
    split
    · have poised : Poised d (silenceSet u) := ⟨.inl preparing, band, silenceSet_silent u, fresh⟩
      have judged := judged_moves poised
      rw [← silenceSet_enterCutting (.inl preparing), ← silenceSet_judgeRevolution, ← decideRevolution_eq] at judged
      exact (silenceSet_moves u).trans judged
    · split
      · refine enterHeld_moves .speed ?_ ?_
        · rw [preparing]
          rfl
        · simp [State.ringBeingCut, preparing]
      · exact .refl

theorem engineIndex_moves (c : IndexClass) (now r g : Nat) (s : State) :
    Moves s (engineIndex c (s.modGrid (Grid.index now (presetFor r g)))) := by
  have same : (s.modGrid (Grid.index now (presetFor r g))).band = s.band := rfl
  have idle : s.engine.state ≠ .cutting → s.ringBeingCut = true → SetSilent s := by
    intro other cutting
    simp [State.ringBeingCut, other] at cutting
  unfold engineIndex
  rw [same, State.modGrid_engine]
  split
  · next no_band =>
    refine preset_moves now r g fun _ h used => ?_
    simp [State.headInUse, no_band] at used
  · next d band =>
    cases state : s.engine.state with
    | preparing =>
      exact (preset_moves now r g (idle (by simp [state]))).trans
        (preparingIndex_moves state band (Grid.index_fresh now _ s.grid))
    | cutting => exact cuttingIndex_moves c state band now r g
    | held => exact (preset_moves now r g (idle (by simp [state]))).trans (heldIndex_moves _)
    | idle => exact preset_moves now r g (idle (by simp [state]))
    | armed => exact preset_moves now r g (idle (by simp [state]))
    | ending => exact preset_moves now r g (idle (by simp [state]))
    | ended => exact preset_moves now r g (idle (by simp [state]))

theorem indexEvent_moves (a : Nat) (s : State) : Moves s (indexEvent a s) := by
  unfold indexEvent
  dsimp only
  refine (passTimeTo_moves a s).trans ?_
  generalize passTimeTo a s = t
  split
  · exact (Move.moves (.post .motionFault t)).trans (engineIndex_moves _ _ _ _ (postAll .motionFault t))
  · exact engineIndex_moves _ _ _ _ t

end Sys2Proof.Machine
end

section
/-! SUPPORT. Every command as moves: a command that is no master reset and sets no stylus count comes to moves of the
blocks and to changes beside them. -/

namespace Sys2Proof.Machine

/-- The blocks that the invariants of a band speak of: the time base, the levels, the supervisor, custody, the link units
and the queue are not among them. -/
def State.blocks (s : State) :
    Grid × PerHead CellUnit × Store × PerHead HeadUnit × Vector JobSlot 64 × Staging × Engine :=
  (s.grid, s.cells, s.store, s.heads, s.jobs, s.staging, s.engine)

/-- The blocks are the same. -/
def SameBlocks (s t : State) : Prop := t.blocks = s.blocks

section
variable {s t : State} (same : SameBlocks s t)
include same

theorem SameBlocks.grid : t.grid = s.grid := congrArg (fun b => b.1) same

theorem SameBlocks.cells : t.cells = s.cells := congrArg (fun b => b.2.1) same

theorem SameBlocks.store : t.store = s.store := congrArg (fun b => b.2.2.1) same

theorem SameBlocks.heads : t.heads = s.heads := congrArg (fun b => b.2.2.2.1) same

theorem SameBlocks.jobs : t.jobs = s.jobs := congrArg (fun b => b.2.2.2.2.1) same

theorem SameBlocks.staging : t.staging = s.staging := congrArg (fun b => b.2.2.2.2.2.1) same

theorem SameBlocks.engine : t.engine = s.engine := congrArg (fun b => b.2.2.2.2.2.2) same

end

/-- From `s` to `t` by moves of the blocks and by changes beside them. -/
abbrev Course : State → State → Prop := Relation.ReflTransGen fun s t => Move s t ∨ SameBlocks s t

theorem Moves.course {s t : State} (m : Moves s t) : Course s t := by
  induction m with
  | refl => exact .refl
  | tail _ last ih => exact ih.tail (.inl last)

theorem Move.course {s t : State} (m : Move s t) : Course s t := m.moves.course

theorem SameBlocks.course {s t : State} (same : SameBlocks s t) : Course s t := .single (.inr same)

/-- A law of the blocks that every move keeps. -/
theorem Course.keeps {I : State → Prop} (aside : ∀ {s t}, SameBlocks s t → I s → I t)
    (move : ∀ {s t}, Move s t → I s → I t) {s t : State} (course : Course s t) (holds : I s) : I t := by
  induction course with
  | refl => exact holds
  | tail _ last ih => exact last.elim (fun m => move m ih) fun same => aside same ih

/-! ### Supervision and the transmitters -/

theorem supervise_move (s : State) : Move s (supervise s) := by
  refine .sup fun quiet => ?_
  split
  · exact quiet
  · exact fun _ => ⟨rfl, rfl⟩

theorem transmitAll_same (s : State) : SameBlocks s (transmitAll s) := rfl

theorem settle_course {s t : State} (course : Course s t) : Course s (settle t) :=
  (course.tail (.inl (supervise_move t))).tail (.inr (transmitAll_same (supervise t)))

theorem supervise_course {s t : State} (moves : Moves s t) : Course s (supervise t) :=
  Moves.course (moves.tail (supervise_move t))

/-! ### The machine lines -/

theorem carriageArrival_moves (p : Nat) (s : State) : Moves s (carriageArrival p s) := by
  unfold carriageArrival
  split
  · split
    · exact Move.moves (.counters rfl rfl rfl)
    · exact abort_moves _ _ _
  · exact .refl

theorem passTimeTo_heads (a : Nat) (s : State) : (passTimeTo a s).heads = s.heads := rfl

/-- Head `h` of a state that is not OFFLINE enters FAULTED with its levels as they are. -/
theorem faultHead_moves_of_fitted {h : HeadId} (c : HeadCause) {s : State} (fitted : (s.heads.get h).state ≠ .offline) :
    Moves s (faultHead h c s) := by
  have step : HeadStep (s.heads.get h) ((s.heads.get h).fault c) := .fault c fitted rfl
  unfold faultHead
  exact (modHead_moves step).trans ((Move.moves (.post _ _)).trans (reportFault_moves h c _))

theorem lowerTimeoutExpiry_moves (h : HeadId) (s : State) : Moves s (lowerTimeoutExpiry h s) := by
  unfold lowerTimeoutExpiry
  split
  · next a lowering _ =>
    refine (passTimeTo_moves a s).trans (faultHead_moves_of_fitted _ ?_)
    rw [passTimeTo_heads, lowering]
    decide
  · exact .refl

theorem liftTimeoutExpiry_moves (h : HeadId) (s : State) : Moves s (liftTimeoutExpiry h s) := by
  unfold liftTimeoutExpiry
  split
  · next a lifting _ =>
    refine (passTimeTo_moves a s).trans (faultHead_moves_of_fitted _ ?_)
    rw [passTimeTo_heads, lifting]
    decide
  · exact .refl

theorem checkWarn_moves (s : State) : Moves s (checkWarn s) := by
  unfold checkWarn
  split
  · next due =>
    refine (Move.moves (.post _ s)).tail (.sup fun _ inactive => ?_)
    exact absurd (due.1.symm.trans inactive) (by decide)
  · exact .refl

theorem checkStall_moves (s : State) : Moves s (checkStall s) := by
  unfold checkStall
  split
  · exact motionFault_moves _ s
  · exact .refl

theorem stallWarn_moves (s : State) : Moves s (stallWarn s) := by
  unfold stallWarn
  split
  · exact (Move.moves (.time _ s)).trans (checkWarn_moves _)
  · exact .refl

theorem motionStall_moves (s : State) : Moves s (motionStall s) := by
  unfold motionStall
  split
  · exact (Move.moves (.time _ s)).trans ((checkWarn_moves _).trans (checkStall_moves _))
  · exact .refl

theorem LineOp.moves {c : Instr} {f : State → State} (op : LineOp c f) (s : State) : Moves s (f s) := by
  cases op with
  | stepEvent dir a => exact stepEvent_moves dir a s
  | indexEvent a => exact indexEvent_moves a s
  | carriageArrival p => exact carriageArrival_moves p s
  | lowerTimeoutExpiry h => exact lowerTimeoutExpiry_moves h s
  | liftTimeoutExpiry h => exact liftTimeoutExpiry_moves h s
  | stallWarn => exact stallWarn_moves s
  | motionStall => exact motionStall_moves s

theorem indexTimingExpiry_moves (s : State) : Moves s (indexTimingExpiry s) := by
  unfold indexTimingExpiry
  split
  · exact (passTimeTo_moves _ s).tail (.position rfl rfl rfl)
  · exact .refl

/-! ### The head ports -/

/-- Head `h` moves by `f`, and the engine is told. -/
theorem headMoved_modHead_moves {h : HeadId} {f : HeadUnit → HeadUnit} {s : State}
    (step : HeadStep (s.heads.get h) (f (s.heads.get h))) : Moves s (headMoved h (s.modHead h f)) :=
  (modHead_moves step).trans (headMoved_moves h _)

theorem modHead_head (h : HeadId) (f : HeadUnit → HeadUnit) (s : State) :
    (s.modHead h f).heads.get h = f (s.heads.get h) := by
  cases h <;> rfl

theorem senseOn_moves (h : HeadId) {s : State} (off : (s.heads.get h).landed = false) :
    Moves s (senseOn h (s.modHead h fun x => { x with landed := true })) := by
  have changes : (s.heads.get h).landed ≠ true := by simp [off]
  unfold senseOn
  rw [modHead_head]
  cases state : (s.heads.get h).state with
  | lowering =>
    simp only [State.modHead_modHead]
    exact headMoved_modHead_moves (.land state)
  | lifted =>
    simp only [State.modHead_modHead]
    exact headMoved_modHead_moves (.touch _ _ state)
  | offline => exact modHead_moves (.sense changes (.inl state))
  | faulted => exact modHead_moves (.sense changes (.inr (.inl state)))
  | engaged => exact modHead_moves (.sense changes (.inr (.inr (.inl ⟨rfl, .inl state⟩))))
  | lifting => exact modHead_moves (.sense changes (.inr (.inr (.inl ⟨rfl, .inr state⟩))))

theorem senseOff_moves (h : HeadId) {s : State} (on : (s.heads.get h).landed = true) :
    Moves s (senseOff h (s.modHead h fun x => { x with landed := false })) := by
  have changes : (s.heads.get h).landed ≠ false := by simp [on]
  unfold senseOff
  rw [modHead_head]
  cases state : (s.heads.get h).state with
  | lifting =>
    simp only [State.modHead_modHead]
    exact headMoved_modHead_moves (.leave _ _ state)
  | engaged =>
    refine faultHead_moves _ (.fault _ ?_ rfl)
    rw [state]
    decide
  | offline => exact modHead_moves (.sense changes (.inl state))
  | faulted => exact modHead_moves (.sense changes (.inr (.inl state)))
  | lifted => exact modHead_moves (.sense changes (.inr (.inr (.inr ⟨rfl, .inl state⟩))))
  | lowering => exact modHead_moves (.sense changes (.inr (.inr (.inr ⟨rfl, .inr state⟩))))

theorem withPins_same (p : Pins) (s : State) : SameBlocks s (s.withPins p) := rfl

theorem landedSenseChange_course (h : HeadId) (on : Bool) (s : State) : Course s (landedSenseChange h on s) := by
  unfold landedSenseChange
  dsimp only
  have pins := (withPins_same { s.pins with landed := s.pins.landed.set h on } s).course
  split
  · exact pins
  · next changes =>
    simp only [Bool.or_eq_true, beq_iff_eq, not_or] at changes
    refine pins.trans (settle_course (Moves.course ?_))
    cases on with
    | true => exact senseOn_moves h (by simpa using changes.2)
    | false => exact senseOff_moves h (by simpa using changes.2)

theorem ampOn_moves (h : HeadId) (s : State) :
    Moves s (ampOn h (s.modHead h fun x => { x with ampFault := true })) := by
  have sensed := modHead_moves (h := h) (f := fun x => { x with ampFault := true }) (s := s) (.amp _ true)
  unfold ampOn
  rw [modHead_head]
  cases state : (s.heads.get h).state with
  | offline => exact sensed
  | faulted => exact sensed
  | _ =>
    refine sensed.trans (faultHead_moves_of_fitted .ampFault ?_)
    rw [modHead_head]
    exact state.symm ▸ (by decide)

theorem ampFaultChange_course (h : HeadId) (on : Bool) (s : State) : Course s (ampFaultChange h on s) := by
  unfold ampFaultChange
  dsimp only
  have pins := (withPins_same { s.pins with ampFault := s.pins.ampFault.set h on } s).course
  split
  · exact pins
  · refine pins.trans (settle_course (Moves.course ?_))
    cases on with
    | true => exact ampOn_moves h _
    | false => exact modHead_moves (f := fun x => { x with ampFault := false }) (.amp _ false)

/-! ### The cut-abort line -/

theorem modSup_filter_same (f : Supervisor → Supervisor) (s : State) : SameBlocks s (s.modSup f) := rfl

theorem cutAbortHeads_moves (s : State) : Moves s (cutAbortHeads s) := by
  have heads : Move s (s.withHeads (s.heads.mapH fun h u => { u.lift s.now (s.params h) with drive := 0 })) := by
    refine .heads fun h => ?_
    rw [PerHead.get_mapH]
    exact (HeadStep.lift _ _ _).trans (.silence _)
  refine heads.moves.tail (.cells fun h => .inr ?_)
  rw [PerHead.get_mapH]

theorem cutAbortHeads_emptyStaging (s : State) : cutAbortHeads (emptyStaging s) = emptyStaging (cutAbortHeads s) := rfl

theorem disarmBand_emptyStaging (s : State) : disarmBand (emptyStaging s) = disarmBand s := by
  have slot : (emptyStaging s).engine.slot = s.engine.slot := rfl
  unfold disarmBand modRecord
  rw [slot]
  cases s.engine.slot <;> rfl

theorem postDueStall_emptyStaging (s : State) : postDueStall (emptyStaging s) = emptyStaging (postDueStall s) := by
  have sup : (emptyStaging s).sup = s.sup := rfl
  unfold postDueStall
  rw [sup]
  by_cases due : s.sup.active = true ∧ faultThreshold s.sup.limit ≤ s.sup.stall
  · rw [if_pos due, if_pos due]
    cases s.sup.warnArmed <;> rfl
  · rw [if_neg due, if_neg due]

/-- The cut-abort reset's emptied staging with what the engine makes of it (R148). -/
theorem cutAbortEngine_moves (s : State) : Moves s (cutAbortEngine (emptyStaging s)) := by
  have engine : (emptyStaging s).engine = s.engine := rfl
  unfold cutAbortEngine
  rw [engine]
  split
  · next armed =>
    rw [disarmBand_emptyStaging]
    exact Move.moves (.disarmed armed)
  · next other =>
    rw [abort_eq, engine, postDueStall_emptyStaging]
    split
    · next runs =>
      have posted : (postDueStall s).engine.state.abortable = true := by rwa [postDueStall_engine]
      exact (postDueStall_moves s).trans ((Move.moves (.cutAborted _ posted)).trans (leaveEndingPlain_moves _))
    · next rests => exact Move.moves (.emptied (Bool.eq_false_iff.mpr rests) other)

theorem cutAbortReset_course (s : State) : Course s (cutAbortReset s) := by
  unfold cutAbortReset
  rw [cutAbortHeads_emptyStaging]
  exact (modSup_filter_same _ s).course.trans
    (Moves.course (((cutAbortHeads_moves _).trans (cutAbortEngine_moves _)).tail (.post _ _)))

theorem cutAbortQualified_course (s : State) : Course s (cutAbortQualified s) := by
  unfold cutAbortQualified
  split
  · next a _ => exact (passTimeTo_moves _ s).course.trans (settle_course (cutAbortReset_course _))
  · exact .refl
  · exact .refl

theorem cutAbortLineChange_course (asserted : Bool) (s : State) : Course s (cutAbortLineChange asserted s) := by
  unfold cutAbortLineChange
  dsimp only
  have pins := (withPins_same { s.pins with cutAbort := asserted } s).course
  split
  · exact pins
  · exact pins.tail (.inr (modSup_filter_same _ _))

/-! ### The links -/

theorem stopAtSeamWith_moves (c : StopCause) {s : State} (runs : s.engine.state.abortable = true) :
    Moves s (stopAtSeamWith c s) := by
  unfold stopAtSeamWith
  split
  · exact Move.moves (.counters rfl rfl rfl)
  · next whole => exact stopBand_moves c runs (Bool.eq_false_iff.mpr whole)

theorem machineLinkLost_moves (s : State) : Moves s (machineLinkLost s) := by
  unfold machineLinkLost
  split
  · next runs => exact stopAtSeamWith_moves _ runs
  · exact .refl

theorem modLink_same (l : LinkId) (f : LinkUnit → LinkUnit) (s : State) : SameBlocks s (s.modLink l f) := rfl

theorem postTo_same (l : LinkId) (e : EventKind) (s : State) : SameBlocks s (postTo l e s) := rfl

theorem withCustody_same (k : Option LinkId) (s : State) : SameBlocks s (s.withCustody k) := rfl

theorem releaseOnLoss_same (l : LinkId) (s : State) : SameBlocks s (releaseOnLoss l s) := by
  unfold releaseOnLoss
  split
  · exact withCustody_same none s
  · exact rfl

theorem setSignal_same (l : LinkId) (on : Bool) (s : State) : SameBlocks s (setSignal l on s) := rfl

theorem linkSignalLoss_course (l : LinkId) (s : State) : Course s (linkSignalLoss l s) := by
  unfold linkSignalLoss
  dsimp only
  refine (setSignal_same l false s).course.trans ?_
  split
  · refine (modLink_same l (fun _ => LinkUnit.reset) _).course.trans ((releaseOnLoss_same l _).course.trans ?_)
    refine settle_course ?_
    split
    · exact (machineLinkLost_moves _).course
    · exact .refl
  · exact .refl

theorem linkUp_course (l : LinkId) (s : State) : Course s (linkUp l s) := by
  unfold linkUp
  dsimp only
  refine (setSignal_same l true s).course.trans ?_
  split
  · exact .refl
  · exact (modLink_same l _ _).course

/-! ### The requests -/

/-- The blocks with head `h`'s stylus count set to `n` (R71). -/
def setStylus (h : HeadId) (n : Nat) (s : State) : State := s.modHead h fun u => { u with stylus := n }

theorem notesLeft_same (l : LinkId) (rest : List Note) (s : State) : SameBlocks s (s.notesLeft l rest) := by
  unfold State.notesLeft
  dsimp only
  split
  · exact modLink_same _ _ _
  · exact rfl

/-- What a block leaves is a course, unless it sets a stylus count. -/
theorem BlockMove.course {l : LinkId} {k : ReqKind} {s t : State} (move : BlockMove l k s t) :
    Course s t ∨ k = .setStylusCount ∧ ∃ h n, s.headInUse h = false ∧ t = setStylus h n s := by
  cases move
  case stylusSet h n free => exact .inr ⟨rfl, h, n, free, rfl⟩
  all_goals left
  case same => exact .refl
  case mounted c _ => exact (Move.counters (f := fun g => { g with mounted := c }) rfl rfl rfl).course
  case armed i d restart idle desc fresh => exact supervise_course (Move.moves (.armed i d restart idle desc fresh))
  case disarmed armed => exact supervise_course (Move.moves (.disarmed armed))
  case started armed => exact supervise_course ((Move.moves (.started armed)).trans (enterPreparing_moves false (awaitIndex s)))
  case pauseSet => exact (Move.counters (by rfl) (by rfl) (by rfl)).course
  case paused cutting pos =>
    refine supervise_course (enterHeld_moves _ ?_ ?_)
    · rw [cutting]
      rfl
    · simp [State.ringBeingCut, pos]
  case resumed held => exact supervise_course ((Move.moves (.resumed held)).trans (enterPreparing_moves false s))
  case stopped runs => exact supervise_course (stopAtSeamWith_moves _ runs)
  case aborted => exact supervise_course (abort_moves _ _ s)
  case acknowledged ended => exact (Move.acknowledged ended).course
  case limitSet v =>
    have limit : Move s (s.modSup fun u => { u with limit := clampLimit v }) := .sup fun quiet => quiet
    exact supervise_course (limit.moves.trans ((checkWarn_moves _).trans (checkStall_moves _)))
  case faultCleared h faulted amp => exact supervise_course (headMoved_modHead_moves (.clear _ _ faulted))
  case claimed => exact SameBlocks.course rfl
  case released => exact (withCustody_same none s).course
  case passed => exact SameBlocks.course rfl
  case seized => exact SameBlocks.course rfl
  case seizedFrom => exact SameBlocks.course rfl
  case descriptorWritten i d listed sound free => exact (Move.descriptorWritten i d free listed sound).course
  case descriptorCleared i free => exact (Move.descriptorCleared i free).course
  case curveWritten c k => exact (Move.curveWritten c k s).course
  case paramsWritten h p fits => exact (Move.paramsWritten h p fits).course
  case eventsRead => exact (modLink_same l _ s).course
  case maskSet => exact (modLink_same l _ s).course
  case noteAppended => exact SameBlocks.course rfl
  case noteFetched n rest _ => exact (notesLeft_same l rest s).course
  case segmentStored h d r o tones high band order fits => exact (Move.segmentStored h band high order fits).course
  case fillingDropped h d band => exact (Move.fillingDropped h band).course
  case ringClosed h d r check mark high band filling => exact (Move.ringClosed h mark band high filling).course
  case ringsDiscarded h d band => exact (Move.ringsDiscarded h band).course

/-! ### Every command -/

/-- The commands that can begin or end master reset (R160). -/
def Instr.resets : Instr → Bool
  | .masterResetLineChange _ | .masterResetQualified | .powerOn => true
  | _ => false

/-- What a command comes to, for the blocks: a course; a stylus count set by a request for it; or the values of master
reset. -/
inductive Outcome (c : Instr) (s t : State) : Prop
  | course (course : Course s t)
  | stylus (asks : Asks c .setStylusCount) (h : HeadId) (n : Nat) (free : s.headInUse h = false)
      (same : SameBlocks (setStylus h n s) t)
  | reset (resets : Instr.resets c = true) (u : State) (cutAbort masterReset : LineFilter)
      (same : SameBlocks (blocksReset cutAbort masterReset u) t)

theorem Served.outcome {l : LinkId} {c : Instr} {s t : State} (served : Served l (Asks c) s t) : Outcome c s t := by
  cases served with
  | ignored => exact .course .refl
  | linkError => exact .course (SameBlocks.course rfl)
  | refused => exact .course (SameBlocks.course rfl)
  | @answered k f kind body asks block =>
    have replied : SameBlocks (f (markTaken l s)).1 (transmitAll (reply l kind body (f (markTaken l s)).1)) := rfl
    have marked : SameBlocks s (markTaken l s) := rfl
    rcases (block.move (markTaken l s)).course with course | ⟨rfl, h, n, free, same⟩
    · exact .course ((marked.course.trans course).trans replied.course)
    · refine .stylus asks h n free ?_
      rw [same]
      exact rfl

theorem masterResetLineChange_outcome (asserted : Bool) (s : State) :
    Outcome (.masterResetLineChange asserted) s (masterResetLineChange asserted s) := by
  have pins := (withPins_same { s.pins with masterReset := asserted } s).course
  unfold masterResetLineChange
  dsimp only
  split
  · split
    · exact .course pins
    · exact .reset rfl (s.withPins { s.pins with masterReset := asserted })
        (if s.pins.cutAbort then .qualifying s.now else .released) .released rfl
  · exact .course (pins.tail (.inr (modSup_filter_same _ _)))

theorem masterResetQualified_outcome (s : State) : Outcome .masterResetQualified s (masterResetQualified s) := by
  unfold masterResetQualified
  split
  · next a _ => exact .reset rfl (passTimeTo (a + Config.lineFilter) s) .released .taken rfl
  · exact .course .refl
  · exact .course .refl

theorem powerOn_outcome (s : State) : Outcome .powerOn s (powerOn s) := by
  unfold powerOn
  split
  · exact .reset rfl s .released .taken rfl
  · exact .reset rfl (enterMasterReset s) (if s.pins.cutAbort then .qualifying s.now else .released) .released rfl

theorem Effect.outcome {c : Instr} {s t : State} (effect : Effect s c t) : Outcome c s t := by
  cases effect with
  | untaken => exact .course .refl
  | request served => exact served.outcome
  | line op => exact .course (settle_course (op.moves s).course)
  | indexTimingExpiry => exact .course (indexTimingExpiry_moves s).course
  | landedSenseChange h on => exact .course (landedSenseChange_course h on s)
  | ampFaultChange h on => exact .course (ampFaultChange_course h on s)
  | cutAbortLineChange asserted => exact .course (cutAbortLineChange_course asserted s)
  | cutAbortQualified => exact .course (cutAbortQualified_course s)
  | masterResetLineChange asserted => exact masterResetLineChange_outcome asserted s
  | masterResetQualified => exact masterResetQualified_outcome s
  | powerOn => exact powerOn_outcome s
  | linkSignalLoss l => exact .course (linkSignalLoss_course l s)
  | linkUp l => exact .course (linkUp_course l s)
  | frameSent l => exact .course (modLink_same l _ s).course

/-- A law of the blocks that every move, a stylus count set and master reset keep is kept by every step. -/
theorem step_keeps_blocks {I : State → Prop} (aside : ∀ {s t}, SameBlocks s t → I s → I t)
    (move : ∀ {s t}, Move s t → I s → I t) (stylus : ∀ {s} h n, I s → I (setStylus h n s))
    (reset : ∀ s a b, I (blocksReset a b s)) {s t : State} (run : step s = .next t) (holds : I s) : I t := by
  refine step_keeps (I := I) (fun {s} rest => aside (rfl : SameBlocks s _)) (fun {s} => ?_) (fun effect h => ?_) run holds
  · exact fun h => aside (rfl : SameBlocks (passTime 1 s) _) (move (.time 1 s) h)
  · cases effect.outcome with
    | course course => exact course.keeps aside move h
    | stylus _ k n _ same => exact aside same (stylus k n h)
    | reset _ u a b same => exact aside same (reset u a b)

end Sys2Proof.Machine
end

section
/-! SUPPORT. The job table under the moves: descriptors stay within Table 5-2 (R79), and the records agree with the engine
(R77, R87, R95). -/

namespace Sys2Proof.Machine

/-! ### What the operations do to a slot of the job table -/

theorem modJob_job (i j : Fin 64) (f : JobSlot → JobSlot) (s : State) :
    (s.modJob i f).jobs[j] = if i = j then f s.jobs[j] else s.jobs[j] := by
  simp only [State.modJob_jobs]
  by_cases same : i = j
  · subst same
    simp
  · have apart : (i : Nat) ≠ j := fun h => same (Fin.ext h)
    simp [same, apart]

/-- The record of the engine's slot is changed, and no other. -/
theorem modRecord_job (f : StatusRecord → StatusRecord) (s : State) (i : Fin 64) :
    (modRecord f s).jobs[i] =
      if s.engine.slot = some i then { s.jobs[i] with record := f s.jobs[i].record } else s.jobs[i] := by
  unfold modRecord
  cases s.engine.slot with
  | none => simp
  | some k => simp only [modJob_job, Option.some.injEq]

theorem modRecord_engine (f : StatusRecord → StatusRecord) (s : State) : (modRecord f s).engine = s.engine := by simp

theorem modRecord_modRecord (f g : StatusRecord → StatusRecord) (s : State) (i : Fin 64) :
    (modRecord g (modRecord f s)).jobs[i] = (modRecord (fun r => g (f r)) s).jobs[i] := by
  simp only [modRecord_job, modRecord_engine]
  split <;> rfl

theorem modRecord_job_congr_job (f : StatusRecord → StatusRecord) {s t : State} {i : Fin 64}
    (slot : t.engine.slot = s.engine.slot) (job : t.jobs[i] = s.jobs[i]) :
    (modRecord f t).jobs[i] = (modRecord f s).jobs[i] := by
  rw [modRecord_job, modRecord_job, slot, job]

/-- A change of the blocks beside the job table and the engine's slot does not show in the change of a record. -/
theorem modRecord_job_congr (f : StatusRecord → StatusRecord) {s t : State} (slot : t.engine.slot = s.engine.slot)
    (jobs : t.jobs = s.jobs) (i : Fin 64) : (modRecord f t).jobs[i] = (modRecord f s).jobs[i] :=
  modRecord_job_congr_job f slot (by rw [jobs])

theorem toEnding_job (o : BandOutcome) (c : Option EndCause) (h : Option HeadId) (s : State) (i : Fin 64) :
    (toEnding o c h s).jobs[i] = (modRecord (StatusRecord.withOutcome o c h) s).jobs[i] := rfl

theorem enterEnded_job (e : EventKind) (s : State) (i : Fin 64) :
    (enterEnded e s).jobs[i] = (modRecord StatusRecord.endRun s).jobs[i] := rfl

theorem endCurrency_job (s : State) (i : Fin 64) :
    (endCurrency s).jobs[i] = (modRecord StatusRecord.endRun s).jobs[i] := rfl

theorem disarmBand_job (s : State) (i : Fin 64) :
    (disarmBand s).jobs[i] = (modRecord StatusRecord.disarm s).jobs[i] := rfl

theorem armSlot_job (m : Fin 64) (d : Descriptor) (restart : Bool) (s : State) (i : Fin 64) :
    (armSlot m d restart s).jobs[i] =
      if m = i then { s.jobs[i] with record := s.jobs[i].record.arm d.heads restart } else s.jobs[i] :=
  modJob_job m i (fun j => { j with record := j.record.arm d.heads restart }) s

theorem chained_job (m : Fin 64) (d : Descriptor) (s : State) (i : Fin 64) :
    (chained m d s).jobs[i] = (armSlot m d true (endCurrency s)).jobs[i] := rfl

/-- The record at the entry to ENDING by an abort (R89, R91). -/
def StatusRecord.aborted (cut : Bool) (c : EndCause) (h : Option HeadId) (r : StatusRecord) : StatusRecord :=
  StatusRecord.withOutcome .aborted (some c) h (if cut then { r with partialRing := some r.nextRing } else r)

theorem toEnding_engine (o : BandOutcome) (c : Option EndCause) (h : Option HeadId) (s : State) :
    (toEnding o c h s).engine =
      { s.engine with
        state := .ending, target := none, revPos := none, pause := false, stopAtSeam := none, hold := none } := by
  simp [toEnding, stopGrid, liftSet]

/-- The part with the partial ring recorded in position CUT (R91). -/
def markPartial (s : State) : State :=
  if s.engine.revPos = some .cut then modRecord (fun r => { r with partialRing := some r.nextRing }) s else s

theorem abortEntry_eq (c : EndCause) (h : Option HeadId) (s : State) :
    abortEntry c h s = toEnding .aborted (some c) h (dropRing (silenceSet (markPartial s))) := rfl

@[simp] theorem markPartial_engine (s : State) : (markPartial s).engine = s.engine := by
  unfold markPartial
  split <;> simp

theorem abortEntry_job (c : EndCause) (h : Option HeadId) (s : State) (i : Fin 64) :
    (abortEntry c h s).jobs[i] =
      (modRecord (StatusRecord.aborted (decide (s.engine.revPos = some .cut)) c h) s).jobs[i] := by
  rw [abortEntry_eq, toEnding_job, modRecord_job_congr _ (s := markPartial s) (by simp) (by simp)]
  unfold markPartial
  by_cases cut : s.engine.revPos = some .cut
  · rw [if_pos cut, modRecord_modRecord, decide_eq_true cut]
    rfl
  · rw [if_neg cut, decide_eq_false cut]
    rfl

theorem abortEntry_engine (c : EndCause) (h : Option HeadId) (s : State) :
    (abortEntry c h s).engine =
      { s.engine with
        state := .ending, target := none, revPos := none, pause := false, stopAtSeam := none, hold := none } := by
  rw [abortEntry_eq, toEnding_engine]
  simp

theorem ringEnded_engine (d : Descriptor) (s : State) :
    (ringEnded d s).engine = { s.engine with ring := some (s.nextRing + 1), revPos := some .seam } := by
  unfold ringEnded
  split <;> simp

theorem ringEnded_job (d : Descriptor) (s : State) (i : Fin 64) :
    (ringEnded d s).jobs[i] = (modRecord StatusRecord.ringDone s).jobs[i] := by
  unfold ringEnded
  simp only [State.modEngine_jobs]
  refine modRecord_job_congr _ ?_ ?_ i
  · split <;> simp
  · split <;> simp

/-! ### Descriptors (R79, R83) -/

/-- No field offends exactly when every check passes. -/
theorem firstOffence_eq_none_iff (l : List (Nat × Bool)) : firstOffence l = none ↔ ∀ c ∈ l, c.2 = true := by
  simp [firstOffence]

theorem inRange_iff {lo hi : Nat} {v : Option Nat} : inRange lo hi v = true ↔ ∃ n, v = some n ∧ lo ≤ n ∧ n ≤ hi := by
  cases v <;> simp [inRange]

theorem inRange_getD {lo hi : Nat} {v : Option Nat} (ok : inRange lo hi v = true) :
    lo ≤ v.getD 0 ∧ v.getD 0 ≤ hi := by
  obtain ⟨n, rfl, low, high⟩ := inRange_iff.mp ok
  exact ⟨low, high⟩

theorem headSetOf_nonempty {v : Nat} {p : PerHead Bool} (names : headSetOf v = some p) : ∃ h, p.get h = true := by
  unfold headSetOf at names
  split at names
  · next range =>
    obtain rfl := Option.some.inj names
    obtain ⟨low, high⟩ := range
    by_cases b0 : v.testBit 0 = true
    · exact ⟨.h0, b0⟩
    by_cases b1 : v.testBit 1 = true
    · exact ⟨.h1, b1⟩
    by_cases b2 : v.testBit 2 = true
    · exact ⟨.h2, b2⟩
    by_cases b3 : v.testBit 3 = true
    · exact ⟨.h3, b3⟩
    have zero : v = 0 := Nat.eq_of_testBit_eq fun n => by
      rw [Nat.zero_testBit]
      by_cases below : n < 4
      · interval_cases n
        · exact Bool.eq_false_iff.mpr b0
        · exact Bool.eq_false_iff.mpr b1
        · exact Bool.eq_false_iff.mpr b2
        · exact Bool.eq_false_iff.mpr b3
      · refine Nat.testBit_lt_two_pow ?_
        calc v < 2 ^ 4 := by omega
          _ ≤ 2 ^ n := Nat.pow_le_pow_right (by decide) (by omega)
    omega
  · cases names

/-- A curve entry that passes names a curve exactly for a head of the set (R80). -/
theorem curveEntry_isSome {used : Bool} {v : Option Nat} (ok : curveEntryOk used v = true) :
    (curveEntry v).isSome = used := by
  cases used with
  | true =>
    obtain ⟨n, rfl, _, high⟩ := inRange_iff.mp (by simpa [curveEntryOk] using ok)
    simp [curveEntry, show n < 16 by omega]
  | false =>
    obtain rfl : v = some 255 := by simpa [curveEntryOk] using ok
    rfl

/-- Patch entries that pass have tones and lengths in their ranges, and lengths that fit into L with those before them
(Table 5-2). -/
theorem patchChecks_ok {cut : Nat} {ps : List (Option Nat × Option Nat)} {n sum : Nat} (fits : sum ≤ cut)
    (ok : ∀ c ∈ patchChecks cut n sum ps, c.2 = true) :
    (∀ p ∈ ps, inRange 1 255 p.1 = true ∧ inRange 1 65519 p.2 = true) ∧
      sum + (ps.map fun p => p.2.getD 0).sum ≤ cut := by
  induction ps generalizing n sum with
  | nil => simpa using fits
  | cons p ps ih =>
    simp only [patchChecks, List.mem_cons, forall_eq_or_imp, Bool.and_eq_true, decide_eq_true_eq] at ok
    obtain ⟨tone, ⟨length, fits⟩, rest⟩ := ok
    obtain ⟨ranges, total⟩ := ih fits rest
    refine ⟨?_, by simp only [List.map_cons, List.sum_cons]; omega⟩
    simp only [List.mem_cons, forall_eq_or_imp]
    exact ⟨⟨tone, length⟩, ranges⟩

theorem slotOf_ne {v : Option Nat} {i : Fin 64} (other : v ≠ some i.val) : slotOf v ≠ some i := by
  intro same
  unfold slotOf at same
  split at same
  · split at same
    · exact other (by rw [← Option.some.inj same])
    · cases same
  · cases same

theorem kind_testCut_iff {v : Option Nat} (ok : inRange 0 2 v = true) :
    (v.bind BandKind.ofCode).getD .engrave = .testCut ↔ v = some 1 := by
  obtain ⟨n, rfl, _, high⟩ := inRange_iff.mp ok
  interval_cases n <;> simp [BandKind.ofCode]

/-- A descriptor whose fields pass the scan, with as many patches as it announces, lies within Table 5-2 (R79). -/
theorem RawDescriptor.build_fits {i : Fin 64} {d : RawDescriptor} (listed : d.patches.length = d.patchCount.getD 0)
    (sound : firstOffence (d.checks i) = none) : d.build.fits i := by
  have ok := (firstOffence_eq_none_iff _).mp sound
  simp only [RawDescriptor.checks, List.mem_append, List.mem_cons, List.not_mem_nil, or_false, or_imp, forall_and,
    forall_eq, Bool.and_eq_true, decide_eq_true_eq, bne_iff_ne, ne_eq] at ok
  obtain ⟨⟨kind, job, separation, heads, x0, pitch, ⟨nr, axial⟩, nc, ⟨cut, margin⟩, stagger, c0, c1, c2, c3, policy, texp,
    tol, posTol, starve, ⟨_, next⟩, count⟩, patches⟩ := ok
  obtain ⟨ranges, total⟩ := patchChecks_ok (Nat.zero_le _) patches
  obtain ⟨set, named⟩ := Option.isSome_iff_exists.mp heads
  obtain ⟨byte, -, names⟩ := Option.bind_eq_some_iff.mp named
  have setHeads : d.build.heads = set := by simp [RawDescriptor.build, named]
  have patch (p) (mem : p ∈ d.build.patches) : 1 ≤ p.tone ∧ p.tone ≤ 255 ∧ 1 ≤ p.length ∧ p.length ≤ 65519 := by
    obtain ⟨q, listed, rfl⟩ := List.mem_map.mp mem
    have tone := inRange_getD (ranges q listed).1
    have length := inRange_getD (ranges q listed).2
    exact ⟨tone.1, tone.2, length.1, length.2⟩
  have curve (h : HeadId) : (d.build.curves.get h).isSome = d.build.heads.get h := by
    rw [setHeads]
    rw [named] at c0 c1 c2 c3
    cases h
    · exact curveEntry_isSome c0
    · exact curveEntry_isSome c1
    · exact curveEntry_isSome c2
    · exact curveEntry_isSome c3
  have number : if d.build.kind = .testCut then 1 ≤ d.build.patches.length ∧ d.build.patches.length ≤ 16
      else d.build.patches = [] := by
    have length : d.build.patches.length = d.patchCount.getD 0 := by rw [← listed]; exact List.length_map _
    by_cases test : d.kind = some 1
    · rw [if_pos test] at count
      have same : d.build.kind = .testCut := (kind_testCut_iff kind).mpr test
      rw [if_pos same, length]
      exact inRange_getD count
    · rw [if_neg test] at count
      have other : ¬ d.build.kind = .testCut := fun same => test ((kind_testCut_iff kind).mp same)
      rw [if_neg other]
      refine List.eq_nil_of_length_eq_zero ?_
      rw [length, eq_of_beq count]
      rfl
  refine ⟨(inRange_getD job).2, (inRange_getD separation).2, setHeads ▸ headSetOf_nonempty names, (inRange_getD x0).2,
    (inRange_getD pitch).1, (inRange_getD pitch).2, (inRange_getD nr).1, (inRange_getD nr).2, axial, (inRange_getD nc).1,
    (inRange_getD nc).2, (inRange_getD cut).1, (inRange_getD cut).2, margin, (inRange_getD stagger).2, curve,
    (inRange_getD texp).1, (inRange_getD texp).2, (inRange_getD tol).1, (inRange_getD tol).2, (inRange_getD posTol).2,
    (inRange_getD starve).1, (inRange_getD starve).2, slotOf_ne next, number, patch, ?_⟩
  simpa [RawDescriptor.build, Function.comp_def] using total

end Sys2Proof.Machine
end

section
/-! SUPPORT. What a move does to the band: which moves leave the current slot and the records' progress alone, and the
records in agreement with the engine (R77, R79, R87, R95). -/

namespace Sys2Proof.Machine

/-- A slot's descriptor, phase, outcome and progress are the same (Table 5-4). -/
structure SameJob (j k : JobSlot) : Prop where
  desc : k.desc = j.desc
  phase : k.record.phase = j.record.phase
  outcome : k.record.outcome = j.record.outcome
  nextRing : k.record.nextRing = j.record.nextRing
  ringsCut : k.record.ringsCut = j.record.ringsCut

theorem SameJob.rfl (j : JobSlot) : SameJob j j := ⟨Eq.refl _, Eq.refl _, Eq.refl _, Eq.refl _, Eq.refl _⟩

/-- The same band is current, or none is; ENDING is neither entered nor left, and a band that an abort can end stays
one. -/
structure SameBand (s t : State) : Prop where
  slot : t.engine.slot = s.engine.slot
  current : t.engine.state.isCurrent = s.engine.state.isCurrent
  ending : t.engine.state = .ending ↔ s.engine.state = .ending
  abortable : s.engine.state.abortable = true → t.engine.state.abortable = true
  job : ∀ i : Fin 64, SameJob s.jobs[i] t.jobs[i]

/-- The engine's state and slot stay, and no record's progress moves. -/
theorem SameBand.of_jobs {s t : State} (state : t.engine.state = s.engine.state)
    (slot : t.engine.slot = s.engine.slot) (job : ∀ i : Fin 64, SameJob s.jobs[i] t.jobs[i]) : SameBand s t where
  slot := slot
  current := by rw [state]
  ending := by rw [state]
  abortable := by rw [state]; exact id
  job := job

theorem SameBand.of_eq {s t : State} (engine : t.engine = s.engine) (jobs : t.jobs = s.jobs) : SameBand s t :=
  .of_jobs (by rw [engine]) (by rw [engine]) fun i => jobs ▸ .rfl _

/-- A change of the current record that leaves its progress alone. -/
theorem SameBand.of_modRecord {s t : State} {f : StatusRecord → StatusRecord} (engine : t.engine = s.engine)
    (jobs : t.jobs = (modRecord f s).jobs)
    (run : ∀ r, (f r).phase = r.phase ∧ (f r).outcome = r.outcome ∧ (f r).nextRing = r.nextRing ∧
      (f r).ringsCut = r.ringsCut) : SameBand s t := by
  refine .of_jobs (by rw [engine]) (by rw [engine]) fun i => ?_
  rw [jobs, modRecord_job]
  obtain ⟨phase, outcome, next, cut⟩ := run s.jobs[i].record
  split
  · exact ⟨rfl, phase, outcome, next, cut⟩
  · exact .rfl _

/-- The engine goes from one of PREPARING, CUTTING and HELD to another. -/
theorem SameBand.of_running {s t : State} {x : EngineState} (slot : t.engine.slot = s.engine.slot)
    (jobs : t.jobs = s.jobs) (after : t.engine.state = x) (runs : x.abortable = true)
    (before : s.engine.state = .armed ∨ s.engine.state.abortable = true) : SameBand s t where
  slot := slot
  current := by
    rw [after]
    rcases before with armed | ran
    · rw [armed]
      cases x <;> simp_all [EngineState.isCurrent, EngineState.abortable]
    · cases x <;> cases state : s.engine.state <;> simp_all [EngineState.isCurrent, EngineState.abortable]
  ending := by
    rw [after]
    rcases before with armed | ran
    · rw [armed]
      cases x <;> simp_all [EngineState.abortable]
    · cases x <;> cases state : s.engine.state <;> simp_all [EngineState.abortable]
  abortable _ := by rw [after, runs]
  job i := jobs ▸ .rfl _

theorem latchCells_jobs (d : Descriptor) (b : Nat) (s : State) :
    (latchCells d b s).jobs = (modRecord (fun r => { r with counts := latchCounts d s.cells r.counts }) s).jobs := by
  unfold latchCells
  dsimp only
  split <;> rfl

theorem latched_jobs (d : Descriptor) (acc : Nat) (s : State) :
    (latchCells d s.grid.boundaries (counted acc s)).jobs =
      (modRecord (fun r => { r with counts := latchCounts d s.cells r.counts }) s).jobs := by
  rw [latchCells_jobs]
  unfold modRecord
  have slot : (counted acc s).engine.slot = s.engine.slot := rfl
  rw [slot]
  cases s.engine.slot <;> rfl

theorem abortable_of_runs {x : EngineState} (runs : x = .preparing ∨ x = .cutting) : x.abortable = true := by
  rcases runs with rfl | rfl <;> rfl

theorem storeParams_engine (h : HeadId) (p : HeadParams) (s : State) : (storeParams h p s).engine = s.engine := by
  unfold storeParams applyFitting
  dsimp only
  repeat' split
  all_goals rfl

theorem storeParams_jobs (h : HeadId) (p : HeadParams) (s : State) : (storeParams h p s).jobs = s.jobs := by
  unfold storeParams applyFitting
  dsimp only
  repeat' split
  all_goals rfl

section
variable {s : State}

theorem SameBand.tally {f : StatusRecord → StatusRecord}
    (run : ∀ r, (f r).phase = r.phase ∧ (f r).outcome = r.outcome ∧ (f r).nextRing = r.nextRing ∧
      (f r).ringsCut = r.ringsCut) : SameBand s (modRecord f s) :=
  .of_modRecord (by simp) rfl run

theorem SameBand.started (armed : s.engine.state = .armed) :
    SameBand s ((awaitIndex s).modEngine fun g => { g with state := .preparing, hold := none }) :=
  .of_running (x := .preparing) rfl rfl rfl rfl (.inl armed)

theorem SameBand.resumed (held : s.engine.state = .held) :
    SameBand s (s.modEngine fun g => { g with state := .preparing, hold := none }) :=
  .of_running (x := .preparing) rfl rfl rfl rfl (.inr (by rw [held]; rfl))

theorem SameBand.held (r : HoldReason) (runs : s.engine.state.abortable = true) :
    SameBand s (s.modEngine fun g =>
      { g with state := .held, hold := some r, pause := false, revPos := none, settleCount := none }) :=
  .of_running (x := .held) rfl rfl rfl rfl (.inr runs)

theorem SameBand.latched (d : Descriptor) (acc : Nat) (s : State) :
    SameBand s (latchCells d s.grid.boundaries (counted acc s)) :=
  .of_modRecord (by simp [counted]) (latched_jobs d acc s) fun _ => ⟨rfl, rfl, rfl, rfl⟩

theorem SameBand.cuttingBegun (d : Descriptor) (runs : s.engine.state = .preparing ∨ s.engine.state = .cutting) :
    SameBand s (beginCutting d (s.modEngine fun g => { g with state := .cutting })) :=
  .of_running (x := .cutting) (by simp [beginCutting]) (by simp) (by simp [beginCutting]) rfl
    (.inr (abortable_of_runs runs))

theorem SameBand.idleBegun {f : Engine → Engine} (runs : s.engine.state = .preparing ∨ s.engine.state = .cutting)
    (state : (f s.engine).state = .cutting) (slot : (f s.engine).slot = s.engine.slot) : SameBand s (s.modEngine f) :=
  .of_running slot rfl state rfl (.inr (abortable_of_runs runs))

theorem SameBand.counters {f : Engine → Engine} (state : (f s.engine).state = s.engine.state)
    (slot : (f s.engine).slot = s.engine.slot) : SameBand s (s.modEngine f) :=
  .of_jobs state slot fun _ => .rfl _

theorem SameBand.paramsWritten (h : HeadId) (p : HeadParams) (s : State) : SameBand s (storeParams h p s) :=
  .of_eq (storeParams_engine h p s) (storeParams_jobs h p s)

end

/-- The moves that turn to another band, or move the progress of a record. -/
inductive Turn : State → State → Prop
  | aborted (c : EndCause) (h : Option HeadId) {s u : State} : s.engine.state.abortable = true → u.engine = s.engine →
    u.jobs = s.jobs → Turn s (abortEntry c h u)
  | stopped (c : StopCause) {s : State} : s.engine.state.abortable = true → s.ringBeingCut = false →
    Turn s (toEnding .stopped (some c.endCause) none s)
  | ended (e : EventKind) {s : State} : s.engine.state = .ending → Turn s (enterEnded e s)
  | chained {m : Fin 64} {d : Descriptor} {s : State} : s.engine.state = .ending →
    (endCurrency s).jobs[m].desc = some d → (endCurrency s).jobs[m].record.phase = .neverRun → Turn s (chained m d s)
  | disarmed {s : State} : s.engine.state = .armed → Turn s (disarmBand s)
  | armed (i : Fin 64) (d : Descriptor) (restart : Bool) {s : State} : s.engine.state = .idle →
    s.jobs[i].desc = some d → (restart = false → s.jobs[i].record.phase ≠ .complete) → Turn s (armSlot i d restart s)
  | acknowledged {s : State} : s.engine.state = .ended → Turn s s.acknowledged
  | ringDone {d : Descriptor} {acc : Nat} {s : State} : s.band = some d → s.ringBeingCut = true →
    s.nextRing + 1 ≠ d.nr → Turn s (ringEnded d (counted acc s))
  | bandDone {d : Descriptor} {acc : Nat} {s : State} : s.band = some d → s.ringBeingCut = true →
    s.nextRing + 1 = d.nr → Turn s (toEnding .complete none none (ringEnded d (counted acc s)))
  | descriptorWritten (i : Fin 64) (d : RawDescriptor) {s : State} : s.slotInUse i = false →
    d.patches.length = d.patchCount.getD 0 → firstOffence (d.checks i) = none →
    Turn s (s.modJob i fun _ => ⟨some d.build, StatusRecord.fresh d.build.heads⟩)
  | descriptorCleared (i : Fin 64) {s : State} : s.slotInUse i = false → Turn s (s.modJob i fun _ => JobSlot.empty)

/-- A move leaves the band and the records' progress alone, or is one of the turns. -/
theorem Move.band {s t : State} (move : Move s t) : SameBand s t ∨ Turn s t := by
  cases move
  case aborted c h f runs => exact .inr (.aborted c h runs rfl rfl)
  case cutAborted c runs => exact .inr (.aborted c none runs rfl rfl)
  case stopped c runs whole => exact .inr (.stopped c runs whole)
  case ended e ending => exact .inr (.ended e ending)
  case chained m d ending desc fresh => exact .inr (.chained ending desc fresh)
  case disarmed armed => exact .inr (.disarmed armed)
  case armed i d restart idle desc fresh => exact .inr (.armed i d restart idle desc fresh)
  case acknowledged ended => exact .inr (.acknowledged ended)
  case ringDone d acc carries cutting last more => exact .inr (.ringDone carries.band cutting more)
  case bandDone d acc carries cutting last done => exact .inr (.bandDone carries.band cutting done)
  case descriptorWritten i d listed sound free => exact .inr (.descriptorWritten i d free listed sound)
  case descriptorCleared i free => exact .inr (.descriptorCleared i free)
  all_goals left
  case tally f run => exact .tally run
  case counters f state slot pos => exact .counters state slot
  case started armed => exact .started armed
  case resumed held => exact .resumed held
  case held r runs whole => exact .held r runs
  case latched d acc carries cutting below => exact .latched d acc s
  case cuttingBegun d runs band ready silent fresh => exact .cuttingBegun d runs
  case idleBegun f runs silent state slot pos => exact .idleBegun runs state slot
  case paramsWritten h p fits => exact .paramsWritten h p s
  all_goals exact .of_eq rfl rfl

end Sys2Proof.Machine
end

section
/-! PROOFS. The records agree with the engine in every reachable state (R77, R87, R95). -/

namespace Sys2Proof.Machine

/-! ### Descriptors stay within Table 5-2 -/

theorem DescriptorsFit.of_desc {s t : State} (fit : DescriptorsFit s)
    (desc : ∀ i : Fin 64, t.jobs[i].desc = s.jobs[i].desc) : DescriptorsFit t :=
  fun i d named => fit i d (desc i ▸ named)

theorem Turn.desc {s t : State} (turn : Turn s t) (i : Fin 64) :
    t.jobs[i].desc = s.jobs[i].desc ∨ t.jobs[i].desc = none ∨ ∃ d, t.jobs[i].desc = some d ∧ d.fits i := by
  cases turn with
  | @aborted c h s u _ engine jobs =>
    left
    rw [abortEntry_job, modRecord_desc, jobs]
  | stopped => exact .inl (modRecord_desc _ s i)
  | ended => exact .inl (modRecord_desc _ s i)
  | @chained m d s _ desc =>
    left
    rw [chained_job, armSlot_job, endCurrency_job]
    split <;> exact modRecord_desc _ s i
  | disarmed => exact .inl (modRecord_desc _ s i)
  | armed =>
    left
    rw [armSlot_job]
    split <;> rfl
  | acknowledged => exact .inl rfl
  | @ringDone d acc s =>
    left
    rw [ringEnded_job, modRecord_desc]
    rfl
  | @bandDone d acc s =>
    left
    rw [toEnding_job, modRecord_desc, ringEnded_job, modRecord_desc]
    rfl
  | descriptorWritten k d _ listed sound =>
    rw [modJob_job]
    split
    · next same => exact .inr (.inr ⟨d.build, rfl, same ▸ d.build_fits listed sound⟩)
    · exact .inl rfl
  | descriptorCleared k =>
    rw [modJob_job]
    split
    · exact .inr (.inl rfl)
    · exact .inl rfl

theorem Move.descriptorsFit {s t : State} (move : Move s t) (fit : DescriptorsFit s) : DescriptorsFit t := by
  rcases move.band with same | turn
  · exact fit.of_desc fun i => (same.job i).desc
  · intro i d named
    rcases turn.desc i with same | none | ⟨e, written, fits⟩
    · exact fit i d (same ▸ named)
    · rw [none] at named
      cases named
    · rw [written] at named
      exact Option.some.inj named ▸ fits

/-! ### The law of one slot -/

/-- What the law of the records says of one slot of the job table, which is `used` if it is the current band's, while the
engine is `ending` or not (R77, R87, R95). -/
structure JobSlot.Lawful (used ending : Prop) (j : JobSlot) : Prop where
  current : j.record.phase = .current ↔ used
  outcome : j.record.outcome.isSome = true ↔ used ∧ ending
  cut : j.record.ringsCut ≤ j.record.nextRing
  rings : ∀ d, j.desc = some d →
    j.record.nextRing ≤ d.nr ∧ (j.record.nextRing = d.nr ↔ j.record.isComplete)
  fresh : j.desc = none ∨ j.record.phase = .neverRun → j.record.nextRing = 0

theorem recordsOk_iff {s : State} :
    RecordsOk s ↔ (s.engine.state.isCurrent = true → ∃ i, s.engine.slot = some i ∧ s.jobs[i].desc.isSome = true) ∧
      ∀ i : Fin 64, s.jobs[i].Lawful (s.slotInUse i = true) (s.engine.state = .ending) :=
  ⟨fun ⟨band, law⟩ => ⟨band, fun i => ⟨(law i).1, (law i).2.1, (law i).2.2.1, (law i).2.2.2.1, (law i).2.2.2.2⟩⟩,
    fun ⟨band, law⟩ => ⟨band, fun i => ⟨(law i).current, (law i).outcome, (law i).cut, (law i).rings, (law i).fresh⟩⟩⟩

/-- While a slot is not the current band's, ENDING does not matter to it. -/
theorem JobSlot.Lawful.unused {used ending : Prop} {j : JobSlot} (law : j.Lawful used ending) (free : ¬ used)
    {used' ending' : Prop} (free' : ¬ used') : j.Lawful used' ending' where
  current := by rw [law.current]; exact iff_of_false free free'
  outcome := by rw [law.outcome]; exact iff_of_false (fun h => free h.1) fun h => free' h.1
  cut := law.cut
  rings := law.rings
  fresh := law.fresh

theorem JobSlot.Lawful.of_same {used ending used' ending' : Prop} {j k : JobSlot} (law : j.Lawful used ending)
    (same : SameJob j k) (usedIff : used' ↔ used) (endingIff : ending' ↔ ending) : k.Lawful used' ending' := by
  obtain ⟨desc, phase, outcome, next, cut⟩ := same
  refine ⟨?_, ?_, ?_, ?_, ?_⟩
  · rw [phase, usedIff, law.current]
  · rw [outcome, usedIff, endingIff, law.outcome]
  · rw [cut, next]
    exact law.cut
  · intro d named
    unfold StatusRecord.isComplete
    rw [next, phase, outcome]
    exact law.rings d (desc ▸ named)
  · rw [desc, phase, next]
    exact law.fresh

theorem slotInUse_iff {s : State} {i : Fin 64} :
    s.slotInUse i = true ↔ s.engine.state.isCurrent = true ∧ s.engine.slot = some i := by
  simp [State.slotInUse]

theorem RecordsOk.of_sameBand {s t : State} (ok : RecordsOk s) (same : SameBand s t) : RecordsOk t := by
  obtain ⟨band, law⟩ := recordsOk_iff.mp ok
  refine recordsOk_iff.mpr ⟨fun current => ?_, fun i => ?_⟩
  · rw [same.current] at current
    obtain ⟨i, slot, named⟩ := band current
    exact ⟨i, same.slot.trans slot, by rw [(same.job i).desc]; exact named⟩
  · refine (law i).of_same (same.job i) ?_ same.ending
    rw [slotInUse_iff, slotInUse_iff, same.current, same.slot]

/-! ### The current band's record -/

/-- A band that runs has phase CURRENT, no outcome, and is not complete. -/
theorem JobSlot.Lawful.running {used ending : Prop} {j : JobSlot} (law : j.Lawful used ending) (current : used)
    (runs : ¬ ending) : j.record.phase = .current ∧ j.record.outcome = none ∧
      ∀ d, j.desc = some d → j.record.nextRing < d.nr := by
  have phase := law.current.mpr current
  have outcome : j.record.outcome = none := by
    rw [← Option.not_isSome_iff_eq_none]
    exact fun some => runs (law.outcome.mp some).2
  refine ⟨phase, outcome, fun d named => ?_⟩
  obtain ⟨le, iff⟩ := law.rings d named
  refine Nat.lt_of_le_of_ne le fun complete => ?_
  simpa [StatusRecord.isComplete, phase, outcome] using iff.mp complete

/-- The record of a running band at the entry to ENDING, with the band's rings cut or not. -/
theorem JobSlot.Lawful.ends {j : JobSlot} (law : j.Lawful True False) {o : BandOutcome} {k : JobSlot}
    (desc : k.desc = j.desc) (phase : k.record.phase = j.record.phase) (outcome : k.record.outcome = some o)
    (cut : k.record.ringsCut ≤ k.record.nextRing)
    (rings : ∀ d, j.desc = some d → k.record.nextRing ≤ d.nr ∧ (k.record.nextRing = d.nr ↔ o = .complete))
    (named : j.desc.isSome = true) : k.Lawful True True := by
  have current := law.current.mpr trivial
  refine ⟨?_, ?_, cut, fun d is => ?_, ?_⟩
  · rw [phase]
    exact law.current
  · simp [outcome]
  · obtain ⟨le, iff⟩ := rings d (desc ▸ is)
    refine ⟨le, iff.trans ?_⟩
    simp [StatusRecord.isComplete, phase, current, outcome]
  · rintro (none | never)
    · simp [desc ▸ none] at named
    · rw [phase, current] at never
      cases never

/-- The record of a band that ends its currency: the phase takes the outcome (R88). -/
theorem JobSlot.Lawful.endRun {j : JobSlot} (law : j.Lawful True True) (named : j.desc.isSome = true)
    {used ending : Prop} (free : ¬ used) :
    ({ j with record := j.record.endRun } : JobSlot).Lawful used ending := by
  obtain ⟨o, outcome⟩ := Option.isSome_iff_exists.mp (law.outcome.mpr ⟨trivial, trivial⟩)
  have current := law.current.mpr trivial
  have ended : j.record.endRun = { j.record with phase := o.phase, outcome := none } := by
    simp [StatusRecord.endRun, outcome]
  rw [ended]
  refine ⟨?_, ?_, law.cut, fun d is => ?_, ?_⟩
  · refine iff_of_false ?_ free
    cases o <;> simp [BandOutcome.phase]
  · exact iff_of_false (by simp) fun h => free h.1
  · obtain ⟨le, iff⟩ := law.rings d is
    refine ⟨le, iff.trans ?_⟩
    cases o <;> simp [StatusRecord.isComplete, current, outcome, BandOutcome.phase]
  · rintro (none | never)
    · simp [show j.desc = _ from none] at named
    · cases o <;> simp [BandOutcome.phase] at never

/-- The record of a disarmed band (R127). -/
theorem JobSlot.Lawful.disarm {j : JobSlot} (law : j.Lawful True False) (named : j.desc.isSome = true)
    {used ending : Prop} (free : ¬ used) :
    ({ j with record := j.record.disarm } : JobSlot).Lawful used ending := by
  obtain ⟨phase, outcome, more⟩ := law.running trivial id
  have next : j.record.disarm.nextRing = j.record.nextRing ∧ j.record.disarm.ringsCut = j.record.ringsCut ∧
      j.record.disarm.outcome = none ∧ (j.record.disarm.phase = .stopped ∨
        j.record.disarm.phase = .neverRun ∧ j.record.nextRing = 0) := by
    unfold StatusRecord.disarm
    split
    · exact ⟨rfl, rfl, outcome, .inl rfl⟩
    · next still =>
      refine ⟨rfl, rfl, outcome, .inr ⟨rfl, ?_⟩⟩
      simp only [Bool.or_eq_true, decide_eq_true_eq, not_or, not_lt, Nat.le_zero] at still
      exact still.1
  obtain ⟨ring, cut, none, phases⟩ := next
  refine ⟨?_, ?_, ?_, fun d is => ?_, ?_⟩
  · refine iff_of_false ?_ free
    rcases phases with h | ⟨h, -⟩ <;> simp [h]
  · exact iff_of_false (by simp [none]) fun h => free h.1
  · rw [ring, cut]
    exact law.cut
  · have below := more d is
    rw [show ({ j with record := j.record.disarm } : JobSlot).record = j.record.disarm from rfl, ring]
    refine ⟨Nat.le_of_lt below, iff_of_false (Nat.ne_of_lt below) ?_⟩
    rcases phases with h | ⟨h, -⟩ <;> simp [StatusRecord.isComplete, h]
  · rintro (no_desc | never)
    · simp [show j.desc = _ from no_desc] at named
    · rcases phases with h | ⟨-, zero⟩
      · rw [show ({ j with record := j.record.disarm } : JobSlot).record = j.record.disarm from rfl, h] at never
        cases never
      · exact ring.trans zero

/-- The record of an armed band (R94). -/
theorem JobSlot.Lawful.arm {used ending : Prop} {j : JobSlot} (law : j.Lawful used ending) (free : ¬ used)
    {d : Descriptor} (named : j.desc = some d) (rings : 1 ≤ d.nr) (restart : Bool)
    (fresh : restart = false → j.record.phase ≠ .complete) :
    ({ j with record := j.record.arm d.heads restart } : JobSlot).Lawful True False := by
  unfold StatusRecord.arm
  split
  · refine ⟨by simp, by simp [StatusRecord.fresh], Nat.le_refl 0, fun e is => ?_, ?_⟩
    · obtain rfl : d = e := Option.some.inj (named.symm.trans is)
      refine ⟨Nat.zero_le _, iff_of_false (show 0 ≠ d.nr by omega) ?_⟩
      simp [StatusRecord.isComplete, StatusRecord.fresh]
    · exact fun _ => rfl
  · next resumes =>
    simp only [Bool.or_eq_true, decide_eq_true_eq, not_or, Bool.not_eq_true] at resumes
    obtain ⟨keeps, ran⟩ := resumes
    have incomplete := fresh keeps
    refine ⟨by simp, by simp, law.cut, fun e is => ?_, ?_⟩
    · obtain ⟨le, iff⟩ := law.rings e is
      refine ⟨le, iff_of_false (fun complete => ?_) (by simp [StatusRecord.isComplete])⟩
      rcases iff.mp complete with done | ⟨current, -⟩
      · exact incomplete done
      · exact free (law.current.mp current)
    · rintro (none | never)
      · cases named.symm.trans none
      · cases never

/-- The record of a band whose ring is cut, not its last (R138). -/
theorem JobSlot.Lawful.ringDone {j : JobSlot} (law : j.Lawful True False) {d : Descriptor} (desc : j.desc = some d)
    (more : j.record.nextRing + 1 ≠ d.nr) : ({ j with record := j.record.ringDone } : JobSlot).Lawful True False := by
  obtain ⟨phase, outcome, below⟩ := law.running trivial id
  refine ⟨law.current, ?_, Nat.succ_le_succ law.cut, fun e named => ?_, ?_⟩
  · exact iff_of_false (by simp [StatusRecord.ringDone, outcome]) And.right
  · obtain rfl : d = e := Option.some.inj (desc.symm.trans named)
    exact ⟨below d desc, iff_of_false more (by simp [StatusRecord.isComplete, StatusRecord.ringDone, phase, outcome])⟩
  · rintro (none | never)
    · cases desc.symm.trans none
    · cases phase.symm.trans never

theorem JobSlot.lawful_empty {used ending : Prop} (free : ¬ used) : JobSlot.empty.Lawful used ending where
  current := iff_of_false (by decide) free
  outcome := iff_of_false (by decide) fun h => free h.1
  cut := Nat.le_refl 0
  rings d named := by cases named
  fresh _ := rfl

theorem JobSlot.lawful_written {used ending : Prop} (free : ¬ used) {i : Fin 64} {d : Descriptor} (fits : d.fits i) :
    (⟨some d, StatusRecord.fresh d.heads⟩ : JobSlot).Lawful used ending where
  current := iff_of_false (by simp [StatusRecord.fresh]) free
  outcome := iff_of_false (by simp [StatusRecord.fresh]) fun h => free h.1
  cut := Nat.le_refl 0
  rings e named := by
    obtain rfl : d = e := Option.some.inj named
    have rings : 1 ≤ d.nr := fits.2.2.2.2.2.2.1
    exact ⟨Nat.zero_le _, iff_of_false (show 0 ≠ d.nr by omega) (by simp [StatusRecord.isComplete, StatusRecord.fresh])⟩
  fresh _ := rfl

/-! ### The turns -/

theorem isCurrent_of_abortable {x : EngineState} (runs : x.abortable = true) : x.isCurrent = true := by
  cases x <;> simp_all [EngineState.isCurrent, EngineState.abortable]

theorem ne_ending_of_abortable {x : EngineState} (runs : x.abortable = true) : x ≠ .ending := by
  rintro rfl
  cases runs

/-- The current slot of a part whose records agree with the engine. -/
theorem RecordsOk.slot {s : State} (ok : RecordsOk s) (current : s.engine.state.isCurrent = true) :
    ∃ i d, s.engine.slot = some i ∧ s.jobs[i].desc = some d ∧ s.band = some d ∧ s.record = some s.jobs[i].record ∧
      s.nextRing = s.jobs[i].record.nextRing := by
  obtain ⟨i, slot, named⟩ := ok.1 current
  obtain ⟨d, desc⟩ := Option.isSome_iff_exists.mp named
  refine ⟨i, d, slot, desc, ?_, ?_, ?_⟩
  · exact State.band_eq_some_iff.mpr ⟨current, i, slot, desc⟩
  · simp [State.record, slot]
  · simp [State.nextRing, State.record, slot]

/-- A state whose engine is at rest with every slot lawful. -/
theorem RecordsOk.of_rest {t : State} (rest : t.engine.state.isCurrent = false)
    (law : ∀ i : Fin 64, t.jobs[i].Lawful False False) : RecordsOk t := by
  refine recordsOk_iff.mpr ⟨fun current => ?_, fun i => ?_⟩
  · rw [rest] at current
    cases current
  · refine (law i).unused id ?_
    rw [slotInUse_iff, rest]
    rintro ⟨⟨⟩, -⟩

/-- Every slot but the current one is lawful whatever the engine does. -/
theorem RecordsOk.others {s : State} (ok : RecordsOk s) {i j : Fin 64} (slot : s.engine.slot = some i) (other : i ≠ j)
    {used ending : Prop} (free : ¬ used) : s.jobs[j].Lawful used ending := by
  refine ((recordsOk_iff.mp ok).2 j).unused ?_ free
  rw [slotInUse_iff, slot]
  rintro ⟨-, same⟩
  exact other (Option.some.inj same)

/-- The current slot, while the engine runs the band. -/
theorem RecordsOk.running {s : State} (ok : RecordsOk s) {i : Fin 64} (slot : s.engine.slot = some i)
    (current : s.engine.state.isCurrent = true) (runs : s.engine.state ≠ .ending) : s.jobs[i].Lawful True False :=
  ((recordsOk_iff.mp ok).2 i).of_same (.rfl _) (by simp [slotInUse_iff, slot, current]) (by simp [runs])

/-- The current slot in ENDING. -/
theorem RecordsOk.atEnd {s : State} (ok : RecordsOk s) {i : Fin 64} (slot : s.engine.slot = some i)
    (ending : s.engine.state = .ending) : s.jobs[i].Lawful True True :=
  ((recordsOk_iff.mp ok).2 i).of_same (.rfl _) (by simp [slotInUse_iff, slot, ending, EngineState.isCurrent])
    (by simp [ending])

/-- A part whose engine has slot `i`, lawful by the engine's state, and the other slots lawful. -/
theorem RecordsOk.of_slot {t : State} {i : Fin 64} (current : t.engine.state.isCurrent = true)
    (slot : t.engine.slot = some i) (named : t.jobs[i].desc.isSome = true)
    (law : t.jobs[i].Lawful True (t.engine.state = .ending))
    (others : ∀ j, i ≠ j → t.jobs[j].Lawful False False) : RecordsOk t := by
  refine recordsOk_iff.mpr ⟨fun _ => ⟨i, slot, named⟩, fun j => ?_⟩
  by_cases same : i = j
  · subst same
    exact law.of_same (.rfl _) (by simp [slotInUse_iff, slot, current]) Iff.rfl
  · refine (others j same).unused id ?_
    rw [slotInUse_iff, slot]
    rintro ⟨-, h⟩
    exact same (Option.some.inj h)

/-- A running band enters ENDING with outcome `o`. -/
theorem RecordsOk.ends {s t : State} (ok : RecordsOk s) (runs : s.engine.state.abortable = true)
    {f : StatusRecord → StatusRecord} {o : BandOutcome} (state : t.engine.state = .ending)
    (slot : t.engine.slot = s.engine.slot) (job : ∀ i : Fin 64, t.jobs[i] = (modRecord f s).jobs[i])
    (kept : ∀ r, (f r).phase = r.phase ∧ (f r).outcome = some o)
    (rings : ∀ i d, s.engine.slot = some i → s.jobs[i].desc = some d → s.jobs[i].record.nextRing < d.nr →
      s.jobs[i].record.ringsCut ≤ s.jobs[i].record.nextRing →
        (f s.jobs[i].record).ringsCut ≤ (f s.jobs[i].record).nextRing ∧ (f s.jobs[i].record).nextRing ≤ d.nr ∧
          ((f s.jobs[i].record).nextRing = d.nr ↔ o = .complete)) : RecordsOk t := by
  have current := isCurrent_of_abortable runs
  obtain ⟨i, d, at_i, desc, -, -, -⟩ := ok.slot current
  have law := ok.running at_i current (ne_ending_of_abortable runs)
  obtain ⟨phase, outcome, below⟩ := law.running trivial id
  obtain ⟨cut, le, iff⟩ := rings i d at_i desc (below d desc) law.cut
  have here : t.jobs[i] = { s.jobs[i] with record := f s.jobs[i].record } := by
    rw [job, modRecord_job, if_pos at_i]
  have there (j : Fin 64) (other : i ≠ j) : t.jobs[j] = s.jobs[j] := by
    rw [job, modRecord_job, at_i, if_neg fun h => other (Option.some.inj h)]
  refine .of_slot (i := i) (by rw [state]; rfl) (slot.trans at_i) (by rw [here]; exact Option.isSome_of_mem desc) ?_ fun j other => ?_
  · rw [here]
    refine (law.ends (k := { s.jobs[i] with record := f s.jobs[i].record }) rfl (kept _).1 (kept _).2 cut
      (fun e is => ?_) (Option.isSome_of_mem desc)).of_same (.rfl _) Iff.rfl (by simp [state])
    obtain rfl : d = e := Option.some.inj (desc.symm.trans is)
    exact ⟨le, iff⟩
  · rw [there j other]
    exact ok.others at_i other id

/-- A slot that is not in use is written or cleared (R84, R85). -/
theorem RecordsOk.of_modJob {s : State} (ok : RecordsOk s) {i : Fin 64} {k : JobSlot} (free : s.slotInUse i = false)
    (law : k.Lawful False False) : RecordsOk (s.modJob i fun _ => k) := by
  obtain ⟨band, lawful⟩ := recordsOk_iff.mp ok
  have unused : ¬ s.slotInUse i = true := Bool.eq_false_iff.mp free
  refine recordsOk_iff.mpr ⟨fun current => ?_, fun j => ?_⟩
  · obtain ⟨m, slot, named⟩ := band current
    refine ⟨m, slot, ?_⟩
    rw [modJob_job, if_neg]
    · exact named
    · rintro rfl
      exact unused (slotInUse_iff.mpr ⟨current, slot⟩)
  · rw [modJob_job]
    split
    · next same => exact law.unused id (same ▸ unused)
    · exact lawful j

/-- Every slot when the current band's currency has ended (R88). -/
theorem RecordsOk.endCurrency {s : State} (ok : RecordsOk s) (ending : s.engine.state = .ending) (j : Fin 64)
    {used at_end : Prop} (free : ¬ used) : (endCurrency s).jobs[j].Lawful used at_end := by
  obtain ⟨i, d, at_i, desc, -, -, -⟩ := ok.slot (by rw [ending]; rfl)
  rw [endCurrency_job, modRecord_job]
  split
  · next same =>
    obtain rfl : i = j := Option.some.inj (at_i.symm.trans same)
    exact (ok.atEnd at_i ending).endRun (Option.isSome_of_mem desc) free
  · next other => exact ok.others at_i (fun h => other (at_i.trans (congrArg some h))) free

/-- A band armed in a part whose slots are all at rest (R94, R126). -/
theorem RecordsOk.of_arm {s t : State} {m : Fin 64} {d : Descriptor} {restart : Bool}
    (rest : ∀ j : Fin 64, s.jobs[j].Lawful False False) (desc : s.jobs[m].desc = some d) (rings : 1 ≤ d.nr)
    (fresh : restart = false → s.jobs[m].record.phase ≠ .complete) (slot : t.engine.slot = some m)
    (current : t.engine.state.isCurrent = true) (runs : t.engine.state ≠ .ending)
    (job : ∀ i : Fin 64, t.jobs[i] = (armSlot m d restart s).jobs[i]) : RecordsOk t := by
  have here : t.jobs[m] = { s.jobs[m] with record := s.jobs[m].record.arm d.heads restart } := by
    rw [job, armSlot_job, if_pos rfl]
  refine .of_slot current slot (by rw [here]; exact Option.isSome_of_mem desc) ?_ fun j other => ?_
  · rw [here]
    exact ((rest m).arm id desc rings restart fresh).of_same (.rfl _) Iff.rfl (by simp [runs])
  · rw [job, armSlot_job, if_neg other]
    exact rest j

theorem DescriptorsFit.rings {s : State} (fit : DescriptorsFit s) {i : Fin 64} {d : Descriptor}
    (desc : s.jobs[i].desc = some d) : 1 ≤ d.nr := (fit i d desc).2.2.2.2.2.2.1

/-- At rest every slot is unused. -/
theorem RecordsOk.rest {s : State} (ok : RecordsOk s) (rest : s.engine.state.isCurrent = false) (j : Fin 64) :
    s.jobs[j].Lawful False False :=
  ((recordsOk_iff.mp ok).2 j).unused (by rw [slotInUse_iff, rest]; rintro ⟨⟨⟩, -⟩) id

theorem runs_of_ringBeingCut {s : State} (cutting : s.ringBeingCut = true) :
    s.engine.state = .cutting ∧ s.engine.revPos = some .cut := by
  simpa [State.ringBeingCut] using cutting

/-- A ring of the current band is cut, not its last (R138). -/
theorem RecordsOk.ringDone {s : State} (ok : RecordsOk s) {d : Descriptor} (band : s.band = some d)
    (cutting : s.ringBeingCut = true) (more : s.nextRing + 1 ≠ d.nr) (acc : Nat) :
    RecordsOk (ringEnded d (counted acc s)) := by
  obtain ⟨state, -⟩ := runs_of_ringBeingCut cutting
  have current : s.engine.state.isCurrent = true := by rw [state]; rfl
  obtain ⟨i, e, at_i, desc, is, -, ring⟩ := ok.slot current
  obtain rfl : d = e := Option.some.inj (band.symm.trans is)
  have law := ok.running at_i current (by rw [state]; decide)
  rw [ring] at more
  have after : (ringEnded d (counted acc s)).engine.state = .cutting := by rw [ringEnded_engine]; exact state
  have here : (ringEnded d (counted acc s)).jobs[i] = { s.jobs[i] with record := s.jobs[i].record.ringDone } := by
    rw [ringEnded_job, modRecord_job]
    exact if_pos at_i
  refine .of_slot (i := i) (by rw [after]; rfl) (by rw [ringEnded_engine]; exact at_i) (by rw [here]; exact Option.isSome_of_mem desc) ?_
    fun j other => ?_
  · rw [here, after]
    exact (law.ringDone desc more).of_same (.rfl _) Iff.rfl (by simp)
  · rw [ringEnded_job, modRecord_job]
    refine (if_neg (show ¬ s.engine.slot = some j from ?_)).symm ▸ (ok.others at_i other id)
    rw [at_i]
    exact fun h => other (Option.some.inj h)

/-- The last ring of the current band is cut (R138, R144). -/
theorem RecordsOk.bandDone {s : State} (ok : RecordsOk s) {d : Descriptor} (band : s.band = some d)
    (cutting : s.ringBeingCut = true) (last : s.nextRing + 1 = d.nr) (acc : Nat) :
    RecordsOk (toEnding .complete none none (ringEnded d (counted acc s))) := by
  obtain ⟨state, -⟩ := runs_of_ringBeingCut cutting
  refine ok.ends (by rw [state]; rfl) (f := fun r => StatusRecord.withOutcome .complete none none r.ringDone)
    (o := .complete) (by rw [toEnding_engine]) (by rw [toEnding_engine, ringEnded_engine]; rfl) (fun i => ?_)
    (fun r => ⟨rfl, rfl⟩) (fun i e at_i desc below cut => ?_)
  · rw [toEnding_job, ← modRecord_modRecord StatusRecord.ringDone]
    refine modRecord_job_congr_job _ ?_ ?_
    · rw [ringEnded_engine, modRecord_engine]
      rfl
    · rw [ringEnded_job]
      exact modRecord_job_congr _ (s := s) (t := counted acc s) rfl rfl i
  · obtain ⟨k, f, at_k, named, is, -, ring⟩ := ok.slot (by rw [state]; rfl)
    obtain rfl : i = k := Option.some.inj (at_i.symm.trans at_k)
    obtain rfl : d = f := Option.some.inj (band.symm.trans is)
    obtain rfl : e = d := Option.some.inj (desc.symm.trans named)
    rw [ring] at last
    exact ⟨Nat.succ_le_succ cut, Nat.le_of_eq last, iff_of_true last rfl⟩

theorem Turn.recordsOk {s t : State} (turn : Turn s t) (ok : RecordsOk s) (fit : DescriptorsFit s) : RecordsOk t := by
  cases turn with
  | @aborted c h s u runs engine jobs =>
    refine ok.ends runs (f := StatusRecord.aborted (decide (u.engine.revPos = some .cut)) c h) (o := .aborted)
      (by rw [abortEntry_engine]) (by rw [abortEntry_engine, engine]) (fun i => ?_) (fun r => ?_) ?_
    · rw [abortEntry_job]
      exact modRecord_job_congr _ (by rw [engine]) jobs i
    · unfold StatusRecord.aborted
      split <;> exact ⟨rfl, rfl⟩
    · intro i d _ _ below cut
      have next : ∀ r b, (StatusRecord.aborted b c h r).nextRing = r.nextRing ∧
          (StatusRecord.aborted b c h r).ringsCut = r.ringsCut := by
        intro r b
        cases b <;> exact ⟨rfl, rfl⟩
      rw [(next _ _).1, (next _ _).2]
      exact ⟨cut, Nat.le_of_lt below, iff_of_false (Nat.ne_of_lt below) (by decide)⟩
  | stopped c runs whole =>
    refine ok.ends runs (f := StatusRecord.withOutcome .stopped (some c.endCause) none) (o := .stopped)
      (by rw [toEnding_engine]) (by rw [toEnding_engine]) (fun i => rfl) (fun r => ⟨rfl, rfl⟩) ?_
    exact fun i d _ _ below cut => ⟨cut, Nat.le_of_lt below, iff_of_false (Nat.ne_of_lt below) (by decide)⟩
  | ended e ending => exact .of_rest rfl fun j => ok.endCurrency ending j id
  | @chained m d s ending desc fresh =>
    have rest (j : Fin 64) := ok.endCurrency ending j (used := False) (at_end := False) id
    have rings : 1 ≤ d.nr := by
      rw [endCurrency_job, modRecord_desc] at desc
      exact fit.rings desc
    exact .of_arm rest desc rings (fun h => by cases h) rfl rfl (fun h => by cases h) (chained_job m d s)
  | disarmed armed =>
    obtain ⟨i, d, at_i, desc, -, -, -⟩ := ok.slot (by rw [armed]; rfl)
    refine .of_rest rfl fun j => ?_
    rw [disarmBand_job, modRecord_job]
    split
    · next same =>
      obtain rfl : i = j := Option.some.inj (at_i.symm.trans same)
      exact (ok.running at_i (by rw [armed]; rfl) (by rw [armed]; decide)).disarm (Option.isSome_of_mem desc) id
    · next other => exact ok.others at_i (fun h => other (at_i.trans (congrArg some h))) id
  | armed i d restart idle desc fresh =>
    exact .of_arm (fun j => ok.rest (by rw [idle]; rfl) j) desc (fit.rings desc) fresh rfl rfl (fun h => by cases h) fun _ => rfl
  | acknowledged ended => exact .of_rest rfl fun j => ok.rest (by rw [ended]; rfl) j
  | ringDone band cutting more => exact ok.ringDone band cutting more _
  | bandDone band cutting last => exact ok.bandDone band cutting last _
  | @descriptorWritten i d s free listed sound =>
    exact ok.of_modJob free (JobSlot.lawful_written id (d.build_fits listed sound))
  | @descriptorCleared i s free => exact ok.of_modJob free (JobSlot.lawful_empty id)

/-! ### Every step -/

theorem Move.recordsOk {s t : State} (move : Move s t) (ok : RecordsOk s) (fit : DescriptorsFit s) : RecordsOk t := by
  rcases move.band with same | turn
  · exact ok.of_sameBand same
  · exact turn.recordsOk ok fit

theorem blocksReset_job (a b : LineFilter) (s : State) (i : Fin 64) :
    (blocksReset a b s).jobs[i] = JobSlot.empty := by
  simp [blocksReset]

theorem descriptorsFit_blocksReset (a b : LineFilter) (s : State) : DescriptorsFit (blocksReset a b s) := by
  intro i d named
  rw [blocksReset_job] at named
  cases named

theorem recordsOk_blocksReset (a b : LineFilter) (s : State) : RecordsOk (blocksReset a b s) :=
  .of_rest rfl fun i => by
    rw [blocksReset_job]
    exact JobSlot.lawful_empty id

/-- The job table's law: descriptors in their limits, records in agreement with the engine. -/
structure JobsOk (s : State) : Prop where
  records : RecordsOk s
  fit : DescriptorsFit s

theorem JobsOk.of_sameBand {s t : State} (ok : JobsOk s) (same : SameBand s t) : JobsOk t :=
  ⟨ok.records.of_sameBand same, ok.fit.of_desc fun i => (same.job i).desc⟩

theorem JobsOk.aside {s t : State} (same : SameBlocks s t) (ok : JobsOk s) : JobsOk t :=
  ok.of_sameBand (.of_eq same.engine same.jobs)

theorem Move.jobsOk {s t : State} (move : Move s t) (ok : JobsOk s) : JobsOk t :=
  ⟨move.recordsOk ok.records ok.fit, move.descriptorsFit ok.fit⟩

theorem JobsOk.setStylus {s : State} (h : HeadId) (n : Nat) (ok : JobsOk s) : JobsOk (setStylus h n s) :=
  ok.of_sameBand (.of_eq rfl rfl)

theorem jobsOk_blocksReset (s : State) (a b : LineFilter) : JobsOk (blocksReset a b s) :=
  ⟨recordsOk_blocksReset a b s, descriptorsFit_blocksReset a b s⟩

/-- Settles O28: the law holds slot by slot; a move leaves the band and the progress alone, or is a turn, which writes the
current record, or a slot that is not in use, by the law. -/
theorem recordsAgreeWithTheEngine : Obligations.RecordsAgreeWithTheEngine := by
  intro s t ok fit run
  exact (step_keeps_blocks JobsOk.aside Move.jobsOk JobsOk.setStylus jobsOk_blocksReset run ⟨ok, fit⟩).records

theorem step_descriptorsFit {s t : State} (fit : DescriptorsFit s) (run : step s = .next t) : DescriptorsFit t :=
  step_keeps_blocks (I := DescriptorsFit) (fun same fit => fit.of_desc fun i => by rw [same.jobs])
    Move.descriptorsFit (fun _ _ fit => fit) (fun s a b => descriptorsFit_blocksReset a b s) run fit

end Sys2Proof.Machine
end

section
/-! PROOFS. The cell grid stays in its ranges (R2, R7, R9). -/

namespace Sys2Proof.Machine

/-- What Table 1-1 says of the grid, the position count apart: its ranges, that it is STOPPED outside PREPARING, CUTTING
and HELD, and that it stands at 0 unless it is RUNNING. -/
structure GridLaw (s : State) : Prop where
  acc : s.grid.acc < 1048576
  boundaries : ∀ d, s.band = some d → s.grid.boundaries ≤ d.nc + 1
  stopped : s.engine.state.abortable = false → s.grid.state = .stopped
  still : s.grid.state ≠ .running → s.grid.acc = 0 ∧ s.grid.boundaries = 0

theorem gridOk_iff {s : State} : GridOk s ↔ s.grid.position < 1048576 ∧ GridLaw s :=
  ⟨fun ⟨position, acc, boundaries, stopped, still⟩ => ⟨position, acc, boundaries, stopped, still⟩,
    fun ⟨position, law⟩ => ⟨position, law.acc, law.boundaries, law.stopped, law.still⟩⟩

/-- A grid at rest at 0. -/
theorem GridLaw.of_zero {s : State} (acc : s.grid.acc = 0) (boundaries : s.grid.boundaries = 0)
    (stopped : s.engine.state.abortable = false → s.grid.state = .stopped) : GridLaw s where
  acc := by omega
  boundaries d _ := by omega
  stopped := stopped
  still _ := ⟨acc, boundaries⟩

/-- A part whose grid is STOPPED. -/
theorem GridLaw.of_stopped {s t : State} (law : GridLaw s) (rests : s.engine.state.abortable = false)
    (grid : t.grid = s.grid) : GridLaw t := by
  have stopped := law.stopped rests
  obtain ⟨acc, boundaries⟩ := law.still (by rw [stopped]; decide)
  refine .of_zero (by rw [grid, acc]) (by rw [grid, boundaries]) fun _ => by rw [grid, stopped]

theorem SameBand.band {s t : State} (same : SameBand s t) : t.band = s.band :=
  State.band_of_engine same.current same.slot fun i => (same.job i).desc

theorem SameBand.headInUse {s t : State} (same : SameBand s t) : t.headInUse = s.headInUse :=
  State.headInUse_of_engine same.current same.slot fun i => (same.job i).desc

theorem SameBand.nextRing {s t : State} (same : SameBand s t) : t.nextRing = s.nextRing := by
  unfold State.nextRing State.record
  rw [same.slot]
  cases s.engine.slot with
  | none => rfl
  | some i => exact (same.job i).nextRing

theorem SameBand.not_abortable {s t : State} (same : SameBand s t) (rests : t.engine.state.abortable = false) :
    s.engine.state.abortable = false := by
  by_contra runs
  rw [same.abortable (by simpa using runs)] at rests
  cases rests

/-- The grid and the band stay. -/
theorem GridLaw.of_same {s t : State} (law : GridLaw s) (same : SameBand s t) (state : t.grid.state = s.grid.state)
    (acc : t.grid.acc = s.grid.acc) (boundaries : t.grid.boundaries = s.grid.boundaries) : GridLaw t where
  acc := acc ▸ law.acc
  boundaries d band := by
    rw [boundaries]
    exact law.boundaries d (same.band ▸ band)
  stopped rests := by
    rw [state]
    exact law.stopped (same.not_abortable rests)
  still := by
    rw [state, acc, boundaries]
    exact law.still

/-- A RUNNING grid goes on. -/
theorem GridLaw.of_running {s t : State} (law : GridLaw s) (running : s.grid.state = .running)
    (runs : s.engine.state.abortable = true → t.engine.state.abortable = true) (state : t.grid.state = .running)
    (acc : t.grid.acc < 1048576) (boundaries : ∀ d, t.band = some d → t.grid.boundaries ≤ d.nc + 1) : GridLaw t where
  acc := acc
  boundaries := boundaries
  stopped rests := by
    refine absurd (runs ?_) (by simp [rests])
    by_contra other
    have stopped := law.stopped (by simpa using other)
    rw [running] at stopped
    cases stopped
  still := fun other => absurd state other

theorem nc_le {s : State} (fit : DescriptorsFit s) {d : Descriptor} (band : s.band = some d) : d.nc ≤ 65535 := by
  obtain ⟨_, i, _, desc⟩ := State.band_eq_some_iff.mp band
  obtain ⟨-, -, -, -, -, -, -, -, -, -, nc, -⟩ := fit i d desc
  exact nc

theorem Carries.acc_lt {d : Descriptor} {acc : Nat} {s : State} (carries : Carries d acc s) (law : GridLaw s)
    (fit : DescriptorsFit s) : acc < 1048576 := by
  have below := law.acc
  have nc := nc_le fit carries.band
  have sum : acc + 1048576 = s.grid.acc + d.nc := carries.carry
  omega

theorem presetFor_lt (r g : Nat) : presetFor r g < 1048576 := by
  have below : r * g % 16 < 16 := Nat.mod_lt _ (by decide)
  unfold presetFor Config.presetUnit
  omega

/-- After a boundary the count is at most Nc + 1 (R9). -/
theorem GridLaw.counted {d : Descriptor} {acc : Nat} {s t : State} (law : GridLaw s) (fit : DescriptorsFit s)
    (carries : Carries d acc s) (grid : t.grid = (counted acc s).grid) (band : t.band = s.band)
    (runs : s.engine.state.abortable = true → t.engine.state.abortable = true) : GridLaw t := by
  have fields : (Machine.counted acc s).grid.state = s.grid.state ∧ (Machine.counted acc s).grid.acc = acc ∧
      (Machine.counted acc s).grid.boundaries = s.grid.boundaries + 1 := ⟨rfl, rfl, rfl⟩
  obtain ⟨state, acc_eq, boundaries⟩ := fields
  refine law.of_running carries.running runs (by rw [grid, state, carries.running]) ?_ fun e is => ?_
  · rw [grid, acc_eq]
    exact carries.acc_lt law fit
  · rw [band, carries.band] at is
    obtain rfl := Option.some.inj is
    rw [grid, boundaries]
    exact Nat.succ_le_succ carries.counts

theorem ringEnded_grid (d : Descriptor) (s : State) : (ringEnded d s).grid = s.grid := by
  unfold ringEnded
  split <;> simp

theorem ringEnded_desc (d : Descriptor) (s : State) (i : Fin 64) : (ringEnded d s).jobs[i].desc = s.jobs[i].desc := by
  rw [ringEnded_job, modRecord_desc]

theorem abortEntry_grid (c : EndCause) (h : Option HeadId) (s : State) :
    (abortEntry c h s).grid.state = .stopped ∧ (abortEntry c h s).grid.acc = 0 ∧
      (abortEntry c h s).grid.boundaries = 0 := ⟨rfl, rfl, rfl⟩

/-- A slot that is not in use is not the current band's. -/
theorem band_modJob {s : State} {i : Fin 64} (free : s.slotInUse i = false) (k : JobSlot) :
    (s.modJob i fun _ => k).band = s.band := by
  have unused : ¬ (s.engine.state.isCurrent = true ∧ s.engine.slot = some i) := by
    rw [← slotInUse_iff, free]
    exact Bool.false_ne_true
  refine Option.ext fun d => ?_
  simp only [State.band_eq_some_iff, State.modJob_engine]
  refine and_congr_right fun current => exists_congr fun j => and_congr_right fun slot => ?_
  rw [modJob_job, if_neg fun same : i = j => unused ⟨current, same ▸ slot⟩]

theorem enterEnded_grid (e : EventKind) (s : State) : (enterEnded e s).grid = s.grid := by simp

theorem disarmBand_grid (s : State) : (disarmBand s).grid = s.grid := by simp

theorem Move.gridLaw {s t : State} (move : Move s t) (law : GridLaw s) (fit : DescriptorsFit s) : GridLaw t := by
  cases move
  case aborted c h f runs => exact .of_zero rfl rfl fun _ => rfl
  case cutAborted c runs => exact .of_zero rfl rfl fun _ => rfl
  case stopped c runs whole => exact .of_zero rfl rfl fun _ => rfl
  case bandDone d acc carries cutting last done => exact .of_zero rfl rfl fun _ => rfl
  case ended e ending => exact law.of_stopped (by rw [ending]; rfl) (enterEnded_grid e s)
  case chained m d ending desc fresh => exact .of_zero rfl rfl fun rests => by cases rests
  case disarmed armed => exact law.of_stopped (by rw [armed]; rfl) (disarmBand_grid s)
  case armed i d restart idle desc fresh => exact law.of_stopped (by rw [idle]; rfl) rfl
  case acknowledged ended => exact law.of_stopped (by rw [ended]; rfl) rfl
  case started armed => exact .of_zero rfl rfl fun rests => by cases rests
  case accumulated d acc running band sum =>
    refine law.of_running running id running ?_ law.boundaries
    have below := law.acc
    have nc := nc_le fit band
    rcases sum with ⟨-, below⟩ | carry
    · exact below
    · have carry : acc + 1048576 = s.grid.acc + d.nc := carry
      show acc < 1048576
      omega
  case passed d acc carries above => exact law.counted fit carries rfl rfl id
  case latched d acc carries cutting below =>
    exact law.counted fit carries (by simp) (SameBand.latched d acc s).band (by simp [Machine.counted])
  case ringDone d acc carries cutting last more =>
    refine law.counted fit carries (ringEnded_grid d _) ?_ (by rw [ringEnded_engine]; exact id)
    exact State.band_of_engine (by rw [ringEnded_engine]; rfl) (by rw [ringEnded_engine]; rfl) (ringEnded_desc d _)
  case preset now r g silent =>
    by_cases stopped : s.grid.state = .stopped
    · obtain ⟨acc, boundaries⟩ := law.still (by rw [stopped]; decide)
      refine .of_zero ?_ ?_ fun _ => ?_ <;> simp [Grid.index, stopped, acc, boundaries]
    · have running : (s.modGrid (Grid.index now (presetFor r g))).grid.state = .running := by
        simp [Grid.index, stopped]
      refine ⟨?_, fun d _ => ?_, fun rests => absurd (law.stopped rests) stopped, fun other => absurd running other⟩
      · have preset : (s.modGrid (Grid.index now (presetFor r g))).grid.acc = presetFor r g := by
          simp [Grid.index, stopped]
        rw [preset]
        exact presetFor_lt r g
      · simp [Grid.index, stopped]
  case descriptorWritten i d listed sound free =>
    exact ⟨law.acc, fun e is => law.boundaries e (band_modJob free _ ▸ is), law.stopped, law.still⟩
  case descriptorCleared i free =>
    exact ⟨law.acc, fun e is => law.boundaries e (band_modJob free _ ▸ is), law.stopped, law.still⟩
  case position f state acc boundaries =>
    exact law.of_same (.of_eq rfl rfl) state acc boundaries
  case tally f run => exact law.of_same (.tally run) (by simp) (by simp) (by simp)
  case cuttingBegun d runs band ready silent fresh =>
    exact law.of_same (.cuttingBegun d runs) (by simp) (by simp) (by simp)
  case paramsWritten h p fits =>
    have grid := storeParams_grid h p s
    exact law.of_same (.paramsWritten h p s) (by rw [grid]) (by rw [grid]) (by rw [grid])
  case counters f state slot pos => exact law.of_same (.counters state slot) rfl rfl rfl
  case resumed held => exact law.of_same (.resumed held) rfl rfl rfl
  case held r runs whole => exact law.of_same (.held r runs) rfl rfl rfl
  case idleBegun f runs silent state slot pos => exact law.of_same (.idleBegun runs state slot) rfl rfl rfl
  all_goals exact law.of_same (.of_eq rfl rfl) rfl rfl rfl

/-! ### Every step -/

/-- The grid's law with the descriptors' limits, which it rests on. -/
structure GridFits (s : State) : Prop where
  law : GridLaw s
  fit : DescriptorsFit s

theorem GridFits.aside {s t : State} (same : SameBlocks s t) (fits : GridFits s) : GridFits t where
  law := fits.law.of_same (.of_eq same.engine same.jobs) (by rw [same.grid]) (by rw [same.grid]) (by rw [same.grid])
  fit := fits.fit.of_desc fun i => by rw [same.jobs]

theorem Move.gridFits {s t : State} (move : Move s t) (fits : GridFits s) : GridFits t :=
  ⟨move.gridLaw fits.law fits.fit, move.descriptorsFit fits.fit⟩

theorem gridLaw_blocksReset (s : State) (a b : LineFilter) : GridLaw (blocksReset a b s) :=
  .of_zero rfl rfl fun _ => rfl

theorem step_position_lt {s t : State} (below : s.grid.position < 1048576) (run : step s = .next t) :
    t.grid.position < 1048576 := by
  unfold step at run
  split at run
  · exact exec_position_lt (by rwa [State.withPending_grid]) run
  · obtain rfl : tick s = t := Host.Outcome.next.inj run
    have same : (tick s).grid = s.grid := by simp [tick]
    rwa [same]

/-- Settles O8: the position count by what a command does to it; the rest, and the descriptors' limits it rests on, move
by move. -/
theorem gridStaysInRange : Obligations.GridStaysInRange := by
  intro s t grid fit run
  obtain ⟨position, law⟩ := gridOk_iff.mp grid
  have fits : GridFits t := step_keeps_blocks GridFits.aside Move.gridFits (fun _ _ fits => ⟨fits.law.of_same (.of_eq rfl rfl) rfl rfl rfl, fits.fit⟩)
    (fun s a b => ⟨gridLaw_blocksReset s a b, descriptorsFit_blocksReset a b s⟩) run ⟨law, fit⟩
  exact ⟨gridOk_iff.mpr ⟨step_position_lt position run, fits.law⟩, fits.fit⟩

end Sys2Proof.Machine
end

section
/-! SUPPORT. The law of R102 for one head's slots outside ENDING: the five shapes that two slots can have, and what each
operation on the slots makes of a shape. -/

namespace Sys2Proof.Machine

/-! ### Shapes -/

/-- A READY slot with ring `r`, whole and with its ring check (R101, R109). -/
def RingSlot.IsReady (r nr cut : Nat) (x : RingSlot) : Prop :=
  ∃ tones check mark, x = .ready r tones check mark ∧ r < nr ∧ tones.length = cut ∧ check = ringCheck tones

/-- A CUTTING slot with ring `r`, whole and with its ring check (R111). -/
def RingSlot.IsCutting (r nr cut : Nat) (x : RingSlot) : Prop :=
  ∃ tones check mark, x = .cutting r tones check mark ∧ r < nr ∧ tones.length = cut ∧ check = ringCheck tones

/-- A FILLING slot with ring `r`, at most L tones and their running check (R105). -/
def RingSlot.IsFilling (r nr cut : Nat) (x : RingSlot) : Prop :=
  ∃ tones check, x = .filling r tones check ∧ r < nr ∧ tones.length ≤ cut ∧ check = ringCheck tones

/-- The two slots of a head and its next-fill ring outside ENDING, the older ring first: nothing staged, ring `n` FILLING,
ring `n` closed, and ring `n` closed with ring `n + 1` FILLING or READY (R102, R103). -/
inductive Stage (n nr cut : Nat) : RingSlot → RingSlot → Option Nat → Prop
  | bare : Stage n nr cut .empty .empty (some n)
  | filling {x : RingSlot} : x.IsFilling n nr cut → Stage n nr cut x .empty (some n)
  | closed {x : RingSlot} : x.IsReady n nr cut ∨ x.IsCutting n nr cut → Stage n nr cut x .empty (some (n + 1))
  | next {x y : RingSlot} : x.IsReady n nr cut ∨ x.IsCutting n nr cut → y.IsFilling (n + 1) nr cut →
    Stage n nr cut x y (some (n + 1))
  | both {x y : RingSlot} : x.IsReady n nr cut ∨ x.IsCutting n nr cut → y.IsReady (n + 1) nr cut →
    Stage n nr cut x y (some (n + 2))

/-- A head's slots have one of the shapes, in one order or the other. -/
def HeadStaging.Staged (n nr cut : Nat) (t : HeadStaging) : Prop :=
  Stage n nr cut t.slotA t.slotB t.nf ∨ Stage n nr cut t.slotB t.slotA t.nf

/-- The law of R102 outside ENDING: the law of the slots, and the next-fill ring is `n` plus the closed rings, which lie
below it. -/
def HeadStaging.Open (n nr cut : Nat) (t : HeadStaging) : Prop :=
  t.lawful n nr cut ∧ t.nf = some (n + t.slotA.closedRings + t.slotB.closedRings) ∧
    ∀ x, (x = t.slotA ∨ x = t.slotB) → x.closedRings = 1 → ∀ r f, x.ring = some r → t.nf = some f → r < f

/-- The law with the slots' order turned. -/
theorem HeadStaging.Open.swap {n nr cut : Nat} {a b : RingSlot} {nf : Option Nat}
    (law : HeadStaging.Open n nr cut ⟨a, b, nf⟩) : HeadStaging.Open n nr cut ⟨b, a, nf⟩ := by
  obtain ⟨⟨lawA, lawB, apart, range⟩, next, below⟩ := law
  refine ⟨⟨lawB, lawA, fun x y hx hy => (apart y x hy hx).symm, range⟩, ?_, fun x hx => below x hx.symm⟩
  rw [next]
  exact congrArg some (by dsimp only; omega)

theorem Stage.staged {n nr cut : Nat} {a b : RingSlot} {nf : Option Nat} (stage : Stage n nr cut a b nf) :
    HeadStaging.Open n nr cut ⟨a, b, nf⟩ := by
  have closed {x : RingSlot} (h : x.IsReady n nr cut ∨ x.IsCutting n nr cut) (f : Option Nat) :
      x.lawful n nr cut f ∧ x.ring = some n ∧ x.closedRings = 1 := by
    rcases h with ⟨t, c, m, rfl, high, whole, check⟩ | ⟨t, c, m, rfl, high, whole, check⟩
    · exact ⟨⟨.inl rfl, high, whole, check⟩, rfl, rfl⟩
    · exact ⟨⟨rfl, high, whole, check⟩, rfl, rfl⟩
  cases stage with
  | bare =>
    refine ⟨⟨trivial, trivial, ?_, ?_⟩, rfl, ?_⟩
    · intro x y hx
      cases hx
    · rintro f ⟨⟩
      omega
    · rintro x (rfl | rfl) one
      all_goals cases one
  | filling fills =>
    obtain ⟨t, c, rfl, high, fits, check⟩ := fills
    refine ⟨⟨⟨rfl, high, fits, check⟩, trivial, ?_, ?_⟩, rfl, ?_⟩
    · intro x y _ hy
      cases hy
    · rintro f ⟨⟩
      omega
    · rintro x (rfl | rfl) one
      all_goals cases one
  | closed is =>
    obtain ⟨law, ring, one⟩ := closed is (some (n + 1))
    refine ⟨⟨law, trivial, ?_, ?_⟩, ?_, ?_⟩
    · intro x y _ hy
      cases hy
    · rintro f ⟨⟩
      omega
    · rw [one]
      rfl
    · rintro x (rfl | rfl) is_one r f is_r ⟨⟩
      · obtain rfl : n = r := Option.some.inj (ring.symm.trans is_r)
        omega
      · cases is_one
  | next is fills =>
    obtain ⟨law, ring, one⟩ := closed is (some (n + 1))
    obtain ⟨t, c, rfl, high, fits, check⟩ := fills
    refine ⟨⟨law, ⟨rfl, high, fits, check⟩, ?_, ?_⟩, ?_, ?_⟩
    · intro x y hx hy
      obtain rfl : n = x := Option.some.inj (ring.symm.trans hx)
      exact .inl (Option.some.inj hy)
    · rintro f ⟨⟩
      omega
    · rw [one]
      rfl
    · rintro x (rfl | rfl) is_one r f is_r ⟨⟩
      · obtain rfl : n = r := Option.some.inj (ring.symm.trans is_r)
        omega
      · cases is_one
  | both is ready =>
    obtain ⟨law, ring, one⟩ := closed is (some (n + 2))
    obtain ⟨t, c, m, rfl, high, whole, check⟩ := ready
    refine ⟨⟨law, ⟨.inr rfl, high, whole, check⟩, ?_, ?_⟩, ?_, ?_⟩
    · intro x y hx hy
      obtain rfl : n = x := Option.some.inj (ring.symm.trans hx)
      exact .inl (Option.some.inj hy)
    · rintro f ⟨⟩
      omega
    · rw [one]
      rfl
    · rintro x (rfl | rfl) is_one r f is_r ⟨⟩
      · obtain rfl : n = r := Option.some.inj (ring.symm.trans is_r)
        omega
      · obtain rfl : n + 1 = r := Option.some.inj is_r
        omega

theorem HeadStaging.Staged.open {n nr cut : Nat} {t : HeadStaging} (staged : t.Staged n nr cut) : t.Open n nr cut := by
  rcases staged with stage | stage
  · exact stage.staged
  · exact stage.staged.swap

/-- A slot that keeps the law of R102 is EMPTY, FILLING with the next-fill ring, or closed. -/
theorem RingSlot.lawful_cases {n nr cut : Nat} {nf : Option Nat} {x : RingSlot} (law : x.lawful n nr cut nf) :
    x = .empty ∨ (∃ r, nf = some r ∧ x.IsFilling r nr cut ∧ x.ring = some r ∧ x.closedRings = 0) ∨
      (∃ r, (r = n ∨ r = n + 1) ∧ x.IsReady r nr cut ∧ x.ring = some r ∧ x.closedRings = 1) ∨
      x.IsCutting n nr cut ∧ x.ring = some n ∧ x.closedRings = 1 := by
  cases x with
  | empty => exact .inl rfl
  | filling r t c =>
    obtain ⟨next, high, fits, check⟩ := law
    exact .inr (.inl ⟨r, next, ⟨t, c, rfl, high, fits, check⟩, rfl, rfl⟩)
  | ready r t c m =>
    obtain ⟨ring, high, whole, check⟩ := law
    exact .inr (.inr (.inl ⟨r, ring, ⟨t, c, m, rfl, high, whole, check⟩, rfl, rfl⟩))
  | cutting r t c m =>
    obtain ⟨rfl, high, whole, check⟩ := law
    exact .inr (.inr (.inr ⟨⟨t, c, m, rfl, high, whole, check⟩, rfl, rfl⟩))

/-- With slot B EMPTY. -/
theorem Stage.of_one {n nr cut : Nat} {a : RingSlot} {nf : Option Nat}
    (law : HeadStaging.Open n nr cut ⟨a, .empty, nf⟩) : Stage n nr cut a .empty nf := by
  obtain ⟨⟨lawA, -, -, -⟩, next, below⟩ := law
  have empty : RingSlot.closedRings .empty = 0 := rfl
  dsimp only at lawA next
  rw [empty, Nat.add_zero] at next
  subst next
  rcases RingSlot.lawful_cases lawA with rfl | ⟨r, is_r, filling, -, zero⟩ | ⟨r, range, ready, ring, one⟩ | ⟨cutting, -, one⟩
  · exact .bare
  · rw [zero] at is_r ⊢
    obtain rfl : n = r := Option.some.inj is_r
    exact .filling filling
  · have less := below a (.inl rfl) one r _ ring rfl
    rw [one] at less ⊢
    obtain rfl : r = n := by omega
    exact .closed (.inl ready)
  · rw [one]
    exact .closed (.inr cutting)

/-- With both slots occupied and the older ring in slot A. -/
theorem Stage.of_two {n nr cut : Nat} {a b : RingSlot} {nf : Option Nat} (law : HeadStaging.Open n nr cut ⟨a, b, nf⟩)
    {x : Nat} (ringA : a.ring = some x) (ringB : b.ring = some (x + 1)) : Stage n nr cut a b nf := by
  obtain ⟨⟨lawA, lawB, -, -⟩, next, below⟩ := law
  dsimp only at lawA lawB next
  have older : a.closedRings = 1 ∧ (x = n ∨ x = n + 1) ∧ (a.IsReady x nr cut ∨ a.IsCutting x nr cut) := by
    rcases RingSlot.lawful_cases lawA with rfl | ⟨r, is_r, -, ring, -⟩ | ⟨r, range, ready, ring, one⟩ | ⟨cutting, ring, one⟩
    · cases ringA
    · exfalso
      obtain rfl : r = x := Option.some.inj (ring.symm.trans ringA)
      rcases RingSlot.lawful_cases lawB with rfl | ⟨q, is_q, -, ring', -⟩ | ⟨q, -, -, ring', one⟩ | ⟨-, ring', one⟩
      · cases ringB
      · have same : r = q := Option.some.inj (is_r.symm.trans is_q)
        have succ : q = r + 1 := Option.some.inj (ring'.symm.trans ringB)
        omega
      · have less := below b (.inr rfl) one _ _ ringB is_r
        omega
      · have less := below b (.inr rfl) one _ _ ringB is_r
        omega
    · obtain rfl : r = x := Option.some.inj (ring.symm.trans ringA)
      exact ⟨one, range, .inl ready⟩
    · obtain rfl : n = x := Option.some.inj (ring.symm.trans ringA)
      exact ⟨one, .inl rfl, .inr cutting⟩
  obtain ⟨oneA, range, closed⟩ := older
  rcases RingSlot.lawful_cases lawB with rfl | ⟨q, is_q, filling, ring, zero⟩ | ⟨q, orB, ready, ring, one⟩ | ⟨-, ring, -⟩
  · cases ringB
  · obtain rfl : q = x + 1 := Option.some.inj (ring.symm.trans ringB)
    have count := Option.some.inj (next.symm.trans is_q)
    rw [oneA, zero] at count
    obtain rfl : n = x := by omega
    rw [is_q]
    exact .next closed filling
  · obtain rfl : q = x + 1 := Option.some.inj (ring.symm.trans ringB)
    obtain rfl : x = n := by omega
    rw [next, oneA, one]
    exact .both closed ready
  · have same : n = x + 1 := Option.some.inj (ring.symm.trans ringB)
    omega

theorem RingSlot.ring_eq_none {x : RingSlot} (none : x.ring = none) : x = .empty := by
  cases x with
  | empty => rfl
  | _ => cases none

theorem HeadStaging.Open.staged {n nr cut : Nat} {t : HeadStaging} (law : t.Open n nr cut) : t.Staged n nr cut := by
  obtain ⟨a, b, nf⟩ := t
  cases ringB : b.ring with
  | none =>
    obtain rfl := RingSlot.ring_eq_none ringB
    exact .inl (.of_one law)
  | some y =>
    cases ringA : a.ring with
    | none =>
      obtain rfl := RingSlot.ring_eq_none ringA
      exact .inr (.of_one law.swap)
    | some x =>
      rcases law.1.2.2.1 x y ringA ringB with rfl | rfl
      · exact .inl (.of_two law ringA ringB)
      · exact .inr (.of_two law.swap ringB ringA)

theorem HeadStaging.open_iff {n nr cut : Nat} {t : HeadStaging} : t.Open n nr cut ↔ t.Staged n nr cut :=
  ⟨HeadStaging.Open.staged, HeadStaging.Staged.open⟩

/-! ### The operations on a shape -/

section
variable {n nr cut : Nat} {a b : RingSlot} {nf : Option Nat}

/-- A slot of a closed ring is left alone by what acts on FILLING slots. -/
theorem RingSlot.of_closed {x : RingSlot} {r : Nat} (closed : x.IsReady r nr cut ∨ x.IsCutting r nr cut) :
    x.isEmpty = false ∧ x.fillingCount = none ∧ x.fillingOf = none ∧ (∀ tones, x.store tones = x) ∧
      x.dropFilling = x ∧ ∀ mark, x.close mark = x := by
  rcases closed with ⟨t, c, m, rfl, -⟩ | ⟨t, c, m, rfl, -⟩ <;> exact ⟨rfl, rfl, rfl, fun _ => rfl, rfl, fun _ => rfl⟩

/-- Tones stored at the end of a FILLING ring that has room for them (R105). -/
theorem RingSlot.IsFilling.store {x : RingSlot} {r : Nat} (filling : x.IsFilling r nr cut) {offset : Nat}
    (count : x.fillingCount = some offset) {tones : List Byte} (room : offset + tones.length ≤ cut) :
    (x.store tones).IsFilling r nr cut := by
  obtain ⟨t, c, rfl, high, fits, check⟩ := filling
  obtain rfl : t.length = offset := Option.some.inj count
  refine ⟨t ++ tones, _, rfl, high, by rwa [List.length_append], ?_⟩
  rw [check, ringCheck, ringCheck, runCheck_append, Nat.zero_add]

/-- A ring begun with tones that fit (R105). -/
theorem RingSlot.begin_isFilling {r : Nat} (high : r < nr) {tones : List Byte} (room : tones.length ≤ cut) :
    (RingSlot.begin r tones).IsFilling r nr cut :=
  ⟨tones, _, rfl, high, room, rfl⟩

theorem RingSlot.IsFilling.close {x : RingSlot} {r received check : Nat} (filling : x.IsFilling r nr cut)
    (of : x.fillingOf = some (received, cut, check)) (mark : Bool) : (x.close mark).IsReady r nr cut := by
  obtain ⟨t, c, rfl, high, fits, sum⟩ := filling
  simp only [RingSlot.fillingOf, Option.some.injEq, Prod.mk.injEq] at of
  exact ⟨t, c, mark, rfl, high, of.2.1, sum⟩

/-- At most one slot is FILLING, and none with both rings closed (R102). -/
theorem Stage.one_filling (stage : Stage n nr cut a b nf) : a.fillingCount = none ∨ b.fillingCount = none := by
  cases stage with
  | bare => exact .inl rfl
  | filling => exact .inr rfl
  | closed => exact .inr rfl
  | next closed => exact .inl (RingSlot.of_closed closed).2.1
  | both closed => exact .inl (RingSlot.of_closed closed).2.1

theorem RingSlot.IsFilling.count {x : RingSlot} {r : Nat} (filling : x.IsFilling r nr cut) :
    ∃ o, x.fillingCount = some o := by
  obtain ⟨t, c, rfl, -⟩ := filling
  exact ⟨_, rfl⟩

theorem Stage.store (stage : Stage n nr cut a b nf) {tones : List Byte}
    (room : ∀ o, a.fillingCount = some o ∨ b.fillingCount = some o → o + tones.length ≤ cut) :
    Stage n nr cut (a.store tones) (b.store tones) nf := by
  cases stage with
  | bare => exact .bare
  | filling filling =>
    obtain ⟨o, count⟩ := filling.count
    exact .filling (filling.store count (room o (.inl count)))
  | closed closed =>
    rw [(RingSlot.of_closed closed).2.2.2.1]
    exact .closed closed
  | next closed filling =>
    obtain ⟨o, count⟩ := filling.count
    rw [(RingSlot.of_closed closed).2.2.2.1]
    exact .next closed (filling.store count (room o (.inr count)))
  | both closed ready =>
    rw [(RingSlot.of_closed closed).2.2.2.1, (RingSlot.of_closed (.inl ready)).2.2.2.1]
    exact .both closed ready

theorem Stage.dropFilling (stage : Stage n nr cut a b nf) : Stage n nr cut a.dropFilling b.dropFilling nf := by
  cases stage with
  | bare => exact .bare
  | filling filling =>
    obtain ⟨t, c, rfl, -⟩ := filling
    exact .bare
  | closed closed =>
    rw [(RingSlot.of_closed closed).2.2.2.2.1]
    exact .closed closed
  | next closed filling =>
    obtain ⟨t, c, rfl, -⟩ := filling
    rw [(RingSlot.of_closed closed).2.2.2.2.1]
    exact .closed closed
  | both closed ready =>
    rw [(RingSlot.of_closed closed).2.2.2.2.1, (RingSlot.of_closed (.inl ready)).2.2.2.2.1]
    exact .both closed ready

/-- The FILLING ring, whole, is closed (R109). -/
theorem Stage.close (stage : Stage n nr cut a b nf) {r check : Nat}
    (whole : a.fillingOf = some (r, cut, check) ∨ b.fillingOf = some (r, cut, check)) (mark : Bool) :
    Stage n nr cut (a.close mark) (b.close mark) (nf.map fun f => f + 1) := by
  cases stage with
  | bare => rcases whole with h | h <;> cases h
  | filling filling => exact .closed (.inl (filling.close (whole.resolve_right fun h => by cases h) mark))
  | closed closed =>
    rw [(RingSlot.of_closed closed).2.2.1] at whole
    rcases whole with h | h <;> cases h
  | next closed filling =>
    obtain ⟨-, -, none, -, -, same⟩ := RingSlot.of_closed closed
    rw [none] at whole
    rw [same]
    exact .both closed (filling.close (whole.resolve_left fun h => by cases h) mark)
  | both closed ready =>
    rw [(RingSlot.of_closed closed).2.2.1, (RingSlot.of_closed (.inl ready)).2.2.1] at whole
    rcases whole with h | h <;> cases h

/-- FILLING and READY rings discarded; the next-fill ring becomes the CUTTING ring + 1, or the next ring (R115). -/
theorem Stage.discard (stage : Stage n nr cut a b nf) :
    Stage n nr cut a.discard b.discard
      (match a.cuttingRing <|> b.cuttingRing with
        | some r => some (r + 1)
        | none => some n) := by
  cases stage with
  | bare => exact .bare
  | filling filling =>
    obtain ⟨t, c, rfl, -⟩ := filling
    exact .bare
  | closed closed =>
    rcases closed with ⟨t, c, m, rfl, rest⟩ | ⟨t, c, m, rfl, rest⟩
    · exact .bare
    · exact .closed (.inr ⟨t, c, m, rfl, rest⟩)
  | next closed filling =>
    obtain ⟨u, e, rfl, -⟩ := filling
    rcases closed with ⟨t, c, m, rfl, rest⟩ | ⟨t, c, m, rfl, rest⟩
    · exact .bare
    · exact .closed (.inr ⟨t, c, m, rfl, rest⟩)
  | both closed ready =>
    obtain ⟨u, e, k, rfl, -⟩ := ready
    rcases closed with ⟨t, c, m, rfl, rest⟩ | ⟨t, c, m, rfl, rest⟩
    · exact .bare
    · exact .closed (.inr ⟨t, c, m, rfl, rest⟩)

/-- The next ring, READY, becomes CUTTING (R111). -/
theorem Stage.toCutting (stage : Stage n nr cut a b nf) (ready : (a.readyWith n || b.readyWith n) = true) :
    Stage n nr cut (a.toCutting n) (b.toCutting n) nf ∧ (a.toCutting n).IsCutting n nr cut := by
  have later {x : RingSlot} (is : x.IsReady (n + 1) nr cut) : x.readyWith n = false ∧ x.toCutting n = x := by
    obtain ⟨t, c, m, rfl, -⟩ := is
    exact ⟨beq_eq_false_iff_ne.mpr (by omega), if_neg (by omega)⟩
  have first {x : RingSlot} (is : x.IsReady n nr cut ∨ x.IsCutting n nr cut) (with_n : x.readyWith n = true) :
      (x.toCutting n).IsCutting n nr cut := by
    rcases is with ⟨t, c, m, rfl, rest⟩ | ⟨t, c, m, rfl, rest⟩
    · exact ⟨t, c, m, if_pos rfl, rest⟩
    · cases with_n
  cases stage with
  | bare => cases ready
  | filling filling =>
    obtain ⟨t, c, rfl, -⟩ := filling
    cases ready
  | closed closed =>
    have cutting := first closed (by simpa [RingSlot.readyWith] using ready)
    exact ⟨.closed (.inr cutting), cutting⟩
  | next closed filling =>
    obtain ⟨t, c, rfl, rest⟩ := filling
    have cutting := first closed (by simpa [RingSlot.readyWith] using ready)
    exact ⟨.next (.inr cutting) ⟨t, c, rfl, rest⟩, cutting⟩
  | both closed second =>
    obtain ⟨none, same⟩ := later second
    have cutting := first closed (by simpa [none] using ready)
    rw [same]
    exact ⟨.both (.inr cutting) second, cutting⟩

/-- The CUTTING ring is freed and the next ring moves on (R113, R138). -/
theorem Stage.freeCutting (stage : Stage n nr cut a b nf) (cutting : (a.cuttingRing <|> b.cuttingRing) = some n) :
    Stage (n + 1) nr cut b.freeCutting a.freeCutting nf := by
  have freed {x : RingSlot} (is : x.IsReady n nr cut ∨ x.IsCutting n nr cut) (cut_n : x.cuttingRing = some n) :
      x.freeCutting = .empty := by
    rcases is with ⟨t, c, m, rfl, -⟩ | ⟨t, c, m, rfl, -⟩
    · cases cut_n
    · rfl
  cases stage with
  | bare => cases cutting
  | filling filling =>
    obtain ⟨t, c, rfl, -⟩ := filling
    cases cutting
  | closed closed =>
    rw [freed closed (by simpa [RingSlot.cuttingRing] using cutting)]
    exact .bare
  | next closed filling =>
    obtain ⟨t, c, rfl, rest⟩ := filling
    rw [freed closed (by simpa [RingSlot.cuttingRing] using cutting)]
    exact .filling ⟨t, c, rfl, rest⟩
  | both closed ready =>
    obtain ⟨t, c, m, rfl, rest⟩ := ready
    rw [freed closed (by simpa [RingSlot.cuttingRing] using cutting)]
    exact .closed (.inl ⟨t, c, m, rfl, rest⟩)

/-- The younger ring is not CUTTING. -/
theorem Stage.younger (stage : Stage n nr cut a b nf) : b.cuttingRing = none := by
  cases stage with
  | bare => rfl
  | filling => rfl
  | closed => rfl
  | next _ filling =>
    obtain ⟨t, c, rfl, -⟩ := filling
    rfl
  | both _ ready =>
    obtain ⟨t, c, m, rfl, -⟩ := ready
    rfl

end

/-! ### The operations on a head -/

theorem RingSlot.cuttingRing_store (tones : List Byte) (x : RingSlot) :
    (x.store tones).cuttingRing = x.cuttingRing := by
  cases x <;> rfl

theorem RingSlot.cuttingRing_dropFilling (x : RingSlot) : x.dropFilling.cuttingRing = x.cuttingRing := by
  cases x <;> rfl

theorem RingSlot.cuttingRing_close (mark : Bool) (x : RingSlot) : (x.close mark).cuttingRing = x.cuttingRing := by
  cases x <;> rfl

theorem RingSlot.cuttingRing_discard (x : RingSlot) : x.discard.cuttingRing = x.cuttingRing := by
  cases x <;> rfl

/-- Both slots changed by what leaves a CUTTING slot alone. -/
theorem HeadStaging.cuttingRing_mapSlots {f : RingSlot → RingSlot} (same : ∀ x, (f x).cuttingRing = x.cuttingRing)
    (t : HeadStaging) : (t.mapSlots f).cuttingRing = t.cuttingRing := by
  simp only [HeadStaging.cuttingRing, HeadStaging.mapSlots, same]

section
variable {n nr cut : Nat} {t : HeadStaging} (law : t.Open n nr cut)
include law

/-- An accepted segment with a FILLING slot there: its tones go to that slot. -/
theorem HeadStaging.Open.store {tones : List Byte} {m : Nat} (filling : t.fillingCount = some m)
    (room : m + tones.length ≤ cut) : (t.mapSlots (RingSlot.store tones)).Open n nr cut := by
  have which {o : Nat} (one : t.slotA.fillingCount = none ∨ t.slotB.fillingCount = none)
      (is : t.slotA.fillingCount = some o ∨ t.slotB.fillingCount = some o) : o = m := by
    unfold HeadStaging.fillingCount at filling
    rcases one with none | none <;> rcases is with is | is <;> simp_all
  refine HeadStaging.open_iff.mpr ?_
  rcases law.staged with stage | stage
  · exact .inl (stage.store fun o is => which stage.one_filling is ▸ room)
  · exact .inr (stage.store fun o is => which stage.one_filling.symm is.symm ▸ room)

/-- An accepted segment with no FILLING slot: it begins one (R101, R105). -/
theorem HeadStaging.Open.beginRing {tones : List Byte} {r : Nat} (next : t.nf = some r) (high : r < nr)
    (idle : t.fillingCount = none) (free : t.anySlot RingSlot.isEmpty = true) (room : tones.length ≤ cut) :
    (t.beginRing r tones).Open n nr cut ∧ (t.beginRing r tones).cuttingRing = t.cuttingRing := by
  have begun := RingSlot.begin_isFilling (r := r) (nr := nr) (cut := cut) high room
  obtain ⟨a, b, nf⟩ := t
  dsimp only at next
  subst next
  obtain ⟨idleA, idleB⟩ : a.fillingCount = none ∧ b.fillingCount = none := by
    simpa [HeadStaging.fillingCount] using idle
  have full {x y : RingSlot} (closed : x.IsReady n nr cut ∨ x.IsCutting n nr cut) (ready : y.IsReady (n + 1) nr cut) :
      x.isEmpty = false ∧ y.isEmpty = false :=
    ⟨(RingSlot.of_closed closed).1, (RingSlot.of_closed (.inl ready)).1⟩
  rw [HeadStaging.open_iff]
  unfold HeadStaging.beginRing
  rcases law.staged with stage | stage
  · cases stage with
    | bare => exact ⟨.inl (.filling begun), rfl⟩
    | filling filling =>
      obtain ⟨o, count⟩ := filling.count
      cases idleA.symm.trans count
    | closed closed =>
      rw [if_neg (by rw [(RingSlot.of_closed closed).1]; decide)]
      exact ⟨.inl (.next closed begun), rfl⟩
    | next _ filling =>
      obtain ⟨o, count⟩ := filling.count
      cases idleB.symm.trans count
    | both closed ready =>
      obtain ⟨fullA, fullB⟩ := full closed ready
      simp [HeadStaging.anySlot, fullA, fullB] at free
  · cases stage with
    | bare => exact ⟨.inl (.filling begun), rfl⟩
    | filling filling =>
      obtain ⟨o, count⟩ := filling.count
      cases idleB.symm.trans count
    | closed closed => exact ⟨.inr (.next closed begun), rfl⟩
    | next _ filling =>
      obtain ⟨o, count⟩ := filling.count
      cases idleA.symm.trans count
    | both closed ready =>
      obtain ⟨fullB, fullA⟩ := full closed ready
      simp [HeadStaging.anySlot, fullA, fullB] at free

/-- An accepted segment (R104, R105). -/
theorem HeadStaging.Open.storeTones {tones : List Byte} {r offset : Nat} (next : t.nf = some r) (high : r < nr)
    (fits : segmentRefusal t offset tones.length cut = none) :
    (t.storeTones r tones).Open n nr cut ∧ (t.storeTones r tones).cuttingRing = t.cuttingRing := by
  unfold segmentRefusal at fits
  unfold HeadStaging.storeTones
  cases filling : t.fillingCount with
  | some m =>
    simp only [filling] at fits
    split_ifs at fits with gap long
    obtain rfl := not_not.mp gap
    exact ⟨law.store filling (Nat.le_of_not_lt long),
      HeadStaging.cuttingRing_mapSlots (RingSlot.cuttingRing_store tones) t⟩
  | none =>
    simp only [filling] at fits
    split_ifs at fits with full gap long
    exact law.beginRing next high filling (by simpa using full) (by omega)

theorem HeadStaging.Open.dropFilling :
    (t.mapSlots RingSlot.dropFilling).Open n nr cut ∧
      (t.mapSlots RingSlot.dropFilling).cuttingRing = t.cuttingRing := by
  refine ⟨HeadStaging.open_iff.mpr ?_, HeadStaging.cuttingRing_mapSlots RingSlot.cuttingRing_dropFilling t⟩
  rcases law.staged with stage | stage
  · exact .inl stage.dropFilling
  · exact .inr stage.dropFilling

theorem HeadStaging.Open.close {r check : Nat} (whole : t.fillingOf = some (r, cut, check)) (mark : Bool) :
    HeadStaging.Open n nr cut { t.mapSlots (RingSlot.close mark) with nf := t.nf.map fun f => f + 1 } ∧
      HeadStaging.cuttingRing { t.mapSlots (RingSlot.close mark) with nf := t.nf.map fun f => f + 1 } =
        t.cuttingRing := by
  refine ⟨HeadStaging.open_iff.mpr ?_, HeadStaging.cuttingRing_mapSlots (RingSlot.cuttingRing_close mark) t⟩
  have which : t.slotA.fillingOf = some (r, cut, check) ∨ t.slotB.fillingOf = some (r, cut, check) := by
    unfold HeadStaging.fillingOf at whole
    cases is : t.slotA.fillingOf with
    | some v =>
      rw [is] at whole
      exact .inl whole
    | none =>
      rw [is] at whole
      exact .inr whole
  rcases law.staged with stage | stage
  · exact .inl (stage.close which mark)
  · exact .inr (stage.close which.symm mark)

/-- The CUTTING ring of a head, whichever slot it is in. -/
theorem HeadStaging.Open.cuttingRing_comm :
    (t.slotB.cuttingRing <|> t.slotA.cuttingRing) = t.cuttingRing := by
  unfold HeadStaging.cuttingRing
  rcases law.staged with stage | stage
  · rw [stage.younger]
    cases t.slotA.cuttingRing <;> rfl
  · rw [stage.younger]
    cases t.slotB.cuttingRing <;> rfl

theorem HeadStaging.Open.discard :
    (t.discard n).Open n nr cut ∧ (t.discard n).cuttingRing = t.cuttingRing := by
  refine ⟨HeadStaging.open_iff.mpr ?_, HeadStaging.cuttingRing_mapSlots RingSlot.cuttingRing_discard t⟩
  rcases law.staged with stage | stage
  · exact .inl stage.discard
  · refine .inr ?_
    have turned := stage.discard
    rw [law.cuttingRing_comm] at turned
    exact turned

theorem HeadStaging.Open.toCutting (ready : t.anySlot (RingSlot.readyWith n) = true) :
    (t.mapSlots (RingSlot.toCutting n)).Open n nr cut ∧
      (t.mapSlots (RingSlot.toCutting n)).cuttingRing = some n := by
  rcases law.staged with stage | stage
  · obtain ⟨after, cutting⟩ := stage.toCutting ready
    obtain ⟨u, c, m, is, -⟩ := cutting
    refine ⟨HeadStaging.open_iff.mpr (.inl after), ?_⟩
    simp [HeadStaging.cuttingRing, HeadStaging.mapSlots, is, RingSlot.cuttingRing]
  · obtain ⟨after, cutting⟩ := stage.toCutting (Bool.or_comm _ _ ▸ ready)
    obtain ⟨u, c, m, is, -⟩ := cutting
    refine ⟨HeadStaging.open_iff.mpr (.inr after), ?_⟩
    unfold HeadStaging.cuttingRing HeadStaging.mapSlots
    rw [after.younger, is]
    rfl

theorem HeadStaging.Open.freeCutting (cutting : t.cuttingRing = some n) :
    (t.mapSlots RingSlot.freeCutting).Open (n + 1) nr cut := by
  refine HeadStaging.open_iff.mpr ?_
  rcases law.staged with stage | stage
  · exact .inr (stage.freeCutting cutting)
  · exact .inl (stage.freeCutting (law.cuttingRing_comm.trans cutting))

end

/-- The law of the slots survives the freeing of a CUTTING slot (R114). -/
theorem HeadStaging.lawful_freeCutting {n nr cut : Nat} {t : HeadStaging} (law : t.lawful n nr cut) :
    (t.mapSlots RingSlot.freeCutting).lawful n nr cut := by
  have slot {x : RingSlot} (law : x.lawful n nr cut t.nf) :
      x.freeCutting.lawful n nr cut t.nf ∧ ∀ r, x.freeCutting.ring = some r → x.ring = some r := by
    cases x with
    | cutting => exact ⟨trivial, fun r h => by cases h⟩
    | _ => exact ⟨law, fun _ => id⟩
  obtain ⟨lawA, lawB, apart, range⟩ := law
  exact ⟨(slot lawA).1, (slot lawB).1, fun a b hA hB => apart a b ((slot lawA).2 a hA) ((slot lawB).2 b hB), range⟩

theorem HeadStaging.lawful_empty {n nr cut : Nat} {nf : Option Nat} (range : ∀ f, nf = some f → n ≤ f ∧ f ≤ n + 2) :
    HeadStaging.lawful n nr cut ⟨.empty, .empty, nf⟩ :=
  ⟨trivial, trivial, fun _ _ h => (by cases h), range⟩

end Sys2Proof.Machine
end

section
/-! PROOFS. With no band current nothing is held, and ring staging keeps its law (R42, R44, R53, R101 to R118). -/

namespace Sys2Proof.Machine

/-! ### The law of staging, head by head -/

/-- The law of ring staging for one head of the set of the current band `d`, which is no TEST_CUT band. -/
structure HeadLaw (s : State) (d : Descriptor) (t : HeadStaging) : Prop where
  slots : t.lawful s.nextRing d.nr d.cut
  next : s.engine.state ≠ .ending →
    t.nf = some (s.nextRing + t.slotA.closedRings + t.slotB.closedRings) ∧
      ∀ x, (x = t.slotA ∨ x = t.slotB) → x.closedRings = 1 → ∀ r f, x.ring = some r → t.nf = some f → r < f
  cutting : s.engine.state = .cutting → s.engine.revPos = some .cut → t.cuttingRing = some s.nextRing

theorem HeadLaw.open {s : State} {d : Descriptor} {t : HeadStaging} (law : HeadLaw s d t)
    (runs : s.engine.state ≠ .ending) : t.Open s.nextRing d.nr d.cut :=
  ⟨law.slots, law.next runs⟩

theorem HeadLaw.of_open {s : State} {d : Descriptor} {t : HeadStaging} (is : t.Open s.nextRing d.nr d.cut)
    (cutting : s.ringBeingCut = true → t.cuttingRing = some s.nextRing) : HeadLaw s d t :=
  ⟨is.1, fun _ => is.2, fun state pos => cutting (by simp [State.ringBeingCut, state, pos])⟩

/-- In ENDING the law of the slots alone is left. -/
theorem HeadLaw.of_ending {s : State} {d : Descriptor} {t : HeadStaging} (ending : s.engine.state = .ending)
    (slots : t.lawful s.nextRing d.nr d.cut) : HeadLaw s d t :=
  ⟨slots, fun runs => absurd ending runs, fun state => by rw [ending] at state; cases state⟩

/-- The law of ring staging for the current band `d`. -/
structure BandLaw (s : State) (d : Descriptor) : Prop where
  synth : d.kind ≠ .testCut → s.staging.synth = none
  free : ∀ h, d.heads.get h = false ∨ d.kind = .testCut → s.staging.heads.get h = ⟨.empty, .empty, none⟩
  held : ∀ h, d.heads.get h = true → d.kind ≠ .testCut → HeadLaw s d (s.staging.heads.get h)

theorem stagingOk_iff {s : State} :
    StagingOk s ↔ (s.band = none → s.staging = Staging.reset) ∧ ∀ d, s.band = some d → BandLaw s d := by
  refine and_congr_right fun _ => forall_congr' fun d => imp_congr_right fun _ => ⟨?_, ?_⟩
  · exact fun ⟨synth, heads⟩ => ⟨synth, fun h => (heads h).1, fun h used engraves =>
      ⟨((heads h).2 used engraves).1, ((heads h).2 used engraves).2.1, ((heads h).2 used engraves).2.2⟩⟩
  · exact fun ⟨synth, free, held⟩ => ⟨synth, fun h => ⟨free h, fun used engraves =>
      ⟨(held h used engraves).slots, (held h used engraves).next, (held h used engraves).cutting⟩⟩⟩

theorem StagingOk.of_no_band {s : State} (none : s.band = none) (reset : s.staging = Staging.reset) : StagingOk s :=
  stagingOk_iff.mpr ⟨fun _ => reset, fun d band => by rw [none] at band; cases band⟩

theorem StagingOk.of_band {s : State} {d : Descriptor} (band : s.band = some d) (law : BandLaw s d) : StagingOk s :=
  stagingOk_iff.mpr ⟨fun none => (by rw [band] at none; cases none),
    fun e is => Option.some.inj (band.symm.trans is) ▸ law⟩

theorem StagingOk.band {s : State} (ok : StagingOk s) {d : Descriptor} (band : s.band = some d) : BandLaw s d :=
  (stagingOk_iff.mp ok).2 d band

theorem band_eq_none_of_rest {s : State} (rest : s.engine.state.isCurrent = false) : s.band = none := by
  simp [State.band, rest]

theorem StagingOk.of_rest {s : State} (rest : s.engine.state.isCurrent = false) (reset : s.staging = Staging.reset) :
    StagingOk s :=
  .of_no_band (band_eq_none_of_rest rest) reset

theorem Staging.reset_head (h : HeadId) : Staging.reset.heads.get h = ⟨.empty, .empty, none⟩ := by
  cases h <;> rfl

/-- EMPTY staging in ENDING. -/
theorem BandLaw.of_reset {s : State} {d : Descriptor} (reset : s.staging = Staging.reset)
    (ending : s.engine.state = .ending) : BandLaw s d where
  synth _ := by rw [reset]; rfl
  free h _ := by rw [reset, Staging.reset_head]
  held h _ _ := by
    rw [reset, Staging.reset_head]
    exact .of_ending ending (HeadStaging.lawful_empty fun f h => by cases h)

/-- Staging stays, and so does the band; no ring comes to be cut. -/
theorem StagingOk.of_same {s t : State} (ok : StagingOk s) (same : SameBand s t) (staging : t.staging = s.staging)
    (cut : t.ringBeingCut = true → s.ringBeingCut = true) : StagingOk t := by
  obtain ⟨none, law⟩ := stagingOk_iff.mp ok
  refine stagingOk_iff.mpr ⟨fun is => ?_, fun d is => ?_⟩
  · rw [staging]
    exact none (same.band ▸ is)
  · obtain ⟨synth, free, held⟩ := law d (same.band ▸ is)
    refine ⟨by rw [staging]; exact synth, by rw [staging]; exact free, fun h used engraves => ?_⟩
    obtain ⟨slots, next, cutting⟩ := held h used engraves
    rw [staging]
    refine ⟨by rw [same.nextRing]; exact slots, fun runs => ?_, fun state pos => ?_⟩
    · rw [same.nextRing]
      exact next fun ending => runs (same.ending.mpr ending)
    · rw [same.nextRing]
      obtain ⟨state, pos⟩ := runs_of_ringBeingCut (cut (by simp [State.ringBeingCut, state, pos]))
      exact cutting state pos

/-- A head that takes ring data: the band is current, it is no TEST_CUT band and no ENDING band, and the head is of its
set (R104). -/
theorem ringBand_eq_some {s : State} {h : HeadId} {d : Descriptor} (is : s.ringBand h = some d) :
    s.engine.state ≠ .ending ∧ s.band = some d ∧ d.kind ≠ .testCut ∧ d.heads.get h = true := by
  unfold State.ringBand at is
  split_ifs at is with ending
  split at is
  · next e band =>
    split_ifs at is with takes
    obtain rfl := Option.some.inj is
    exact ⟨ending, band, takes⟩
  · cases is

theorem modStaging_head (h k : HeadId) (f : HeadStaging → HeadStaging) (s : State) :
    (modStaging h f s).staging.heads.get k = if k = h then f (s.staging.heads.get k) else s.staging.heads.get k := by
  have heads : (modStaging h f s).staging.heads = s.staging.heads.set h (f (s.staging.heads.get h)) := rfl
  rw [heads, PerHead.get_set]
  by_cases same : k = h
  · subst same
    simp
  · simp [same]

/-- A head's ring data changed by what keeps its law and its CUTTING ring. -/
theorem StagingOk.modStaging {s : State} (ok : StagingOk s) {h : HeadId} {d : Descriptor} (takes : s.ringBand h = some d)
    {f : HeadStaging → HeadStaging}
    (keeps : (s.staging.heads.get h).Open s.nextRing d.nr d.cut →
      (f (s.staging.heads.get h)).Open s.nextRing d.nr d.cut ∧
        (f (s.staging.heads.get h)).cuttingRing = (s.staging.heads.get h).cuttingRing) :
    StagingOk (modStaging h f s) := by
  obtain ⟨runs, band, engraves, used⟩ := ringBand_eq_some takes
  obtain ⟨synth, free, held⟩ := ok.band band
  refine .of_band (d := d) band ⟨synth, fun k out => ?_, fun k inSet _ => ?_⟩
  · rw [modStaging_head, if_neg]
    · exact free k out
    · rintro rfl
      rcases out with out | test
      · rw [used] at out
        cases out
      · exact engraves test
  · rw [modStaging_head]
    split
    · next same =>
      subst same
      have law := held k used engraves
      obtain ⟨after, cutting⟩ := keeps (law.open runs)
      refine .of_open after fun cut => ?_
      rw [cutting]
      obtain ⟨state, pos⟩ := runs_of_ringBeingCut (s := s) cut
      exact law.cutting state pos
    · obtain ⟨slots, next, cutting⟩ := held k inSet engraves
      exact ⟨slots, next, cutting⟩

/-! ### The staging of each operation -/

theorem toEnding_staging (o : BandOutcome) (c : Option EndCause) (h : Option HeadId) (s : State) :
    (toEnding o c h s).staging = s.staging := by simp

/-- What dropping the rings leaves of a head: a CUTTING slot of a head of the set is freed (R113, R114). -/
theorem dropRing_head (s : State) (h : HeadId) :
    (dropRing s).staging.heads.get h =
      if s.headInUse h then (s.staging.heads.get h).mapSlots RingSlot.freeCutting else s.staging.heads.get h := by
  cases h <;> rfl

theorem dropRing_synth (s : State) : (dropRing s).staging.synth = none := rfl

theorem headInUse_of_band {s : State} {d : Descriptor} (band : s.band = some d) (h : HeadId) :
    s.headInUse h = d.heads.get h := by
  simp [State.headInUse, band]

theorem markPartial_jobs (s : State) (i : Fin 64) : SameJob s.jobs[i] (markPartial s).jobs[i] := by
  unfold markPartial
  split
  · exact (SameBand.tally (s := s) (f := fun r => { r with partialRing := some r.nextRing }) fun _ =>
      ⟨rfl, rfl, rfl, rfl⟩).job i
  · exact .rfl _

theorem markPartial_same (s : State) : SameBand s (markPartial s) :=
  .of_jobs (by rw [markPartial_engine]) (by rw [markPartial_engine]) (markPartial_jobs s)

theorem abortEntry_staging (c : EndCause) (h : Option HeadId) (s : State) :
    (abortEntry c h s).staging = (dropRing (silenceSet (markPartial s))).staging := by
  rw [abortEntry_eq, toEnding_staging]

theorem silenceSet_same (s : State) : SameBand s (silenceSet s) := .of_eq rfl rfl

theorem abortEntry_head (c : EndCause) (h : Option HeadId) (s : State) (k : HeadId) :
    (abortEntry c h s).staging.heads.get k =
      if s.headInUse k then (s.staging.heads.get k).mapSlots RingSlot.freeCutting else s.staging.heads.get k := by
  have staging : (silenceSet (markPartial s)).staging = s.staging := by
    unfold markPartial
    split <;> simp
  rw [abortEntry_staging, dropRing_head, (silenceSet_same _).headInUse, (markPartial_same s).headInUse, staging]

theorem toEnding_nextRing (o : BandOutcome) (c : Option EndCause) (h : Option HeadId) (s : State) :
    (toEnding o c h s).nextRing = s.nextRing := by
  have slot : (toEnding o c h s).engine.slot = s.engine.slot := by rw [toEnding_engine]
  unfold State.nextRing State.record
  rw [slot]
  cases is : s.engine.slot with
  | none => rfl
  | some i =>
    dsimp only
    rw [toEnding_job, modRecord_job, if_pos is]
    rfl

theorem toEnding_band (o : BandOutcome) (c : Option EndCause) (h : Option HeadId) {s : State}
    (current : s.engine.state.isCurrent = true) : (toEnding o c h s).band = s.band := by
  refine State.band_of_engine ?_ ?_ fun i => ?_
  · rw [toEnding_engine, current]
    rfl
  · rw [toEnding_engine]
  · rw [toEnding_job, modRecord_desc]

/-- The abort's entry with the band and the next ring kept. -/
theorem abortEntry_band (c : EndCause) (h : Option HeadId) {s : State} (current : s.engine.state.isCurrent = true) :
    (abortEntry c h s).band = s.band ∧ (abortEntry c h s).nextRing = s.nextRing := by
  rw [abortEntry_eq]
  have dropped : SameBand s (dropRing (silenceSet (markPartial s))) := by
    refine .of_jobs ?_ ?_ fun i => ?_
    · simp
    · simp
    · rw [show (dropRing (silenceSet (markPartial s))).jobs = (markPartial s).jobs by simp]
      exact markPartial_jobs s i
  refine ⟨?_, ?_⟩
  · rw [toEnding_band _ _ _ (by rw [dropped.current]; exact current), dropped.band]
  · rw [toEnding_nextRing, dropped.nextRing]

/-- An abort frees the CUTTING slots of the set (R114). -/
theorem StagingOk.aborted {s u : State} (ok : StagingOk s) (runs : s.engine.state.abortable = true)
    (engine : u.engine = s.engine) (jobs : u.jobs = s.jobs) (staging : u.staging = s.staging ∨ u.staging = Staging.reset)
    (jobsOk : RecordsOk s) (c : EndCause) (h : Option HeadId) : StagingOk (abortEntry c h u) := by
  have current := isCurrent_of_abortable runs
  obtain ⟨i, d, -, -, band, -, -⟩ := jobsOk.slot current
  have same : SameBand s u := .of_eq engine jobs
  obtain ⟨bandEq, ringEq⟩ := abortEntry_band c h (s := u) (by rw [engine, current])
  have used := headInUse_of_band (same.band.trans band)
  obtain ⟨synth, free, held⟩ := ok.band band
  refine .of_band (bandEq.trans (same.band.trans band)) ⟨fun _ => by rw [abortEntry_staging]; rfl, fun k out => ?_,
    fun k inSet engraves => .of_ending (by rw [abortEntry_engine]) ?_⟩
  · have empty : u.staging.heads.get k = ⟨.empty, .empty, none⟩ := by
      rcases staging with kept | reset
      · rw [kept, free k out]
      · rw [reset, Staging.reset_head]
    rw [abortEntry_head, empty]
    split <;> rfl
  · rw [abortEntry_head, used k, inSet, if_pos rfl, ringEq, same.nextRing]
    refine HeadStaging.lawful_freeCutting ?_
    rcases staging with kept | reset
    · rw [kept]
      exact (held k inSet engraves).slots
    · rw [reset, Staging.reset_head]
      exact HeadStaging.lawful_empty fun f h => by cases h

theorem ringEnded_staging (d : Descriptor) (s : State) : (ringEnded d s).staging = (dropRing (silenceSet s)).staging := by
  unfold ringEnded
  split <;> simp

theorem ringEnded_nextRing (d : Descriptor) {s : State} {i : Fin 64} (slot : s.engine.slot = some i) :
    (ringEnded d s).nextRing = s.nextRing + 1 := by
  have after : (ringEnded d s).engine.slot = some i := by rw [ringEnded_engine]; exact slot
  unfold State.nextRing State.record
  rw [after, slot]
  dsimp only
  rw [ringEnded_job, modRecord_job, if_pos slot]
  rfl

theorem ringEnded_band (d : Descriptor) (s : State) : (ringEnded d s).band = s.band :=
  State.band_of_engine (by rw [ringEnded_engine]) (by rw [ringEnded_engine]) (ringEnded_desc d s)

/-- A ring whose cut is complete is freed, and the next ring moves on (R113, R138). -/
theorem BandLaw.ringDone {s : State} {d : Descriptor} (law : BandLaw s d) (band : s.band = some d)
    (cutting : s.ringBeingCut = true) (acc : Nat) : BandLaw (ringEnded d (counted acc s)) d := by
  obtain ⟨synth, free, held⟩ := law
  obtain ⟨-, i, slot, -⟩ := State.band_eq_some_iff.mp band
  obtain ⟨state, pos⟩ := runs_of_ringBeingCut cutting
  have ring : (ringEnded d (counted acc s)).nextRing = s.nextRing + 1 := ringEnded_nextRing d (s := counted acc s) slot
  have whole : (ringEnded d (counted acc s)).ringBeingCut = false := by
    simp [State.ringBeingCut, ringEnded_engine]
  have head (k : HeadId) : (ringEnded d (counted acc s)).staging.heads.get k =
      if d.heads.get k then (s.staging.heads.get k).mapSlots RingSlot.freeCutting else s.staging.heads.get k := by
    rw [ringEnded_staging, dropRing_head, (silenceSet_same _).headInUse, headInUse_of_band (s := counted acc s) band]
    rfl
  refine ⟨fun _ => by rw [ringEnded_staging]; rfl, fun k out => ?_, fun k used engraves => ?_⟩
  · rw [head, free k out]
    split <;> rfl
  · rw [head, used, if_pos rfl]
    have law := held k used engraves
    refine .of_open ?_ fun cut => (by rw [whole] at cut; cases cut)
    rw [ring]
    exact (law.open (by rw [state]; decide)).freeCutting (law.cutting state pos)

theorem armSlot_band {m : Fin 64} {d : Descriptor} {restart : Bool} {s : State} (desc : s.jobs[m].desc = some d) :
    (armSlot m d restart s).band = some d := by
  refine State.band_eq_some_iff.mpr ⟨rfl, m, rfl, ?_⟩
  rw [armSlot_job, if_pos rfl]
  exact desc

/-- The next-fill rings of a band that is armed from EMPTY staging (R103). -/
theorem BandLaw.armed {m : Fin 64} {d : Descriptor} {restart : Bool} {s t : State} (reset : s.staging = Staging.reset)
    (staging : t.staging = (armSlot m d restart s).staging) (ring : t.nextRing = (armSlot m d restart s).nextRing)
    (whole : t.ringBeingCut = false) : BandLaw t d := by
  have next : (armSlot m d restart s).nextRing = (s.jobs[m].record.arm d.heads restart).nextRing := by
    have here := armSlot_job m d restart s m
    rw [if_pos rfl] at here
    show (armSlot m d restart s).jobs[m].record.nextRing = _
    rw [here]
  have head (k : HeadId) : t.staging.heads.get k =
      ⟨.empty, .empty, if d.heads.get k && d.kind != .testCut then some t.nextRing else none⟩ := by
    have armed : (armSlot m d restart s).staging.heads.get k =
        { s.staging.heads.get k with
          nf := if d.heads.get k && d.kind != .testCut then
            some ((s.modJob m fun j => { j with record := j.record.arm d.heads restart }).jobs[m].record.nextRing)
            else none } := by
      cases k <;> rfl
    rw [staging, armed, reset, Staging.reset_head, modJob_job, if_pos rfl, ring, next]
  refine ⟨fun _ => ?_, fun k out => ?_, fun k used engraves => ?_⟩
  · have synth : (armSlot m d restart s).staging.synth = s.staging.synth := rfl
    rw [staging, synth, reset]
    rfl
  · rw [head]
    rcases out with out | test
    · simp [out]
    · simp [test]
  · rw [head, used]
    have engraves : (d.kind != .testCut) = true := by simpa using engraves
    simp only [engraves, Bool.and_self, if_true]
    refine .of_open (HeadStaging.open_iff.mpr (.inl .bare)) fun cut => (by rw [whole] at cut; cases cut)

theorem takeRing_synth {d : Descriptor} (engraves : d.kind ≠ .testCut) (r : Nat) (s : State) :
    (takeRing d r s).staging.synth = s.staging.synth := by
  unfold takeRing
  cases kind : d.kind with
  | testCut => exact absurd kind engraves
  | engrave => rfl
  | dryPass => rfl

theorem takeRing_head {d : Descriptor} {s : State} (band : s.band = some d) (r : Nat) (k : HeadId) :
    (takeRing d r s).staging.heads.get k =
      if d.heads.get k = true ∧ d.kind ≠ .testCut then (s.staging.heads.get k).mapSlots (RingSlot.toCutting r)
      else s.staging.heads.get k := by
  have used := headInUse_of_band band k
  have taken (f : HeadStaging → HeadStaging) : (modSetStaging f s).staging.heads.get k =
      if s.headInUse k then f (s.staging.heads.get k) else s.staging.heads.get k := by
    cases k <;> rfl
  unfold takeRing
  cases kind : d.kind with
  | testCut => simp
  | engrave => simp only [taken, used, ne_eq, reduceCtorEq, not_false_eq_true, and_true]
  | dryPass => simp only [taken, used, ne_eq, reduceCtorEq, not_false_eq_true, and_true]

theorem beginCutting_staging (d : Descriptor) (s : State) :
    (beginCutting d s).staging = (takeRing d s.nextRing s).staging := rfl

/-- At the index that begins a cutting revolution each head of the set has the next ring READY, and it becomes CUTTING
(R111). -/
theorem BandLaw.cuttingBegun {d : Descriptor} {s : State} (law : BandLaw s d) (band : s.band = some d)
    (runs : s.engine.state = .preparing ∨ s.engine.state = .cutting) (ready : s.dataReady d s.nextRing = true) :
    BandLaw (beginCutting d (enterCutting s)) d := by
  obtain ⟨synth, free, held⟩ := law
  have same : SameBand s (beginCutting d (enterCutting s)) := .cuttingBegun d runs
  have entered : SameBand s (enterCutting s) :=
    .of_running (x := .cutting) rfl rfl rfl rfl (.inr (abortable_of_runs runs))
  have staging : (enterCutting s).staging = s.staging := rfl
  have head (k : HeadId) : (beginCutting d (enterCutting s)).staging.heads.get k =
      if d.heads.get k = true ∧ d.kind ≠ .testCut then
        (s.staging.heads.get k).mapSlots (RingSlot.toCutting s.nextRing)
      else s.staging.heads.get k := by
    rw [beginCutting_staging, takeRing_head (entered.band.trans band), entered.nextRing, staging]
  refine ⟨fun engraves => ?_, fun k out => ?_, fun k used engraves => ?_⟩
  · rw [beginCutting_staging, takeRing_synth engraves, staging]
    exact synth engraves
  · rw [head, if_neg]
    · exact free k out
    · rintro ⟨used, engraves⟩
      rcases out with out | test
      · rw [used] at out
        cases out
      · exact engraves test
  · rw [head, if_pos ⟨used, engraves⟩]
    have law := held k used engraves
    have opened : (s.staging.heads.get k).Open s.nextRing d.nr d.cut :=
      law.open (ne_ending_of_abortable (abortable_of_runs runs))
    have has : (s.staging.heads.get k).anySlot (RingSlot.readyWith s.nextRing) = true := by
      have all : ∀ h, d.heads.get h = true →
          (s.staging.heads.get h).anySlot (RingSlot.readyWith s.nextRing) = true := by
        intro h inSet
        have each := (Bool.or_eq_true _ _).mp ready
        rcases each with test | all
        · exact absurd (by simpa using test) engraves
        · have one := List.all_eq_true.mp all h (by cases h <;> simp [HeadId.all])
          simpa [inSet] using one
      exact all k used
    obtain ⟨after, cutting⟩ := opened.toCutting has
    refine .of_open (by rw [same.nextRing]; exact after) fun _ => ?_
    rw [same.nextRing]
    exact cutting

/-! ### Ring staging under a move -/

theorem enterEnded_staging (e : EventKind) (s : State) : (enterEnded e s).staging = Staging.reset := rfl

theorem disarmBand_staging (s : State) : (disarmBand s).staging = Staging.reset := rfl

theorem storeParams_staging (h : HeadId) (p : HeadParams) (s : State) : (storeParams h p s).staging = s.staging := by
  unfold storeParams applyFitting
  dsimp only
  repeat' split
  all_goals rfl

theorem modRecord_staging (f : StatusRecord → StatusRecord) (s : State) : (modRecord f s).staging = s.staging := by simp

theorem ringBeingCut_of_engine {s t : State} (engine : t.engine = s.engine) : t.ringBeingCut = s.ringBeingCut := by
  unfold State.ringBeingCut
  rw [engine]

/-- The next ring of the current band is not touched by a write to a slot that is not in use. -/
theorem nextRing_modJob {s : State} {i : Fin 64} (free : s.slotInUse i = false) (k : JobSlot)
    (current : s.engine.state.isCurrent = true) : (s.modJob i fun _ => k).nextRing = s.nextRing := by
  unfold State.nextRing State.record
  have slot : (s.modJob i fun _ => k).engine.slot = s.engine.slot := rfl
  rw [slot]
  cases is : s.engine.slot with
  | none => rfl
  | some j =>
    have other : ¬ i = j := by
      rintro rfl
      have used := slotInUse_iff.mpr ⟨current, is⟩
      rw [free] at used
      cases used
    simp only [modJob_job, if_neg other]

theorem StagingOk.modJob {s : State} (ok : StagingOk s) {i : Fin 64} (free : s.slotInUse i = false) (k : JobSlot) :
    StagingOk (s.modJob i fun _ => k) := by
  cases band : s.band with
  | none => exact .of_no_band ((band_modJob free k).trans band) ((stagingOk_iff.mp ok).1 band)
  | some d =>
    have ring := nextRing_modJob free k (State.band_eq_some_iff.mp band).1
    obtain ⟨synth, clear, held⟩ := ok.band band
    refine .of_band ((band_modJob free k).trans band) ⟨synth, clear, fun h used engraves => ?_⟩
    obtain ⟨slots, next, cutting⟩ := held h used engraves
    exact ⟨by rw [ring]; exact slots, by rw [ring]; exact next, by rw [ring]; exact cutting⟩

theorem Move.stagingOk {s t : State} (move : Move s t) (ok : StagingOk s) (jobs : RecordsOk s) : StagingOk t := by
  cases move
  case aborted c h f runs => exact ok.aborted (u := s.modGrid f) runs rfl rfl (.inl rfl) jobs c h
  case cutAborted c runs => exact ok.aborted (u := emptyStaging s) runs rfl rfl (.inr rfl) jobs c none
  case emptied rests other =>
    cases band : s.band with
    | none => exact .of_no_band band rfl
    | some d =>
      have ending : s.engine.state = .ending := by
        have current := (State.band_eq_some_iff.mp band).1
        cases state : s.engine.state <;> simp_all [EngineState.isCurrent, EngineState.abortable]
      exact .of_band (s := emptyStaging s) band (.of_reset rfl ending)
  case stopped c runs whole =>
    have current := isCurrent_of_abortable runs
    obtain ⟨i, d, -, -, band, -, -⟩ := jobs.slot current
    obtain ⟨synth, free, held⟩ := ok.band band
    refine .of_band ((toEnding_band _ _ _ current).trans band) ⟨?_, ?_, fun h used engraves => ?_⟩
    · rw [toEnding_staging]
      exact synth
    · rw [toEnding_staging]
      exact free
    · rw [toEnding_staging]
      refine .of_ending (by rw [toEnding_engine]) ?_
      rw [toEnding_nextRing]
      exact (held h used engraves).slots
  case ended e ending => exact .of_rest rfl (enterEnded_staging e s)
  case disarmed armed => exact .of_rest rfl (disarmBand_staging s)
  case acknowledged ended =>
    exact .of_rest rfl ((stagingOk_iff.mp ok).1 (band_eq_none_of_rest (by rw [ended]; rfl)))
  case chained m d ending desc fresh =>
    have band : (Machine.chained m d s).band = some d := by
      have armed := armSlot_band (restart := true) desc
      obtain ⟨-, i, slot, named⟩ := State.band_eq_some_iff.mp armed
      exact State.band_eq_some_iff.mpr ⟨rfl, i, slot, named⟩
    exact .of_band band (.armed (m := m) (restart := true) (s := endCurrency s) rfl rfl rfl rfl)
  case armed i d restart idle desc fresh =>
    have reset : s.staging = Staging.reset := (stagingOk_iff.mp ok).1 (band_eq_none_of_rest (by rw [idle]; rfl))
    exact .of_band (armSlot_band desc) (.armed reset rfl rfl rfl)
  case started armed => exact ok.of_same (.started armed) rfl fun cut => (by cases cut)
  case resumed held => exact ok.of_same (.resumed held) rfl fun cut => (by cases cut)
  case held r runs whole => exact ok.of_same (.held r runs) rfl fun cut => (by cases cut)
  case counters f state slot pos =>
    refine ok.of_same (.counters state slot) rfl fun cut => ?_
    simpa [State.ringBeingCut, state, pos] using cut
  case tally f run =>
    exact ok.of_same (.tally run) (modRecord_staging f s) fun cut =>
      ringBeingCut_of_engine (modRecord_engine f s) ▸ cut
  case latched d acc carries cutting below =>
    exact ok.of_same (.latched d acc s) (by simp [counted]) fun _ => cutting
  case ringDone d acc carries cutting last more =>
    exact .of_band ((ringEnded_band d _).trans carries.band) ((ok.band carries.band).ringDone carries.band cutting acc)
  case bandDone d acc carries cutting last done =>
    have band : (ringEnded d (counted acc s)).band = some d := (ringEnded_band d _).trans carries.band
    obtain ⟨synth, free, held⟩ := (ok.band carries.band).ringDone carries.band cutting acc
    have current := (State.band_eq_some_iff.mp band).1
    refine .of_band ((toEnding_band _ _ _ current).trans band) ⟨?_, ?_, fun h used engraves => ?_⟩
    · rw [toEnding_staging]
      exact synth
    · rw [toEnding_staging]
      exact free
    · rw [toEnding_staging]
      refine .of_ending (by rw [toEnding_engine]) ?_
      rw [toEnding_nextRing]
      exact (held h used engraves).slots
  case cuttingBegun d runs band ready silent fresh =>
    exact .of_band ((SameBand.cuttingBegun d runs).band.trans band) ((ok.band band).cuttingBegun band runs ready)
  case idleBegun f runs silent state slot pos =>
    refine ok.of_same (.idleBegun runs state slot) rfl fun cut => ?_
    simp [State.ringBeingCut, pos] at cut
  case descriptorWritten i d listed sound free => exact ok.modJob free _
  case descriptorCleared i free => exact ok.modJob free _
  case paramsWritten h p fits =>
    exact ok.of_same (.paramsWritten h p s) (storeParams_staging h p s) fun cut =>
      ringBeingCut_of_engine (storeParams_engine h p s) ▸ cut
  case segmentStored h d r offset tones high takes next fits =>
    exact ok.modStaging takes fun law => law.storeTones next high fits
  case fillingDropped h d takes => exact ok.modStaging takes fun law => law.dropFilling
  case ringClosed h d r check mark high takes whole => exact ok.modStaging takes fun law => law.close whole mark
  case ringsDiscarded h d takes => exact ok.modStaging takes fun law => law.discard
  all_goals exact ok.of_same (.of_eq rfl rfl) rfl id

/-! ### Nothing is held with no band current -/

theorem NothingHeld.of_current {s : State} (current : s.engine.state.isCurrent = true) : NothingHeld s :=
  fun rest => by rw [current] at rest; cases rest

theorem NothingHeld.of_same {s t : State} (held : NothingHeld s)
    (current : t.engine.state.isCurrent = s.engine.state.isCurrent) (staging : t.staging = s.staging)
    (store : t.store = s.store) : NothingHeld t := by
  intro rest
  rw [staging, store]
  exact held (current ▸ rest)

theorem Store.promote_pending (x : Store) :
    (∀ c : Fin 16, x.promote.curves[c].pending = none) ∧ ∀ h, (x.promote.params.get h).pending = none := by
  refine ⟨fun c => ?_, fun h => ?_⟩
  · have at_c : x.promote.curves[c] = x.curves[c].promote := by simp [Store.promote]
    rw [at_c]
    unfold CurveCopies.promote
    split
    · rfl
    · assumption
  · have at_h : x.promote.params.get h = (x.params.get h).promote := by cases h <;> rfl
    rw [at_h]
    unfold ParamCopies.promote
    split
    · rfl
    · assumption

/-- The end of a band's currency empties staging and promotes every pending copy (R53, R118). -/
theorem NothingHeld.of_promote {s t : State} (staging : t.staging = Staging.reset) (store : t.store = s.store.promote) :
    NothingHeld t := by
  intro _
  rw [store]
  exact ⟨staging, (Store.promote_pending s.store).1, (Store.promote_pending s.store).2⟩

theorem curveInUse_of_rest {s : State} (rest : s.engine.state.isCurrent = false) (c : Fin 16) :
    s.curveInUse c = false := by
  simp [State.curveInUse, band_eq_none_of_rest rest]

theorem headInUse_of_rest {s : State} (rest : s.engine.state.isCurrent = false) (h : HeadId) :
    s.headInUse h = false := by
  simp [State.headInUse, band_eq_none_of_rest rest]

theorem NothingHeld.curveWritten {s : State} (held : NothingHeld s) (c : Fin 16) (k : Curve) :
    NothingHeld (s.withStore (storeWithCurve c k s)) := by
  intro rest
  have rest : s.engine.state.isCurrent = false := rest
  obtain ⟨staging, curves, params⟩ := held rest
  refine ⟨staging, fun i => ?_, params⟩
  have at_i : (storeWithCurve c k s).curves[i] =
      if c = i then s.store.curves[c].write (s.curveInUse c) k else s.store.curves[i] := by
    unfold storeWithCurve
    by_cases same : c = i
    · subst same
      simp
    · have apart : (c : Nat) ≠ i := fun h => same (Fin.ext h)
      simp [same, apart]
  show (storeWithCurve c k s).curves[i].pending = none
  rw [at_i]
  split
  · rw [curveInUse_of_rest rest]
    rfl
  · exact curves i

theorem storeParams_store (h : HeadId) (p : HeadParams) (s : State) :
    (storeParams h p s).store =
      { s.store with
        params := s.store.params.set h
          (if s.headInUse h then { s.store.params.get h with pending := some p } else ⟨p, none⟩) } := by
  unfold storeParams applyFitting
  dsimp only
  repeat' split
  all_goals rfl

theorem NothingHeld.paramsWritten {s : State} (held : NothingHeld s) (h : HeadId) (p : HeadParams) :
    NothingHeld (storeParams h p s) := by
  intro rest
  rw [storeParams_engine] at rest
  obtain ⟨staging, curves, params⟩ := held rest
  rw [storeParams_staging, storeParams_store, headInUse_of_rest rest]
  refine ⟨staging, curves, fun k => ?_⟩
  simp only [PerHead.get_set]
  split
  · rfl
  · exact params k

theorem NothingHeld.modStaging {s : State} {h : HeadId} {d : Descriptor} (takes : s.ringBand h = some d)
    (f : HeadStaging → HeadStaging) : NothingHeld (modStaging h f s) :=
  .of_current (State.band_eq_some_iff.mp (ringBand_eq_some takes).2.1).1

theorem Move.nothingHeld {s t : State} (move : Move s t) (held : NothingHeld s) : NothingHeld t := by
  cases move
  case aborted c h f runs => exact .of_current rfl
  case cutAborted c runs => exact .of_current rfl
  case emptied rests other =>
    intro rest
    obtain ⟨-, pending⟩ := held rest
    exact ⟨rfl, pending⟩
  case stopped c runs whole => exact .of_current rfl
  case bandDone d acc carries cutting last done => exact .of_current rfl
  case ended e ending => exact .of_promote (s := s) rfl (by simp [enterEnded, endCurrency])
  case disarmed armed => exact .of_promote (s := s) rfl (by simp [disarmBand])
  case acknowledged ended => exact fun _ => held (by rw [ended]; rfl)
  case chained m d ending desc fresh => exact .of_current rfl
  case armed i d restart idle desc fresh => exact .of_current rfl
  case started armed => exact .of_current rfl
  case resumed isHeld => exact .of_current rfl
  case held r runs whole => exact .of_current rfl
  case counters f state slot pos => exact held.of_same (congrArg EngineState.isCurrent state) rfl rfl
  case tally f run => exact held.of_same (by simp) (by simp) (by simp)
  case latched d acc carries cutting below => exact held.of_same (by simp [counted]) (by simp [counted]) (by simp [counted])
  case ringDone d acc carries cutting last more =>
    refine .of_current ?_
    rw [ringEnded_engine]
    exact (State.band_eq_some_iff.mp carries.band).1
  case cuttingBegun d runs band ready silent fresh =>
    exact .of_current ((SameBand.cuttingBegun d runs).current.trans (isCurrent_of_abortable (abortable_of_runs runs)))
  case idleBegun f runs silent state slot pos => exact .of_current (congrArg EngineState.isCurrent state)
  case curveWritten c k => exact held.curveWritten c k
  case paramsWritten h p fits => exact held.paramsWritten h p
  case segmentStored h d r offset tones high takes next fits => exact .modStaging takes _
  case fillingDropped h d takes => exact .modStaging takes _
  case ringClosed h d r check mark high takes whole => exact .modStaging takes _
  case ringsDiscarded h d takes => exact .modStaging takes _
  all_goals exact held.of_same rfl rfl rfl

/-! ### Every step -/

theorem NothingHeld.aside {s t : State} (same : SameBlocks s t) (held : NothingHeld s) : NothingHeld t :=
  held.of_same (by rw [same.engine]) same.staging same.store

theorem nothingHeld_reset {s : State} (staging : s.staging = Staging.reset) (store : s.store = Store.reset) :
    NothingHeld s := by
  intro _
  refine ⟨staging, fun c => ?_, fun h => ?_⟩ <;> rw [store]
  · simp [Store.reset]
  · cases h <;> rfl

/-- The law of ring staging with the job table's, which it rests on. -/
structure StagingFits (s : State) : Prop where
  law : StagingOk s
  jobs : JobsOk s

theorem StagingFits.aside {s t : State} (same : SameBlocks s t) (fits : StagingFits s) : StagingFits t where
  law := fits.law.of_same (.of_eq same.engine same.jobs) same.staging fun cut => by
    rwa [ringBeingCut_of_engine same.engine] at cut
  jobs := fits.jobs.aside same

theorem Move.stagingFits {s t : State} (move : Move s t) (fits : StagingFits s) : StagingFits t :=
  ⟨move.stagingOk fits.law fits.jobs.records, move.jobsOk fits.jobs⟩

/-- Settles O20: the end of a band's currency empties what was held, and a write holds something for a band in use alone;
the law of staging follows the five shapes of a head's slots through every operation on them. -/
theorem nothingIsHeldWithoutBand : Obligations.NothingIsHeldWithoutBand := by
  refine ⟨fun s t held run => ?_, fun s t staging records fit run => ?_⟩
  · exact step_keeps_blocks NothingHeld.aside Move.nothingHeld (fun _ _ held => held)
      (fun _ _ _ => nothingHeld_reset rfl rfl) run held
  · exact (step_keeps_blocks StagingFits.aside Move.stagingFits (fun h n fits => ⟨fits.law.of_same (.of_eq rfl rfl) rfl id, fits.jobs.setStylus h n⟩)
      (fun s a b => ⟨.of_rest rfl rfl, jobsOk_blocksReset s a b⟩) run ⟨staging, records, fit⟩).law

end Sys2Proof.Machine
end

section
/-! PROOFS. The head controllers stay consistent, and drive outputs and prepared cells stand where they may (Table 4-1; R25,
R31, R32, R35, R57, R61 to R66). -/

namespace Sys2Proof.Machine

/-! ### What a move does to the heads and the cells -/

/-- Every head makes a move of its state machine, and every prepared cell stays or becomes EMPTY. -/
structure HeadsStep (s t : State) : Prop where
  head : ∀ h, HeadStep (s.heads.get h) (t.heads.get h)
  cell : ∀ h, (t.cells.get h).prepared = (s.cells.get h).prepared ∨ (t.cells.get h).prepared = none

theorem HeadsStep.of_eq {s t : State} (heads : t.heads = s.heads) (cells : t.cells = s.cells) : HeadsStep s t :=
  ⟨fun h => heads ▸ .rfl _, fun h => .inl (by rw [cells])⟩

theorem HeadsStep.trans {s t u : State} (a : HeadsStep s t) (b : HeadsStep t u) : HeadsStep s u where
  head h := (a.head h).trans (b.head h)
  cell h := by
    rcases b.cell h with same | none
    · exact same ▸ a.cell h
    · exact .inr none

theorem liftSet_headsStep (s : State) : HeadsStep s (liftSet s) where
  head h := by
    have at_h : (liftSet s).heads.get h =
        if s.headInUse h then (s.heads.get h).lift s.now (s.params h) else s.heads.get h := PerHead.get_mapH _ _ _
    rw [at_h]
    split
    · exact .lift _ _ _
    · exact .rfl _
  cell h := .inl rfl

theorem silenceSet_headsStep (s : State) : HeadsStep s (silenceSet s) where
  head h := by
    rw [silenceSet_head]
    split
    · exact .silence _
    · exact .rfl _
  cell h := by
    rw [silenceSet_cell]
    split
    · exact .inr rfl
    · exact .inl rfl

theorem modRecord_headsStep (f : StatusRecord → StatusRecord) (s : State) : HeadsStep s (modRecord f s) :=
  .of_eq (by simp) (by simp)

theorem toEnding_headsStep (o : BandOutcome) (c : Option EndCause) (h : Option HeadId) (s : State) :
    HeadsStep s (toEnding o c h s) :=
  ((modRecord_headsStep _ s).trans (liftSet_headsStep _)).trans (.of_eq rfl rfl)

theorem markPartial_headsStep (s : State) : HeadsStep s (markPartial s) := by
  unfold markPartial
  split
  · exact modRecord_headsStep _ s
  · exact .of_eq rfl rfl

/-- The part before it enters ENDING by an abort: the partial ring recorded, the set silent, the rings dropped. -/
def preAbort (s : State) : State := dropRing (silenceSet (markPartial s))

theorem preAbort_headsStep (s : State) : HeadsStep s (preAbort s) :=
  ((markPartial_headsStep s).trans (silenceSet_headsStep _)).trans (.of_eq (by simp [preAbort]) (by simp [preAbort]))

theorem abortEntry_headsStep (c : EndCause) (h : Option HeadId) (s : State) : HeadsStep s (abortEntry c h s) :=
  (preAbort_headsStep s).trans (toEnding_headsStep _ _ _ _)

/-- The silenced part at boundary L, the ring freed and posted (R33, R113). -/
theorem ringEnded_heads (d : Descriptor) (s : State) :
    (ringEnded d s).heads = (silenceSet s).heads ∧ (ringEnded d s).cells = (silenceSet s).cells := by
  unfold ringEnded
  split <;> simp

theorem ringEnded_headsStep (d : Descriptor) (acc : Nat) (s : State) : HeadsStep s (ringEnded d (counted acc s)) := by
  obtain ⟨heads, cells⟩ := ringEnded_heads d (counted acc s)
  refine HeadsStep.trans (t := counted acc s) (.of_eq rfl rfl) ?_
  exact (silenceSet_headsStep (counted acc s)).trans (.of_eq heads cells)

/-! ### Consistent heads -/

/-- One head's part of the law: its controller, its parameter sets and its prepared cell. -/
structure HeadFits (u : HeadUnit) (p : ParamCopies) (c : CellUnit) : Prop where
  ok : u.ok
  unfitted : p.active.fitted = false → u.state = .offline
  pending : ∀ q, p.pending = some q → q.fitted = true
  code : ∀ x, c.prepared = some x → x.code ≤ 4095

theorem headsOk_iff {s : State} :
    HeadsOk s ↔ ∀ h, HeadFits (s.heads.get h) (s.store.params.get h) (s.cells.get h) :=
  forall_congr' fun _ => ⟨fun ⟨ok, unfitted, pending, code⟩ => ⟨ok, unfitted, pending, code⟩,
    fun ⟨ok, unfitted, pending, code⟩ => ⟨ok, unfitted, pending, code⟩⟩

theorem HeadFits.step {u v : HeadUnit} {p : ParamCopies} {c c' : CellUnit} (fits : HeadFits u p c) (step : HeadStep u v)
    (cell : c'.prepared = c.prepared ∨ c'.prepared = none) : HeadFits v p c' where
  ok := step.ok fits.ok
  unfitted unfit := step.offline (fits.unfitted unfit)
  pending := fits.pending
  code x is := by
    rcases cell with same | none
    · exact fits.code x (same ▸ is)
    · rw [none] at is
      cases is

theorem HeadsOk.step {s t : State} (ok : HeadsOk s) (step : HeadsStep s t) (params : t.store.params = s.store.params) :
    HeadsOk t := by
  refine headsOk_iff.mpr fun h => ?_
  rw [params]
  exact (headsOk_iff.mp ok h).step (step.head h) (step.cell h)

theorem ParamCopies.promote_fits {u : HeadUnit} {p : ParamCopies} {c : CellUnit} (fits : HeadFits u p c) :
    HeadFits u p.promote c := by
  obtain ⟨ok, unfitted, pending, code⟩ := fits
  unfold ParamCopies.promote
  split
  · next q waits =>
    refine ⟨ok, fun unfit => ?_, fun _ h => (by cases h), code⟩
    have fitted := pending q waits
    simp only at unfit
    rw [unfit] at fitted
    cases fitted
  · exact ⟨ok, unfitted, pending, code⟩

theorem HeadsOk.promote {s t : State} (ok : HeadsOk s) (heads : t.heads = s.heads) (cells : t.cells = s.cells)
    (store : t.store = s.store.promote) : HeadsOk t := by
  refine headsOk_iff.mpr fun h => ?_
  have params : t.store.params.get h = (s.store.params.get h).promote := by
    rw [store]
    cases h <;> rfl
  rw [heads, cells, params]
  exact ParamCopies.promote_fits (headsOk_iff.mp ok h)

/-! ### The codes a head port carries (R25) -/

theorem formCell_code_le (s : State) (d : Descriptor) (h : HeadId) (wear k : Nat) :
    (s.formCell d h wear k).code ≤ 4095 := driveOfTone_le _ _ _ _ _

/-! ### A latch (R29, R30, R32) -/

theorem HeadUnit.latch_ok {u : HeadUnit} (ok : u.ok) (kind : BandKind) {c : Option PreparedCell}
    (code : ∀ x, c = some x → x.code ≤ 4095) : (u.latch kind c).ok := by
  obtain ⟨cause, request, timeout, drive, range, up, down⟩ := ok
  have silent : HeadUnit.ok { u with drive := 0 } := (HeadStep.silence u).ok ⟨cause, request, timeout, drive, range, up, down⟩
  unfold HeadUnit.latch
  split
  · exact silent
  · next p =>
    split
    · next presents =>
      exact ⟨cause, request, timeout, fun _ => presents.1, code p rfl, up, down⟩
    · exact silent

theorem HeadUnit.latch_state (u : HeadUnit) (kind : BandKind) (c : Option PreparedCell) :
    (u.latch kind c).state = u.state := by
  unfold HeadUnit.latch
  split
  · rfl
  · split <;> rfl

/-- What a latch leaves of a head. -/
theorem latchCells_head (d : Descriptor) (b : Nat) (s : State) (h : HeadId) :
    (latchCells d b s).heads.get h =
      if d.heads.get h then (s.heads.get h).latch d.kind (s.cells.get h).prepared else s.heads.get h := by
  cases h <;> rfl

theorem anyClip_posted (d : Descriptor) (cells : PerHead CellUnit) (counts : PerHead (Option HeadCounts)) (s : State) :
    (if anyClip d cells counts then postAll .clip s else s).store = s.store ∧
      (if anyClip d cells counts then postAll .clip s else s).staging = s.staging := by
  split <;> exact ⟨rfl, rfl⟩

/-- What a latch leaves of a cell unit: the next cell of a head of the set, below L (R32). -/
theorem latchCells_cell (d : Descriptor) (b : Nat) (s : State) (h : HeadId) (x : PreparedCell)
    (is : ((latchCells d b s).cells.get h).prepared = some x) :
    (d.heads.get h = true ∧ b + 1 < d.cut ∧ x.index = b + 1 ∧ x.code ≤ 4095) ∨
      d.heads.get h = false ∧ (s.cells.get h).prepared = some x := by
  have at_h : ∃ u, (latchCells d b s).cells.get h =
      if d.heads.get h then
        { s.cells.get h with
          prepared :=
            if (s.cells.get h).prepared.isSome ∧ b + 1 < d.cut then
              some (State.formCell u d h (s.cells.get h).wear (b + 1)) else none }
      else s.cells.get h := ⟨_, PerHead.get_mapH _ _ _⟩
  obtain ⟨u, at_h⟩ := at_h
  rw [at_h] at is
  by_cases used : d.heads.get h = true
  · rw [if_pos used] at is
    by_cases below : (s.cells.get h).prepared.isSome = true ∧ b + 1 < d.cut
    · rw [if_pos below] at is
      obtain rfl := Option.some.inj is
      exact .inl ⟨used, below.2, rfl, formCell_code_le _ _ _ _ _⟩
    · rw [if_neg below] at is
      cases is
  · rw [if_neg used] at is
    exact .inr ⟨Bool.eq_false_iff.mpr used, is⟩

/-- What beginning the cells leaves of a cell unit: cell 0 of a head of the set (R31). -/
theorem startCells_cell (d : Descriptor) (s : State) (h : HeadId) :
    (startCells d s).cells.get h =
      if d.heads.get h then
        ⟨wearTerm (s.params h) (s.heads.get h).stylus,
          some (s.formCell d h (wearTerm (s.params h) (s.heads.get h).stylus) 0)⟩
      else s.cells.get h :=
  PerHead.get_mapH _ _ _

theorem beginCutting_eq (d : Descriptor) (s : State) :
    beginCutting d s =
      startCells d ((takeRing d s.nextRing s).modEngine fun g => { g with dataIdle := 0, revPos := some .cut }) := rfl

theorem beginCutting_cell (d : Descriptor) (s : State) (h : HeadId) (x : PreparedCell)
    (is : ((beginCutting d s).cells.get h).prepared = some x) :
    (d.heads.get h = true ∧ x.index = 0 ∧ x.code ≤ 4095) ∨
      d.heads.get h = false ∧ (s.cells.get h).prepared = some x := by
  rw [beginCutting_eq, startCells_cell] at is
  by_cases used : d.heads.get h = true
  · rw [if_pos used] at is
    obtain rfl := Option.some.inj is
    exact .inl ⟨used, rfl, formCell_code_le _ _ _ _ _⟩
  · rw [if_neg used] at is
    simp only [State.modEngine_cells, takeRing_keeps] at is
    exact .inr ⟨Bool.eq_false_iff.mpr used, is⟩

/-! ### Fitting and unfitting (R59, R60) -/

theorem HeadUnit.fit_ok {u : HeadUnit} (ok : u.ok) (offline : u.state = .offline) (now : Nat) (p : HeadParams) :
    (u.fit now p).ok := by
  obtain ⟨cause, request, timeout, drive, range, up, down⟩ := ok
  have sound : u.cause = none := by simpa [offline] using cause
  have none_requested : u.lowerRequest = false := by simpa [offline] using request
  have silent : u.drive = 0 := by simpa [offline] using drive
  have still : u.timeout = none := by
    cases running : u.timeout with
    | none => rfl
    | some t =>
      obtain ⟨kind, a⟩ := t
      rw [running, offline] at timeout
      cases kind <;> cases timeout
  unfold HeadUnit.fit HeadUnit.fault
  split_ifs with amp landed
  · exact ⟨by simp, by simp, by simp, by simp, by simp, by simp, by simp⟩
  · exact ⟨by simp [sound], by simp, by simp, by simp [silent], range, by simp, by simp [landed]⟩
  · exact ⟨by simp [sound], by simp [none_requested], by simp [still], by simp [silent], range, by simpa using landed, by simp⟩

theorem HeadUnit.unfit_ok (u : HeadUnit) : u.unfit.ok := by
  simp [HeadUnit.ok, HeadUnit.unfit]

/-- What storing a parameter set leaves of a head controller (R50, R59, R60). -/
theorem storeParams_head (h : HeadId) (p : HeadParams) (s : State) (k : HeadId) :
    (storeParams h p s).heads.get k =
      if k = h ∧ s.headInUse h = false then
        if (s.params h).fitted = false ∧ p.fitted = true then (s.heads.get k).fit s.now p
        else if (s.params h).fitted = true ∧ p.fitted = false then (s.heads.get k).unfit
        else s.heads.get k
      else s.heads.get k := by
  have changed (f : HeadUnit → HeadUnit) (x : Store) :
      (((s.withStore x).modHead h f).heads.get k) = if k = h then f (s.heads.get k) else s.heads.get k := by
    have heads : ((s.withStore x).modHead h f).heads = s.heads.set h (f (s.heads.get h)) := rfl
    rw [heads, PerHead.get_set]
    by_cases same : k = h
    · subst same
      simp
    · simp [same]
  have posted (f : HeadUnit → HeadUnit) (x : Store) : (postAll .headFault ((s.withStore x).modHead h f)).heads =
      ((s.withStore x).modHead h f).heads := rfl
  unfold storeParams
  dsimp only
  by_cases used : s.headInUse h = true
  · rw [if_pos used, if_neg (by simp [used])]
    rfl
  · rw [if_neg used]
    have free : s.headInUse h = false := Bool.eq_false_iff.mpr used
    unfold applyFitting
    have before : (s.store.params.get h).active.fitted = (s.params h).fitted := rfl
    rw [before]
    cases was : (s.params h).fitted <;> cases is : p.fitted
    · simp
    · dsimp only
      split
      · rw [posted, changed]
        by_cases same : k = h <;> simp [same, free]
      · rw [changed]
        by_cases same : k = h <;> simp [same, free]
    · dsimp only
      rw [changed]
      by_cases same : k = h <;> simp [same, free]
    · simp

theorem storeParams_cells (h : HeadId) (p : HeadParams) (s : State) : (storeParams h p s).cells = s.cells := by
  unfold storeParams applyFitting
  dsimp only
  repeat' split
  all_goals rfl

theorem HeadsOk.paramsWritten {s : State} (ok : HeadsOk s) (h : HeadId) (p : HeadParams)
    (fitted : s.headInUse h = true → p.fitted = true) : HeadsOk (storeParams h p s) := by
  refine headsOk_iff.mpr fun k => ?_
  obtain ⟨unit, unfitted, pending, code⟩ := headsOk_iff.mp ok k
  have params : (storeParams h p s).store.params.get k =
      if k = h then (if s.headInUse h then { s.store.params.get h with pending := some p } else ⟨p, none⟩)
      else s.store.params.get k := by
    rw [storeParams_store]
    exact PerHead.get_set _ _ _ _
  rw [storeParams_head, storeParams_cells, params]
  by_cases same : k = h
  · subst same
    cases used : s.headInUse k with
    | true =>
      simp only [true_and, if_true, reduceCtorEq, if_false]
      refine ⟨unit, unfitted, fun q is => ?_, code⟩
      exact Option.some.inj is ▸ fitted used
    | false =>
      simp only [and_true, if_true, Bool.false_eq_true, if_false]
      have was : (s.store.params.get k).active.fitted = (s.params k).fitted := rfl
      split_ifs with fits unfits
      · have offline := unfitted (was.trans fits.1)
        exact ⟨HeadUnit.fit_ok unit offline s.now p, fun is => (by rw [fits.2] at is; cases is), fun _ is => (by cases is), code⟩
      · exact ⟨HeadUnit.unfit_ok _, fun _ => rfl, fun _ is => (by cases is), code⟩
      · refine ⟨unit, fun is => ?_, fun _ is => (by cases is), code⟩
        refine unfitted (was.trans ?_)
        by_contra still
        exact unfits ⟨by simpa using still, is⟩
  · simp only [same, false_and, if_false]
    exact ⟨unit, unfitted, pending, code⟩

/-! ### Consistent heads under a move -/

theorem abortEntry_store (c : EndCause) (h : Option HeadId) (s : State) : (abortEntry c h s).store = s.store := by
  have marked : (markPartial s).store = s.store := by
    unfold markPartial
    split <;> simp
  rw [abortEntry_eq]
  simp [marked]

theorem ringEnded_store (d : Descriptor) (s : State) : (ringEnded d s).store = s.store := by
  unfold ringEnded
  split <;> simp

theorem HeadsOk.latched {s : State} (ok : HeadsOk s) (d : Descriptor) (acc b : Nat) :
    HeadsOk (latchCells d b (counted acc s)) := by
  refine headsOk_iff.mpr fun h => ?_
  have store : (latchCells d b (counted acc s)).store = s.store := by simp [counted]
  obtain ⟨unit, unfitted, pending, code⟩ := headsOk_iff.mp ok h
  rw [latchCells_head, store]
  refine ⟨?_, fun unfit => ?_, pending, fun x is => ?_⟩
  · split
    · exact HeadUnit.latch_ok unit d.kind code
    · exact unit
  · split
    · rw [HeadUnit.latch_state]
      exact unfitted unfit
    · exact unfitted unfit
  · rcases latchCells_cell d b (counted acc s) h x is with ⟨-, -, -, le⟩ | ⟨-, same⟩
    · exact le
    · exact code x same

theorem Move.headsOk {s t : State} (move : Move s t) (ok : HeadsOk s) : HeadsOk t := by
  cases move
  case heads x steps => exact ok.step ⟨steps, fun h => .inl rfl⟩ rfl
  case cells x cells => exact ok.step ⟨fun h => .rfl _, cells⟩ rfl
  case aborted c h f runs =>
    refine ok.step (.trans (t := s.modGrid f) (.of_eq rfl rfl) (abortEntry_headsStep c h (s.modGrid f))) ?_
    rw [abortEntry_store]
    rfl
  case cutAborted c runs =>
    refine ok.step (.trans (t := emptyStaging s) (.of_eq rfl rfl) (abortEntry_headsStep c none (emptyStaging s))) ?_
    rw [abortEntry_store]
    rfl
  case stopped c runs whole => exact ok.step (toEnding_headsStep _ _ _ s) (by simp)
  case ringDone d acc carries cutting last more =>
    exact ok.step (ringEnded_headsStep d acc s) (by rw [ringEnded_store]; rfl)
  case bandDone d acc carries cutting last done =>
    have store : (toEnding .complete none none (ringEnded d (counted acc s))).store =
      (ringEnded d (counted acc s)).store := by simp
    exact ok.step ((ringEnded_headsStep d acc s).trans (toEnding_headsStep _ _ _ _))
      (by rw [store, ringEnded_store]; rfl)
  case ended e ending => exact ok.promote (by simp) (by simp) (by simp [enterEnded, endCurrency])
  case disarmed armed => exact ok.promote (by simp) (by simp) (by simp [disarmBand])
  case chained m d ending desc fresh => 
    exact ok.promote (by simp [Machine.chained, awaitIndex]) (by simp [Machine.chained, awaitIndex])
      (by simp [Machine.chained, awaitIndex, endCurrency])
  case tally f run => exact ok.step (modRecord_headsStep f s) (by simp)
  case latched d acc carries cutting below => exact ok.latched d acc _
  case cuttingBegun d runs band ready silent fresh =>
    refine headsOk_iff.mpr fun h => ?_
    obtain ⟨unit, unfitted, pending, code⟩ := headsOk_iff.mp ok h
    have heads : (beginCutting d (enterCutting s)).heads = s.heads := by simp [enterCutting]
    have store : (beginCutting d (enterCutting s)).store = s.store := by simp [enterCutting]
    show HeadFits ((beginCutting d (enterCutting s)).heads.get h) ((beginCutting d (enterCutting s)).store.params.get h)
      ((beginCutting d (enterCutting s)).cells.get h)
    rw [heads, store]
    refine ⟨unit, unfitted, pending, fun x is => ?_⟩
    rcases beginCutting_cell d (enterCutting s) h x is with ⟨-, -, le⟩ | ⟨-, same⟩
    · exact le
    · exact code x same
  case paramsWritten h p fits => exact ok.paramsWritten h p fits
  all_goals exact ok.step (.of_eq rfl rfl) rfl

end Sys2Proof.Machine
end

section
/-! PROOFS. Drive outputs and prepared cells stand where they may in every reachable state (R31, R32, R35), and a stylus
count never falls (R29). -/

namespace Sys2Proof.Machine

/-! ### The law of drive outputs and prepared cells -/

/-- Where a drive output above 0 may stand (R35). -/
def DriveAt (s : State) (h : HeadId) : Prop :=
  s.ringBeingCut = true ∧ ∃ d, s.band = some d ∧ d.heads.get h = true ∧ d.kind ≠ .dryPass ∧ 1 ≤ s.grid.boundaries ∧
    s.grid.boundaries ≤ d.cut

/-- Where prepared cell `p` may stand (R31, R32). -/
def CellAt (s : State) (h : HeadId) (p : PreparedCell) : Prop :=
  s.ringBeingCut = true ∧ ∃ d, s.band = some d ∧ d.heads.get h = true ∧ p.index = s.grid.boundaries ∧ p.index < d.cut

structure DriveLaw (s : State) : Prop where
  whole : s.ringBeingCut = true → ∀ d, s.band = some d → s.grid.boundaries ≤ d.cut
  drive : ∀ h, 0 < (s.heads.get h).drive → DriveAt s h
  cell : ∀ h p, (s.cells.get h).prepared = some p → CellAt s h p

theorem driveOk_iff {s : State} : DriveOk s ↔ DriveLaw s := by
  have cutting : s.ringBeingCut = true ↔ s.engine.state = .cutting ∧ s.engine.revPos = some .cut := by
    simp [State.ringBeingCut]
  constructor
  · rintro ⟨whole, heads⟩
    refine ⟨fun cut => whole (cutting.mp cut).1 (cutting.mp cut).2, fun h on => ?_, fun h p is => ?_⟩
    · obtain ⟨state, pos, rest⟩ := (heads h).1 on
      exact ⟨cutting.mpr ⟨state, pos⟩, rest⟩
    · obtain ⟨state, pos, rest⟩ := (heads h).2 p is
      exact ⟨cutting.mpr ⟨state, pos⟩, rest⟩
  · rintro ⟨whole, drive, cell⟩
    refine ⟨fun state pos => whole (cutting.mpr ⟨state, pos⟩), fun h => ⟨fun on => ?_, fun p is => ?_⟩⟩
    · obtain ⟨cut, rest⟩ := drive h on
      exact ⟨(cutting.mp cut).1, (cutting.mp cut).2, rest⟩
    · obtain ⟨cut, rest⟩ := cell h p is
      exact ⟨(cutting.mp cut).1, (cutting.mp cut).2, rest⟩

/-- No head has a drive output, and no cell is prepared. -/
def Silent (s : State) : Prop := ∀ h, (s.heads.get h).drive = 0 ∧ (s.cells.get h).prepared = none

theorem DriveLaw.of_silent {s : State} (silent : Silent s)
    (whole : s.ringBeingCut = true → ∀ d, s.band = some d → s.grid.boundaries ≤ d.cut) : DriveLaw s where
  whole := whole
  drive h on := by rw [(silent h).1] at on; cases on
  cell h p is := by rw [(silent h).2] at is; cases is

/-- With no ring being cut a silent part keeps the law. -/
theorem DriveLaw.of_idle {s : State} (silent : Silent s) (idle : s.ringBeingCut = false) : DriveLaw s :=
  .of_silent silent fun cut => by rw [idle] at cut; cases cut

/-- Outside the set nothing is presented or prepared, so a silenced set leaves the part silent. -/
theorem DriveLaw.silent_of_set {s : State} (law : DriveLaw s) (set : SetSilent s) : Silent s := by
  intro h
  cases used : s.headInUse h with
  | true => exact set h used
  | false =>
    have out {d : Descriptor} (band : s.band = some d) : ¬ d.heads.get h = true := by
      rw [← headInUse_of_band band, used]
      exact Bool.false_ne_true
    constructor
    · by_contra on
      obtain ⟨-, d, band, inSet, -⟩ := law.drive h (Nat.pos_of_ne_zero on)
      exact out band inSet
    · by_contra some
      obtain ⟨p, is⟩ := Option.ne_none_iff_exists'.mp some
      obtain ⟨-, d, band, inSet, -⟩ := law.cell h p is
      exact out band inSet

theorem DriveLaw.silent_of_idle {s : State} (law : DriveLaw s) (idle : s.ringBeingCut = false) : Silent s := by
  intro h
  constructor
  · by_contra on
    obtain ⟨cut, -⟩ := law.drive h (Nat.pos_of_ne_zero on)
    rw [idle] at cut
    cases cut
  · by_contra some
    obtain ⟨p, is⟩ := Option.ne_none_iff_exists'.mp some
    obtain ⟨cut, -⟩ := law.cell h p is
    rw [idle] at cut
    cases cut

/-- A move of the heads raises no drive output and prepares no cell. -/
theorem Silent.step {s t : State} (silent : Silent s) (step : HeadsStep s t) : Silent t := by
  intro h
  constructor
  · rcases (step.head h).drive with same | zero
    · exact same.trans (silent h).1
    · exact zero
  · rcases step.cell h with same | none
    · exact same.trans (silent h).2
    · exact none

/-- The band, the ring being cut and the boundary count stay; outputs and cells stay, become 0 or become EMPTY. -/
theorem DriveLaw.step {s t : State} (law : DriveLaw s) (band : t.band = s.band)
    (cutting : t.ringBeingCut = s.ringBeingCut) (boundaries : t.grid.boundaries = s.grid.boundaries)
    (drive : ∀ h, (t.heads.get h).drive = (s.heads.get h).drive ∨ (t.heads.get h).drive = 0)
    (cell : ∀ h, (t.cells.get h).prepared = (s.cells.get h).prepared ∨ (t.cells.get h).prepared = none) : DriveLaw t where
  whole := by
    rw [cutting, band, boundaries]
    exact law.whole
  drive h on := by
    unfold DriveAt
    rw [cutting, band, boundaries]
    rcases drive h with same | zero
    · exact law.drive h (same ▸ on)
    · rw [zero] at on
      cases on
  cell h p is := by
    unfold CellAt
    rw [cutting, band, boundaries]
    rcases cell h with same | none
    · exact law.cell h p (same ▸ is)
    · rw [none] at is
      cases is

theorem DriveLaw.headsStep {s t : State} (law : DriveLaw s) (band : t.band = s.band)
    (cutting : t.ringBeingCut = s.ringBeingCut) (boundaries : t.grid.boundaries = s.grid.boundaries)
    (step : HeadsStep s t) : DriveLaw t :=
  law.step band cutting boundaries (fun h => (step.head h).drive) step.cell

/-! ### Under a move -/

theorem ringBeingCut_of_not_cutting {s : State} (other : s.engine.state ≠ .cutting) : s.ringBeingCut = false := by
  simp [State.ringBeingCut, other]

theorem toEnding_whole (o : BandOutcome) (c : Option EndCause) (h : Option HeadId) (s : State) :
    (toEnding o c h s).ringBeingCut = false := by
  refine ringBeingCut_of_not_cutting ?_
  rw [toEnding_engine]
  exact fun h => by cases h

theorem preAbort_silent {s : State} (law : DriveLaw s) : Silent (preAbort s) := by
  have marked : DriveLaw (markPartial s) :=
    law.headsStep (markPartial_same s).band (ringBeingCut_of_engine (markPartial_engine s))
      (by unfold markPartial; split <;> simp) (markPartial_headsStep s)
  have silenced : DriveLaw (silenceSet (markPartial s)) :=
    marked.headsStep rfl rfl rfl (silenceSet_headsStep _)
  exact (silenced.silent_of_set (silenceSet_silent _)).step (.of_eq (by simp [preAbort]) (by simp [preAbort]))

/-- An abort leaves the part silent. -/
theorem DriveLaw.aborted {s u : State} (law : DriveLaw s) (engine : u.engine = s.engine) (jobs : u.jobs = s.jobs)
    (heads : u.heads = s.heads) (cells : u.cells = s.cells) (c : EndCause) (h : Option HeadId) :
    DriveLaw (abortEntry c h u) := by
  have same : SameBand s u := .of_eq engine jobs
  refine .of_idle ?_ (toEnding_whole _ _ _ _)
  have silent : Silent (silenceSet s) :=
    (law.headsStep (t := silenceSet s) rfl rfl rfl (silenceSet_headsStep s)).silent_of_set (silenceSet_silent s)
  have pre : Silent (preAbort u) := by
    intro k
    have headsEq : (preAbort u).heads.get k = (silenceSet s).heads.get k := by
      have at_k : (preAbort u).heads = (silenceSet (markPartial u)).heads := by simp [preAbort]
      have marked : (markPartial u).heads = u.heads := by
        unfold markPartial
        split <;> simp
      rw [at_k, silenceSet_head, silenceSet_head, (markPartial_same u).headInUse, same.headInUse, marked, heads]
    have cellsEq : (preAbort u).cells.get k = (silenceSet s).cells.get k := by
      have at_k : (preAbort u).cells = (silenceSet (markPartial u)).cells := by simp [preAbort]
      have marked : (markPartial u).cells = u.cells := by
        unfold markPartial
        split <;> simp
      rw [at_k, silenceSet_cell, silenceSet_cell, (markPartial_same u).headInUse, same.headInUse, marked, cells]
    rw [headsEq, cellsEq]
    exact silent k
  exact pre.step (toEnding_headsStep _ _ _ _)

/-- Boundary L leaves the part silent (R33). -/
theorem DriveLaw.ringDone {s : State} (law : DriveLaw s) (d : Descriptor) (acc : Nat) :
    Silent (ringEnded d (counted acc s)) := by
  have silent : Silent (silenceSet s) :=
    (law.headsStep (t := silenceSet s) rfl rfl rfl (silenceSet_headsStep s)).silent_of_set (silenceSet_silent s)
  obtain ⟨heads, cells⟩ := ringEnded_heads d (counted acc s)
  intro h
  rw [heads, cells]
  exact silent h

/-- A latch in the cell period that boundary `b` below L begins (R32). -/
theorem DriveLaw.latched {s : State} (law : DriveLaw s) {d : Descriptor} (band : s.band = some d)
    (cutting : s.ringBeingCut = true) (below : s.grid.boundaries < d.cut) (acc : Nat) :
    DriveLaw (latchCells d s.grid.boundaries (counted acc s)) := by
  have same := (SameBand.latched d acc s).band.trans band
  have cut : (latchCells d s.grid.boundaries (counted acc s)).ringBeingCut = true :=
    (ringBeingCut_of_engine (by simp [counted])).trans cutting
  have boundaries : (latchCells d s.grid.boundaries (counted acc s)).grid.boundaries = s.grid.boundaries + 1 := by
    simp [counted]
  refine ⟨fun _ e is => ?_, fun h on => ?_, fun h p is => ?_⟩
  · obtain rfl : d = e := Option.some.inj (same.symm.trans is)
    rw [boundaries]
    exact below
  · unfold DriveAt
    rw [boundaries]
    rw [latchCells_head] at on
    have inSet : d.heads.get h = true := by
      by_contra out
      rw [if_neg out] at on
      obtain ⟨-, e, is, inSet, -⟩ := law.drive h on
      obtain rfl : d = e := Option.some.inj (band.symm.trans is)
      exact out inSet
    refine ⟨cut, d, same, inSet, ?_, Nat.le_add_left 1 _, below⟩
    rw [if_pos inSet] at on
    unfold HeadUnit.latch at on
    split at on
    · cases on
    · split at on
      · next presents => exact presents.2
      · cases on
  · unfold CellAt
    rw [boundaries]
    rcases latchCells_cell d s.grid.boundaries (counted acc s) h p is with ⟨inSet, next, index, -⟩ | ⟨out, old⟩
    · exact ⟨cut, d, same, inSet, index, index ▸ next⟩
    · obtain ⟨-, e, is, inSet, -⟩ := law.cell h p old
      obtain rfl : d = e := Option.some.inj (band.symm.trans is)
      rw [out] at inSet
      cases inSet

theorem cut_pos {s : State} (fit : DescriptorsFit s) {d : Descriptor} (band : s.band = some d) : 1 ≤ d.cut := by
  obtain ⟨-, i, -, desc⟩ := State.band_eq_some_iff.mp band
  obtain ⟨-, -, -, -, -, -, -, -, -, -, -, cut, -⟩ := fit i d desc
  exact cut

/-- Cell 0 is prepared at the index that begins a cutting revolution, and boundary 0 is the next (R31). -/
theorem DriveLaw.cuttingBegun {s : State} (law : DriveLaw s) (grid : GridLaw s) (fit : DescriptorsFit s) {d : Descriptor}
    (runs : s.engine.state = .preparing ∨ s.engine.state = .cutting) (band : s.band = some d) (silent : SetSilent s)
    (fresh : s.grid.state = .running → s.grid.boundaries = 0) : DriveLaw (beginCutting d (enterCutting s)) := by
  have same : (beginCutting d (enterCutting s)).band = some d := (SameBand.cuttingBegun d runs).band.trans band
  have cut : (beginCutting d (enterCutting s)).ringBeingCut = true := by
    simp [State.ringBeingCut, beginCutting, enterCutting]
  have boundaries : (beginCutting d (enterCutting s)).grid.boundaries = 0 := by
    have kept : (beginCutting d (enterCutting s)).grid = s.grid := by simp [enterCutting]
    rw [kept]
    by_cases running : s.grid.state = .running
    · exact fresh running
    · exact (grid.still running).2
  have quiet := law.silent_of_set silent
  refine ⟨fun _ e _ => by omega, fun h on => ?_, fun h p is => ?_⟩
  · have heads : (beginCutting d (enterCutting s)).heads = s.heads := by simp [enterCutting]
    rw [heads, (quiet h).1] at on
    cases on
  · rcases beginCutting_cell d (enterCutting s) h p is with ⟨inSet, index, -⟩ | ⟨-, old⟩
    · refine ⟨cut, d, same, inSet, by rw [boundaries, index], ?_⟩
      rw [index]
      exact cut_pos fit band
    · have old : (s.cells.get h).prepared = some p := old
      rw [(quiet h).2] at old
      cases old

theorem storeParams_drive (h : HeadId) (p : HeadParams) (s : State) (k : HeadId) :
    ((storeParams h p s).heads.get k).drive = (s.heads.get k).drive ∨ ((storeParams h p s).heads.get k).drive = 0 := by
  rw [storeParams_head]
  split_ifs
  · unfold HeadUnit.fit
    split_ifs
    · exact .inr rfl
    · exact .inl rfl
    · exact .inl rfl
  · exact .inr rfl
  · exact .inl rfl
  · exact .inl rfl

theorem Move.driveLaw {s t : State} (move : Move s t) (law : DriveLaw s) (grid : GridLaw s) (fit : DescriptorsFit s) :
    DriveLaw t := by
  have rests {x : EngineState} (state : s.engine.state = x) (other : x ≠ .cutting) : Silent s :=
    law.silent_of_idle (ringBeingCut_of_not_cutting (state ▸ other))
  cases move
  case heads x steps => exact law.headsStep rfl rfl rfl ⟨steps, fun h => .inl rfl⟩
  case cells x cells => exact law.headsStep rfl rfl rfl ⟨fun h => .rfl _, cells⟩
  case counters f state slot pos =>
    refine law.headsStep (SameBand.counters state slot).band ?_ rfl (.of_eq rfl rfl)
    simp [State.ringBeingCut, state, pos]
  case position f state acc boundaries => exact law.headsStep rfl rfl boundaries (.of_eq rfl rfl)
  case tally f run =>
    exact law.headsStep (SameBand.tally run).band (ringBeingCut_of_engine (modRecord_engine f s)) (by simp)
      (modRecord_headsStep f s)
  case aborted c h f runs => exact law.aborted (u := s.modGrid f) rfl rfl rfl rfl c h
  case cutAborted c runs => exact law.aborted (u := emptyStaging s) rfl rfl rfl rfl c none
  case stopped c runs whole =>
    exact .of_idle ((law.silent_of_idle whole).step (toEnding_headsStep _ _ _ s)) (toEnding_whole _ _ _ s)
  case ended e ending =>
    exact .of_idle ((rests ending (by decide)).step (.of_eq (by simp) (by simp))) (ringBeingCut_of_not_cutting fun h => by cases h)
  case chained m d ending desc fresh =>
    refine .of_idle ((rests ending (by decide)).step (.of_eq ?_ ?_)) rfl <;> simp [Machine.chained, awaitIndex]
  case disarmed armed =>
    exact .of_idle ((rests armed (by decide)).step (.of_eq (by simp) (by simp))) (ringBeingCut_of_not_cutting fun h => by cases h)
  case armed i d restart idle desc fresh => exact .of_idle ((rests idle (by decide)).step (.of_eq rfl rfl)) rfl
  case started armed => exact .of_idle ((rests armed (by decide)).step (.of_eq rfl rfl)) rfl
  case resumed held => exact .of_idle ((rests held (by decide)).step (.of_eq rfl rfl)) rfl
  case acknowledged ended => exact .of_idle ((rests ended (by decide)).step (.of_eq rfl rfl)) rfl
  case held r runs whole => exact .of_idle ((law.silent_of_idle whole).step (.of_eq rfl rfl)) rfl
  case passed d acc carries above =>
    refine .of_idle ((law.silent_of_idle ?_).step (.of_eq rfl rfl)) ?_
    all_goals
      show s.ringBeingCut = false
      refine Bool.eq_false_iff.mpr fun cut => ?_
      exact absurd (law.whole cut d carries.band) (Nat.not_le_of_lt (above cut))
  case latched d acc carries cutting below => exact law.latched carries.band cutting below acc
  case ringDone d acc carries cutting last more =>
    refine .of_idle (law.ringDone d acc) ?_
    simp [State.ringBeingCut, ringEnded_engine]
  case bandDone d acc carries cutting last done =>
    exact .of_idle ((law.ringDone d acc).step (toEnding_headsStep _ _ _ _)) (toEnding_whole _ _ _ _)
  case preset now r g silent =>
    cases cutting : s.ringBeingCut with
    | false => exact .of_idle ((law.silent_of_idle cutting).step (.of_eq rfl rfl)) cutting
    | true =>
      refine .of_silent ((law.silent_of_set (silent cutting)).step (.of_eq rfl rfl)) fun _ d band => ?_
      have count : (s.grid.index now (presetFor r g)).boundaries = s.grid.boundaries ∨
          (s.grid.index now (presetFor r g)).boundaries = 0 := by
        unfold Grid.index
        dsimp only
        split
        · exact .inl rfl
        · exact .inr rfl
      show (s.grid.index now (presetFor r g)).boundaries ≤ d.cut
      rcases count with same | zero
      · rw [same]
        exact law.whole cutting d band
      · omega
  case cuttingBegun d runs band ready silent fresh => exact law.cuttingBegun grid fit runs band silent fresh
  case idleBegun f runs silent state slot pos =>
    refine .of_idle ((law.silent_of_set silent).step (.of_eq rfl rfl)) ?_
    simp [State.ringBeingCut, pos]
  case descriptorWritten i d listed sound free => exact law.headsStep (band_modJob free _) rfl rfl (.of_eq rfl rfl)
  case descriptorCleared i free => exact law.headsStep (band_modJob free _) rfl rfl (.of_eq rfl rfl)
  case paramsWritten h p fits =>
    exact law.step (SameBand.paramsWritten h p s).band (ringBeingCut_of_engine (storeParams_engine h p s))
      (by rw [storeParams_grid]) (storeParams_drive h p s) fun k => .inl (by rw [storeParams_cells])
  all_goals exact law.headsStep rfl rfl rfl (.of_eq rfl rfl)

/-! ### Every step -/

theorem HeadsOk.aside {s t : State} (same : SameBlocks s t) (ok : HeadsOk s) : HeadsOk t :=
  ok.step (.of_eq same.heads same.cells) (by rw [same.store])

theorem HeadsOk.setStylus {s : State} (h : HeadId) (n : Nat) (ok : HeadsOk s) : HeadsOk (Machine.setStylus h n s) := by
  refine headsOk_iff.mpr fun k => ?_
  obtain ⟨unit, unfitted, pending, code⟩ := headsOk_iff.mp ok k
  have at_k : (Machine.setStylus h n s).heads.get k =
      if k = h then { s.heads.get h with stylus := n } else s.heads.get k :=
    PerHead.get_set _ _ _ _
  rw [at_k]
  split
  · next same =>
    subst same
    exact ⟨unit, unfitted, pending, code⟩
  · exact ⟨unit, unfitted, pending, code⟩

theorem blocksReset_head (a b : LineFilter) (s : State) (h : HeadId) :
    (blocksReset a b s).heads.get h = HeadUnit.reset (s.pins.landed.get h) (s.pins.ampFault.get h) := by
  cases h <;> rfl

theorem HeadUnit.reset_ok (landed amp : Bool) : (HeadUnit.reset landed amp).ok := by
  simp [HeadUnit.ok, HeadUnit.reset]

theorem headsOk_of_reset {s : State} (heads : ∀ h, ∃ landed amp, s.heads.get h = HeadUnit.reset landed amp)
    (cells : s.cells = PerHead.pure CellUnit.reset) (store : s.store = Store.reset) : HeadsOk s := by
  refine headsOk_iff.mpr fun h => ?_
  obtain ⟨landed, amp, at_h⟩ := heads h
  have params : s.store.params.get h = ⟨HeadParams.reset, none⟩ := by
    rw [store]
    cases h <;> rfl
  have cell : s.cells.get h = CellUnit.reset := by
    rw [cells]
    cases h <;> rfl
  rw [at_h, params, cell]
  exact ⟨HeadUnit.reset_ok landed amp, fun _ => rfl, fun _ is => (by cases is), fun _ is => (by cases is)⟩

theorem headsOk_blocksReset (s : State) (a b : LineFilter) : HeadsOk (blocksReset a b s) :=
  headsOk_of_reset (fun h => ⟨_, _, blocksReset_head a b s h⟩) rfl rfl

/-- Drive outputs and prepared cells, with the laws of the grid and the job table that theirs rests on. -/
structure DriveFits (s : State) : Prop where
  law : DriveLaw s
  grid : GridFits s

theorem DriveFits.aside {s t : State} (same : SameBlocks s t) (fits : DriveFits s) : DriveFits t where
  law := fits.law.headsStep (SameBand.of_eq same.engine same.jobs).band (ringBeingCut_of_engine same.engine)
    (by rw [same.grid]) (.of_eq same.heads same.cells)
  grid := fits.grid.aside same

theorem Move.driveFits {s t : State} (move : Move s t) (fits : DriveFits s) : DriveFits t :=
  ⟨move.driveLaw fits.law fits.grid.law fits.grid.fit, move.gridFits fits.grid⟩

theorem DriveFits.setStylus {s : State} (h : HeadId) (n : Nat) (fits : DriveFits s) :
    DriveFits (Machine.setStylus h n s) where
  law := fits.law.step rfl rfl rfl
    (fun k => by
      have at_k : (Machine.setStylus h n s).heads.get k =
          if k = h then { s.heads.get h with stylus := n } else s.heads.get k := PerHead.get_set _ _ _ _
      rw [at_k]
      split
      · next same => exact .inl (by rw [same])
      · exact .inl rfl)
    fun _ => .inl rfl
  grid := ⟨fits.grid.law.of_same (.of_eq rfl rfl) rfl rfl rfl, fits.grid.fit⟩

theorem silent_blocksReset (s : State) (a b : LineFilter) : Silent (blocksReset a b s) := by
  intro h
  rw [blocksReset_head]
  exact ⟨rfl, by cases h <;> rfl⟩

/-- Settles O25: a head's move keeps it consistent, whatever asks for it; and outside a cutting revolution the part is
silent, since what ends one silences the set. -/
theorem headsStayConsistent : Obligations.HeadsStayConsistent := by
  refine ⟨fun s t ok run => ?_, fun s t drive grid _ _ fit run => ?_⟩
  · exact step_keeps_blocks HeadsOk.aside Move.headsOk HeadsOk.setStylus headsOk_blocksReset run ok
  · exact driveOk_iff.mpr (step_keeps_blocks DriveFits.aside Move.driveFits DriveFits.setStylus
      (fun s a b => ⟨.of_idle (silent_blocksReset s a b) rfl, gridLaw_blocksReset s a b, descriptorsFit_blocksReset a b s⟩)
      run ⟨driveOk_iff.mp drive, (gridOk_iff.mp grid).2, fit⟩).law

/-! ### A stylus count never falls (R29) -/

theorem HeadUnit.latch_stylus (u : HeadUnit) (kind : BandKind) (c : Option PreparedCell) :
    (u.latch kind c).stylus = u.stylus ∨ (u.latch kind c).stylus = countUp u.stylus := by
  unfold HeadUnit.latch
  split
  · exact .inl rfl
  · split
    · dsimp only
      split
      · exact .inr rfl
      · exact .inl rfl
    · exact .inl rfl

theorem Move.stylus {s t : State} (move : Move s t) (h : HeadId) :
    (t.heads.get h).stylus = (s.heads.get h).stylus ∨ (t.heads.get h).stylus = countUp (s.heads.get h).stylus := by
  have kept {u : State} (step : HeadsStep s u) : (u.heads.get h).stylus = (s.heads.get h).stylus :=
    (step.head h).stylus
  cases move
  case heads x steps => exact .inl (kept ⟨steps, fun h => .inl rfl⟩)
  case aborted c k f runs =>
    exact .inl (kept (.trans (t := s.modGrid f) (.of_eq rfl rfl) (abortEntry_headsStep c k (s.modGrid f))))
  case cutAborted c runs =>
    exact .inl (kept (.trans (t := emptyStaging s) (.of_eq rfl rfl) (abortEntry_headsStep c none (emptyStaging s))))
  case stopped c runs whole => exact .inl (kept (toEnding_headsStep _ _ _ s))
  case ringDone d acc carries cutting last more => exact .inl (kept (ringEnded_headsStep d acc s))
  case bandDone d acc carries cutting last done =>
    exact .inl (kept ((ringEnded_headsStep d acc s).trans (toEnding_headsStep _ _ _ _)))
  case ended e ending => exact .inl (by simp)
  case disarmed armed => exact .inl (by simp)
  case chained m d ending desc fresh => exact .inl (by simp [Machine.chained, awaitIndex])
  case tally f run => exact .inl (by simp)
  case latched d acc carries cutting below =>
    rw [latchCells_head]
    split
    · exact HeadUnit.latch_stylus _ _ _
    · exact .inl rfl
  case cuttingBegun d runs band ready silent fresh => exact .inl (by simp)
  case paramsWritten k p fits =>
    left
    rw [storeParams_head]
    split_ifs
    · unfold HeadUnit.fit
      split_ifs <;> rfl
    all_goals rfl
  all_goals exact .inl rfl

theorem countUp_bounds {n : Nat} (fits : n ≤ 4294967295) : n ≤ countUp n ∧ countUp n ≤ 4294967295 := by
  unfold countUp Config.maxCount
  omega

theorem Course.stylus {s t : State} (course : Course s t) {h : HeadId} (fits : (s.heads.get h).stylus ≤ 4294967295) :
    (s.heads.get h).stylus ≤ (t.heads.get h).stylus ∧ (t.heads.get h).stylus ≤ 4294967295 := by
  refine course.keeps (I := fun u => (s.heads.get h).stylus ≤ (u.heads.get h).stylus ∧ (u.heads.get h).stylus ≤ 4294967295)
    (fun same is => ?_) (fun move is => ?_) ⟨Nat.le_refl _, fits⟩
  · rw [same.heads]
    exact is
  · rcases move.stylus h with same | up
    · rw [same]
      exact is
    · rw [up]
      exact ⟨is.1.trans (countUp_bounds is.2).1, (countUp_bounds is.2).2⟩

theorem ReqKind.code_of_ofCode {b : Byte} {k : ReqKind} (names : ReqKind.ofCode b = some k) : k.code = b := by
  unfold ReqKind.ofCode at names
  simpa using List.find?_some names

/-- A request that may set a stylus count is SET_STYLUS_COUNT, as a row or as a frame of its kind. -/
theorem asks_setStylusCount {c : Instr} (asks : Asks c .setStylusCount) :
    (∃ l head n, c = .setStylusCount l head n) ∨ ∃ l body check, c = .frameReceived l 0x14#8 body check := by
  cases c
  case frameReceived l kind body check =>
    obtain rfl := ReqKind.code_of_ofCode asks
    exact .inr ⟨l, body, check, rfl⟩
  case setStylusCount l head n => exact .inl ⟨l, head, n, rfl⟩
  all_goals
    obtain ⟨l, body, is⟩ := asks
    cases is

/-- Outside master reset a change of its line moves no head. -/
theorem masterResetLineChange_heads (asserted : Bool) {s : State} (outside : s.inMasterReset = false) :
    (masterResetLineChange asserted s).heads = s.heads := by
  unfold masterResetLineChange
  rw [if_neg (by simp [outside])]
  rfl

/-- The master reset's filter moves the heads only into master reset. -/
theorem masterResetQualified_heads {s : State} (outside : (masterResetQualified s).inMasterReset = false) :
    (masterResetQualified s).heads = s.heads := by
  unfold masterResetQualified at outside ⊢
  split
  · next is =>
    rw [is] at outside
    cases outside
  · rfl
  · rfl

/-- Settles O26: a move of the heads keeps the count, a latch raises it by at most one up to its limit, and what else sets
it is the request for it, or master reset. -/
theorem stylusCountNeverFalls : Obligations.StylusCountNeverFalls := by
  intro c s t h run before after power row frame fits
  cases (effect_of_exec run).outcome with
  | course course => exact course.stylus fits
  | stylus asks =>
    rcases asks_setStylusCount asks with ⟨l, head, n, is⟩ | ⟨l, body, check, is⟩
    · exact absurd is (row l head n)
    · exact absurd is (frame l body check)
  | reset resets =>
    cases c
    case masterResetLineChange asserted =>
      obtain rfl := Host.Outcome.next.inj run
      have kept := masterResetLineChange_heads asserted before
      rw [kept]
      exact ⟨Nat.le_refl _, fits⟩
    case masterResetQualified =>
      obtain rfl := Host.Outcome.next.inj run
      have kept := masterResetQualified_heads after
      rw [kept]
      exact ⟨Nat.le_refl _, fits⟩
    case powerOn => exact absurd rfl power
    all_goals cases resets

end Sys2Proof.Machine
end

section
/-! SUPPORT. What the moves and the blocks leave of the supervisor, the custody unit and the link units; PROOFS. The laws of
supervision (O46), custody (O51) and the link units (O59). -/

namespace Sys2Proof.Machine

/-! ### The link units -/

/-- From `u` to `v` a link unit's line, reply and pending mark stand, a DOWN unit is left alone, and its queues keep their
laws: what every block but the link unit itself leaves of it. -/
structure LinkUnit.Stays (u v : LinkUnit) : Prop where
  up : v.up = u.up
  pending : v.replyPending = u.replyPending
  waiting : v.waitingReply = u.waitingReply
  sending : v.sending = u.sending
  down : u.up = false → v = u
  notices : u.notices.Nodup → v.notices.Nodup
  relay : u.relay.length ≤ 4 → v.relay.length ≤ 4

theorem LinkUnit.Stays.refl (u : LinkUnit) : u.Stays u := ⟨rfl, rfl, rfl, rfl, fun _ => rfl, id, id⟩

theorem LinkUnit.Stays.trans {u v w : LinkUnit} (a : u.Stays v) (b : v.Stays w) : u.Stays w where
  up := b.up.trans a.up
  pending := b.pending.trans a.pending
  waiting := b.waiting.trans a.waiting
  sending := b.sending.trans a.sending
  down off := (b.down (a.up.trans off)).trans (a.down off)
  notices := b.notices ∘ a.notices
  relay := b.relay ∘ a.relay

theorem LinkUnit.post_of_down {u : LinkUnit} (down : u.up = false) (e : EventKind) : u.post e = u := by
  simp [LinkUnit.post, down]

theorem LinkUnit.post_notices_nodup {u : LinkUnit} (nodup : u.notices.Nodup) (e : EventKind) : (u.post e).notices.Nodup := by
  unfold LinkUnit.post
  split
  · dsimp only
    split
    · next fresh =>
      simp only [Bool.and_eq_true, Bool.not_eq_true', List.contains_eq_mem, decide_eq_false_iff_not] at fresh
      exact List.nodup_append.mpr ⟨nodup, by simp, by
        intro a mem b eq
        obtain rfl : b = e := by simpa using eq
        exact fun same => fresh.2 (same ▸ mem)⟩
    · exact nodup
  · exact nodup

theorem LinkUnit.Stays.post (e : EventKind) (u : LinkUnit) : u.Stays (u.post e) := by
  obtain ⟨up, pending, -, relay, waiting, sending⟩ := u.post_keeps e
  exact ⟨up, pending, waiting, sending, fun down => post_of_down down e, fun nodup => post_notices_nodup nodup e,
    fun short => relay ▸ short⟩

/-- A change of an UP unit's queues and event set that keeps the laws of the queues. -/
theorem LinkUnit.Stays.of_up {u v : LinkUnit} (up : u.up = true) (same : v.up = u.up)
    (pending : v.replyPending = u.replyPending) (waiting : v.waitingReply = u.waitingReply)
    (sending : v.sending = u.sending) (notices : u.notices.Nodup → v.notices.Nodup)
    (relay : u.relay.length ≤ 4 → v.relay.length ≤ 4) : u.Stays v :=
  ⟨same, pending, waiting, sending, fun down => absurd (up.symm.trans down) (by decide), notices, relay⟩

def LinksStay (s t : State) : Prop := ∀ k, (s.links.get k).Stays (t.links.get k)

theorem LinksStay.of_eq {s t : State} (links : t.links = s.links) : LinksStay s t := fun k => by
  rw [links]
  exact .refl _

theorem LinksStay.refl (s : State) : LinksStay s s := .of_eq rfl

theorem LinksStay.trans {s t u : State} (a : LinksStay s t) (b : LinksStay t u) : LinksStay s u :=
  fun k => (a k).trans (b k)

theorem LinksStay.modLink {l : LinkId} {f : LinkUnit → LinkUnit} {s : State}
    (stays : (s.links.get l).Stays (f (s.links.get l))) : LinksStay s (s.modLink l f) := fun k => by
  rw [State.modLink_links, PerLink.get_set]
  split
  · next is => exact is ▸ stays
  · exact .refl _

theorem LinksStay.postTo (l : LinkId) (e : EventKind) (s : State) : LinksStay s (postTo l e s) := .modLink (.post e _)

theorem LinksStay.postAll (e : EventKind) (s : State) : LinksStay s (postAll e s) := fun k => by
  simp only [Machine.postAll, State.withLinks_links, PerLink.get_mapL]
  exact .post e _

/-! ### The moves -/

/-- What a move leaves of the blocks that are no part of the band: a quiet supervisor stays quiet, custody stands and the
links have at most events posted. -/
structure Sides (s t : State) : Prop where
  quiet : s.sup.Quiet → t.sup.Quiet
  custody : t.custody = s.custody
  links : LinksStay s t
  posted : LinksPosted s t

theorem Sides.of_eq {s t : State} (sup : t.sup = s.sup) (custody : t.custody = s.custody) (links : t.links = s.links) :
    Sides s t :=
  ⟨fun quiet => sup ▸ quiet, custody, .of_eq links, .of_eq links⟩

theorem Sides.trans {s t u : State} (a : Sides s t) (b : Sides t u) : Sides s u :=
  ⟨b.quiet ∘ a.quiet, b.custody.trans a.custody, a.links.trans b.links, a.posted.trans b.posted⟩

/-- The state before may differ in the parts of the band. -/
theorem Sides.before {s s' t : State} (b : Sides s' t) (sup : s'.sup = s.sup) (custody : s'.custody = s.custody)
    (links : s'.links = s.links) : Sides s t :=
  (Sides.of_eq sup custody links).trans b

/-- The state after may differ in the parts of the band. -/
theorem Sides.after {s t t' : State} (b : Sides s t') (sup : t.sup = t'.sup) (custody : t.custody = t'.custody)
    (links : t.links = t'.links) : Sides s t :=
  b.trans (.of_eq sup custody links)

theorem Sides.postAll (e : EventKind) (s : State) : Sides s (postAll e s) := ⟨id, rfl, .postAll e s, postAll_posted e s⟩

theorem Sides.passTime (dt : Nat) (s : State) : Sides s (passTime dt s) := by
  refine ⟨fun quiet idle => ?_, rfl, .of_eq rfl, .of_eq rfl⟩
  have idle : s.sup.active = false := by
    cases active : s.sup.active with
    | false => rfl
    | true => simp [Machine.passTime, active] at idle
  simpa [Machine.passTime, idle] using quiet idle

theorem Sides.toEnding (o : BandOutcome) (c : Option EndCause) (h : Option HeadId) (s : State) :
    Sides s (toEnding o c h s) := .of_eq (by simp) (by simp) (by simp)

theorem Sides.abortEntry (c : EndCause) (h : Option HeadId) (s : State) : Sides s (abortEntry c h s) := by
  unfold Machine.abortEntry
  split <;> exact .of_eq (by simp) (by simp) (by simp)

theorem Sides.enterEnded (e : EventKind) (s : State) : Sides s (enterEnded e s) := by
  unfold Machine.enterEnded
  exact (Sides.postAll e _).before (by simp) (by simp) (by simp)

theorem Sides.ringEnded (d : Descriptor) (s : State) : Sides s (ringEnded d s) := by
  unfold Machine.ringEnded
  dsimp only
  split
  · exact .of_eq (by simp) (by simp) (by simp)
  · exact ((Sides.postAll .ringFreed (dropRing (silenceSet s))).before (by simp) (by simp) (by simp)).after
      (by simp) (by simp) (by simp)

theorem Sides.latchCells (d : Descriptor) (b : Nat) (s : State) : Sides s (latchCells d b s) := by
  unfold Machine.latchCells
  dsimp only
  have tally : Sides s (modRecord (fun r => { r with counts := latchCounts d s.cells r.counts }) s) :=
    .of_eq (by simp) (by simp) (by simp)
  refine tally.trans ?_
  split
  · exact (Sides.postAll .clip _).after rfl rfl rfl
  · exact .of_eq rfl rfl rfl

theorem Sides.storeParams (h : HeadId) (p : HeadParams) (s : State) : Sides s (storeParams h p s) := by
  unfold Machine.storeParams applyFitting
  dsimp only
  split
  · exact .of_eq rfl rfl rfl
  · split
    · split
      · exact (Sides.postAll .headFault _).before rfl rfl rfl
      · exact .of_eq rfl rfl rfl
    all_goals exact .of_eq rfl rfl rfl

theorem Sides.chained (m : Fin 64) (d : Descriptor) (s : State) : Sides s (chained m d s) := by
  unfold Machine.chained awaitIndex
  exact .of_eq (by simp) (by simp) (by simp)

theorem Move.sides {s t : State} (move : Move s t) : Sides s t := by
  cases move
  case post e => exact .postAll e s
  case time dt => exact .passTime dt s
  case sup f quiet => exact ⟨quiet, rfl, .of_eq rfl, .of_eq rfl⟩
  case aborted c h f runs => exact (Sides.abortEntry c h (s.modGrid f)).before rfl rfl rfl
  case cutAborted c runs => exact (Sides.abortEntry c none (emptyStaging s)).before rfl rfl rfl
  case stopped c runs whole => exact .toEnding _ _ _ s
  case ended e ending => exact .enterEnded e s
  case latched d acc carries cutting below =>
    exact (Sides.latchCells d s.grid.boundaries (counted acc s)).before rfl rfl rfl
  case ringDone d acc carries cutting last more => exact (Sides.ringEnded d (counted acc s)).before rfl rfl rfl
  case bandDone d acc carries cutting last done =>
    exact ((Sides.ringEnded d (counted acc s)).trans (.toEnding _ _ _ _)).before rfl rfl rfl
  case paramsWritten h p fits => exact .storeParams h p s
  case tally f run => exact .of_eq (by simp) (by simp) (by simp)
  case chained m d ending desc fresh => exact .chained m d s
  case cuttingBegun d runs band ready silent fresh => exact .of_eq (by simp) (by simp) (by simp)
  case disarmed armed => exact .of_eq (by simp) (by simp) (by simp)
  case started armed => exact .of_eq rfl rfl rfl
  all_goals exact .of_eq rfl rfl rfl

theorem Moves.sides {s t : State} (moves : Moves s t) : Sides s t := by
  induction moves with
  | refl => exact ⟨id, Eq.refl _, .refl s, .rfl⟩
  | tail _ last ih => exact ih.trans last.sides

/-! ### The blocks' answers -/

/-- What a block that tells supervision nothing leaves: the supervisor stands, no head of the set is lowered or lifted,
and custody, if it moves, moves to a link that is UP. -/
structure Apart (l : LinkId) (s t : State) : Prop where
  sup : t.sup = s.sup
  lowered : t.anyLowered = s.anyLowered
  links : LinksStay s t
  custody : t.custody = s.custody ∨ t.custody = none ∨ ∃ k, t.custody = some k ∧ (s.links.get k).up = true

theorem anyLowered_congr {s t : State} (inUse : t.headInUse = s.headInUse)
    (same : ∀ h, s.headInUse h = true → (t.heads.get h).state = (s.heads.get h).state) : t.anyLowered = s.anyLowered := by
  unfold State.anyLowered
  rw [inUse]
  refine congrArg _ (funext fun h => ?_)
  cases used : s.headInUse h with
  | false => rfl
  | true => rw [same h used]

theorem anyLowered_of_eq {s t : State} (heads : t.heads = s.heads) (inUse : t.headInUse = s.headInUse) :
    t.anyLowered = s.anyLowered :=
  anyLowered_congr inUse fun _ _ => by rw [heads]

theorem Apart.of_band {l : LinkId} {s t : State} (sup : t.sup = s.sup) (heads : t.heads = s.heads)
    (inUse : t.headInUse = s.headInUse) (custody : t.custody = s.custody) (links : t.links = s.links) : Apart l s t :=
  ⟨sup, anyLowered_of_eq heads inUse, .of_eq links, .inl custody⟩

theorem Apart.of_links {l : LinkId} {s t : State} (same : SameBlocks s t) (sup : t.sup = s.sup) (links : LinksStay s t)
    (custody : t.custody = s.custody ∨ t.custody = none ∨ ∃ k, t.custody = some k ∧ (s.links.get k).up = true) :
    Apart l s t :=
  ⟨sup, anyLowered_of_eq same.heads (SameBand.of_eq same.engine same.jobs).headInUse, links, custody⟩

theorem storeParams_sup (h : HeadId) (p : HeadParams) (s : State) : (storeParams h p s).sup = s.sup := by
  unfold storeParams applyFitting
  dsimp only
  repeat' split
  all_goals rfl

theorem headInUse_of_eq_band {s t : State} (band : t.band = s.band) : t.headInUse = s.headInUse := by
  funext h
  rw [State.headInUse, State.headInUse, band]

theorem Apart.paramsWritten {l : LinkId} (h : HeadId) (p : HeadParams) (s : State) : Apart l s (storeParams h p s) := by
  refine ⟨storeParams_sup h p s, anyLowered_congr (SameBand.paramsWritten h p s).headInUse fun k used => ?_,
    (Sides.storeParams h p s).links, .inl (Sides.storeParams h p s).custody⟩
  rw [storeParams_head, if_neg]
  rintro ⟨rfl, free⟩
  rw [used] at free
  cases free

theorem Apart.acknowledged {l : LinkId} {s : State} (ended : s.engine.state = .ended) : Apart l s s.acknowledged := by
  refine .of_band rfl rfl (funext fun h => ?_) rfl rfl
  rw [headInUse_of_rest (s := s.acknowledged) (by rfl), headInUse_of_rest (s := s) (by rw [ended]; rfl)]

/-- What a block leaves: moves that supervision follows in the same step, or a change apart from it. -/
theorem BlockMove.sides {l : LinkId} {k : ReqKind} {s t : State} (move : BlockMove l k s t)
    (permitted : k.permitted l = true) (up : (s.links.get l).up = true) :
    (∃ u, Moves s u ∧ t = supervise u) ∨ Apart l s t := by
  have queues {f : LinkUnit → LinkUnit} (stays : (s.links.get l).Stays (f (s.links.get l))) : Apart l s (s.modLink l f) :=
    .of_links rfl rfl (.modLink stays) (.inl rfl)
  cases move
  case armed i d restart idle desc fresh => exact .inl ⟨_, .single (.armed i d restart idle desc fresh), rfl⟩
  case disarmed armed => exact .inl ⟨_, .single (.disarmed armed), rfl⟩
  case started armed =>
    exact .inl ⟨_, (Move.moves (.started armed)).trans (enterPreparing_moves false (awaitIndex s)), rfl⟩
  case paused cutting pos =>
    exact .inl ⟨_, enterHeld_moves _ (by rw [cutting]; rfl) (by simp [State.ringBeingCut, pos]), rfl⟩
  case resumed held => exact .inl ⟨_, (Move.moves (.resumed held)).trans (enterPreparing_moves false s), rfl⟩
  case stopped runs => exact .inl ⟨_, stopAtSeamWith_moves _ runs, rfl⟩
  case aborted => exact .inl ⟨_, abort_moves _ _ s, rfl⟩
  case limitSet v =>
    have limit : Move s (s.modSup fun u => { u with limit := clampLimit v }) := .sup fun quiet => quiet
    exact .inl ⟨_, limit.moves.trans ((checkWarn_moves _).trans (checkStall_moves _)), rfl⟩
  case faultCleared h faulted amp => exact .inl ⟨_, headMoved_modHead_moves (.clear _ _ faulted), rfl⟩
  all_goals right
  case same => exact .of_band rfl rfl rfl rfl rfl
  case acknowledged ended => exact .acknowledged ended
  case claimed free => exact .of_links rfl rfl (.postTo l _ (s.withCustody (some l))) (.inr (.inr ⟨l, rfl, up⟩))
  case released => exact .of_links rfl rfl (.of_eq rfl) (.inr (.inl rfl))
  case passed t there =>
    exact .of_links rfl rfl ((LinksStay.postTo t _ (s.withCustody (some t))).trans (.postTo l _ _)) (.inr (.inr ⟨t, rfl, there⟩))
  case seized free =>
    obtain rfl : l = .machine := by simpa [ReqKind.permitted] using permitted
    exact .of_links rfl rfl (.postTo .machine _ (s.withCustody (some .machine))) (.inr (.inr ⟨.machine, rfl, up⟩))
  case seizedFrom k held =>
    obtain rfl : l = .machine := by simpa [ReqKind.permitted] using permitted
    exact .of_links rfl rfl ((LinksStay.postTo k _ (s.withCustody (some .machine))).trans (.postTo .machine _ _))
      (.inr (.inr ⟨.machine, rfl, up⟩))
  case descriptorWritten i d listed sound free =>
    exact .of_band rfl rfl (headInUse_of_eq_band (band_modJob free _)) rfl rfl
  case descriptorCleared i free => exact .of_band rfl rfl (headInUse_of_eq_band (band_modJob free _)) rfl rfl
  case paramsWritten h p fits => exact .paramsWritten h p s
  case stylusSet h n free =>
    refine ⟨rfl, anyLowered_congr rfl fun k used => ?_, .of_eq rfl, .inl rfl⟩
    rw [State.modHead_heads, PerHead.get_set]
    split
    · next same => rw [same]
    · rfl
  case eventsRead => exact queues (.of_up up rfl rfl rfl rfl id id)
  case maskSet m => exact queues (.of_up up rfl rfl rfl rfl (List.Nodup.filter _) id)
  case noteAppended t n there short =>
    refine .of_links rfl rfl ((LinksStay.modLink ?_).trans (.postTo t _ _)) (.inl rfl)
    exact .of_up there rfl rfl rfl rfl id fun _ => by simp only [List.length_append, List.length_singleton]; omega
  case noteFetched n rest queue =>
    have fetched : LinksStay s (s.modLink l fun u => { u with relay := rest }) :=
      .modLink (.of_up up rfl rfl rfl rfl id fun short => by
        rw [queue, List.length_cons] at short
        exact (Nat.le_succ _).trans short)
    unfold State.notesLeft
    dsimp only
    split
    · exact .of_links rfl rfl fetched (.inl rfl)
    · exact .of_links rfl rfl (fetched.trans (.postTo l _ _)) (.inl rfl)
  all_goals exact .of_band rfl rfl rfl rfl rfl

/-! ### What a command comes to -/

/-- Supervision stands as it did over the same lowered heads, and custody and the links are left alone. -/
structure Kept (s t : State) : Prop where
  active : t.sup.active = s.sup.active
  quiet : s.sup.Quiet → t.sup.Quiet
  lowered : t.anyLowered = s.anyLowered
  custody : t.custody = s.custody
  links : t.links = s.links

theorem passTime_active (dt : Nat) (s : State) : (passTime dt s).sup.active = s.sup.active := by
  cases active : s.sup.active <;> simp [passTime, active]

theorem Kept.passTimeTo (a : Nat) (f : Grid → Grid) (s : State) : Kept s ((passTimeTo a s).modGrid f) where
  active := passTime_active _ s
  quiet := (Sides.passTime _ s).quiet
  lowered := rfl
  custody := rfl
  links := rfl

theorem Kept.filter {p : Pins} {f : Supervisor → Supervisor} {s : State} (active : (f s.sup).active = s.sup.active)
    (stall : (f s.sup).stall = s.sup.stall) (warn : (f s.sup).warnArmed = s.sup.warnArmed) :
    Kept s ((s.withPins p).modSup f) where
  active := active
  quiet quiet idle := by
    change (f s.sup).active = false at idle
    obtain ⟨zero, armed⟩ := quiet (active ▸ idle)
    exact ⟨stall.trans zero, warn.trans armed⟩
  lowered := rfl
  custody := rfl
  links := rfl

/-- What a command comes to from `s`, as the supervisor, the custody unit and the link units see it. -/
inductive Passage (s : State) : State → Prop
  | kept {t : State} : Kept s t → Passage s t
  | run (p : Pins) {u : State} : Moves (s.withPins p) u → Passage s (settle u)
  | served {l : LinkId} {K : ReqKind → Prop} {t : State} : Served l K s t → Passage s t
  | reset (a b : LineFilter) (x : State) {links : PerLink LinkUnit} :
    (∀ l, ∃ on, links.get l = { LinkUnit.reset with up := on }) → Passage s ((blocksReset a b x).withLinks links)
  | lost (l : LinkId) (p : Pins) {u : State} :
    Moves (releaseOnLoss l ((s.withPins p).modLink l fun _ => LinkUnit.reset)) u → Passage s (settle u)
  | linkUp (l : LinkId) (p : Pins) : Passage s ((s.withPins p).modLink l fun u => { u with up := true })
  | frameSent (l : LinkId) : Passage s (s.modLink l LinkUnit.frameSent)

theorem Passage.level (p : Pins) (s : State) : Passage s (s.withPins p) := .kept ⟨rfl, id, rfl, rfl, rfl⟩

theorem Passage.same (s : State) : Passage s s := .level s.pins s

theorem landedSenseChange_passage (h : HeadId) (on : Bool) (s : State) : Passage s (landedSenseChange h on s) := by
  unfold landedSenseChange
  dsimp only
  split
  · exact .level _ s
  · next changes =>
    simp only [Bool.or_eq_true, beq_iff_eq, not_or] at changes
    refine .run { s.pins with landed := s.pins.landed.set h on } ?_
    cases on with
    | true => exact senseOn_moves h (by simpa using changes.2)
    | false => exact senseOff_moves h (by simpa using changes.2)

theorem ampFaultChange_passage (h : HeadId) (on : Bool) (s : State) : Passage s (ampFaultChange h on s) := by
  unfold ampFaultChange
  dsimp only
  split
  · exact .level _ s
  · refine .run { s.pins with ampFault := s.pins.ampFault.set h on } ?_
    cases on with
    | true => exact ampOn_moves h _
    | false => exact modHead_moves (f := fun x => { x with ampFault := false }) (.amp _ false)

theorem cutAbortReset_moves (s : State) : Moves s (cutAbortReset s) := by
  unfold cutAbortReset
  rw [cutAbortHeads_emptyStaging]
  have taken : Move s (s.modSup fun u => { u with cutAbort := .taken }) := .sup fun quiet => quiet
  exact taken.moves.trans (((cutAbortHeads_moves _).trans (cutAbortEngine_moves _)).tail (.post _ _))

theorem cutAbortQualified_passage (s : State) : Passage s (cutAbortQualified s) := by
  unfold cutAbortQualified
  split
  · exact .run s.pins ((passTimeTo_moves _ s).trans (cutAbortReset_moves _))
  · exact .same s
  · exact .same s

theorem cutAbortLineChange_passage (asserted : Bool) (s : State) : Passage s (cutAbortLineChange asserted s) := by
  unfold cutAbortLineChange
  dsimp only
  split
  · exact .level _ s
  · exact .kept (.filter rfl rfl rfl)

theorem indexTimingExpiry_passage (s : State) : Passage s (indexTimingExpiry s) := by
  unfold indexTimingExpiry
  split
  · exact .kept (.passTimeTo _ _ s)
  · exact .same s

theorem enterMasterReset_passage (s x : State) : Passage s (enterMasterReset x) :=
  .reset .released .taken x (links := PerLink.pure LinkUnit.reset) fun l => ⟨false, by cases l <;> rfl⟩

theorem endMasterReset_passage (s x : State) : Passage s (endMasterReset x) := by
  refine .reset _ .released x fun l => ⟨x.pins.signal.get l, ?_⟩
  rw [PerLink.get_mapL]
  cases l <;> rfl

theorem masterResetLineChange_passage (asserted : Bool) (s : State) : Passage s (masterResetLineChange asserted s) := by
  unfold masterResetLineChange
  dsimp only
  split
  · split
    · exact .level _ s
    · exact endMasterReset_passage s _
  · exact .kept (.filter rfl rfl rfl)

theorem masterResetQualified_passage (s : State) : Passage s (masterResetQualified s) := by
  unfold masterResetQualified
  split
  · exact enterMasterReset_passage s _
  · exact .same s
  · exact .same s

theorem powerOn_passage (s : State) : Passage s (powerOn s) := by
  unfold powerOn
  split
  · exact enterMasterReset_passage s _
  · exact endMasterReset_passage s _

theorem linkSignalLoss_passage (l : LinkId) (s : State) : Passage s (linkSignalLoss l s) := by
  unfold linkSignalLoss setSignal
  dsimp only
  split
  · refine .lost l { s.pins with signal := s.pins.signal.set l false } ?_
    split
    · exact machineLinkLost_moves _
    · exact .refl
  · exact .level _ s

theorem linkUp_passage (l : LinkId) (s : State) : Passage s (linkUp l s) := by
  unfold linkUp setSignal
  dsimp only
  split
  · exact .level _ s
  · exact .linkUp l _

theorem Effect.passage {c : Instr} {s t : State} (effect : Effect s c t) : Passage s t := by
  cases effect with
  | untaken => exact .same s
  | request served => exact .served served
  | line op => exact .run s.pins (op.moves s)
  | indexTimingExpiry => exact indexTimingExpiry_passage s
  | landedSenseChange h on => exact landedSenseChange_passage h on s
  | ampFaultChange h on => exact ampFaultChange_passage h on s
  | cutAbortLineChange asserted => exact cutAbortLineChange_passage asserted s
  | cutAbortQualified => exact cutAbortQualified_passage s
  | masterResetLineChange asserted => exact masterResetLineChange_passage asserted s
  | masterResetQualified => exact masterResetQualified_passage s
  | powerOn => exact powerOn_passage s
  | linkSignalLoss l => exact linkSignalLoss_passage l s
  | linkUp l => exact linkUp_passage l s
  | frameSent l => exact .frameSent l

/-- A law that does not look at the queue and that every passage keeps is kept by every step. -/
theorem step_keeps_sides {I : State → Prop} (queue : ∀ {s} rest, I s → I (s.withPending rest))
    (passage : ∀ {s t}, Passage s t → I s → I t) {s t : State} (run : step s = .next t) (holds : I s) : I t := by
  refine step_keeps queue (fun {s} holds => ?_) (fun effect => passage effect.passage) run holds
  have time : Kept s (passTime 1 s) := ⟨passTime_active 1 s, (Sides.passTime 1 s).quiet, rfl, rfl, rfl⟩
  exact queue _ (passage (.kept time) holds)

/-! ### Supervision (O46) -/

theorem Supervised.of_kept {s t : State} (kept : Kept s t) (supervised : Supervised s) : Supervised t :=
  ⟨kept.active.trans (supervised.1.trans kept.lowered.symm), kept.quiet supervised.2⟩

theorem supervise_supervised {s : State} (quiet : s.sup.Quiet) : Supervised (supervise s) := by
  unfold Supervised supervise
  have lowered (f : Supervisor → Supervisor) : (s.modSup f).anyLowered = s.anyLowered := rfl
  rw [lowered, State.modSup_sup]
  split
  · next same => exact ⟨same, quiet⟩
  · exact ⟨rfl, fun _ => ⟨rfl, rfl⟩⟩

theorem Supervised.of_links {s t : State} (same : SameBlocks s t) (sup : t.sup = s.sup) (supervised : Supervised s) :
    Supervised t := by
  have apart : Apart .machine s { t with links := s.links, custody := s.custody } :=
    .of_links same sup (.of_eq rfl) (.inl rfl)
  exact ⟨sup.symm ▸ supervised.1.trans apart.lowered.symm, sup.symm ▸ supervised.2⟩

theorem settle_supervised {s : State} (quiet : s.sup.Quiet) : Supervised (settle s) :=
  (supervise_supervised quiet).of_links rfl rfl

theorem Served.supervised {l : LinkId} {K : ReqKind → Prop} {s t : State} (served : Served l K s t)
    (supervised : Supervised s) : Supervised t := by
  cases served with
  | ignored => exact supervised
  | linkError => exact supervised.of_links rfl rfl
  | refused => exact supervised.of_links rfl rfl
  | @answered k f kind body asks block permitted ready =>
    have marked : Supervised (markTaken l s) := supervised.of_links rfl rfl
    suffices after : Supervised (f (markTaken l s)).1 from after.of_links rfl rfl
    rcases (block.move (markTaken l s)).sides permitted (by rw [markTaken, State.modLink_links, PerLink.get_set_self]; exact ready.2.1) with
      ⟨u, moves, is⟩ | apart
    · rw [is]
      exact supervise_supervised (moves.sides.quiet marked.2)
    · exact ⟨apart.sup ▸ marked.1.trans apart.lowered.symm, apart.sup ▸ marked.2⟩

theorem Passage.supervised {s t : State} (passage : Passage s t) (supervised : Supervised s) : Supervised t := by
  cases passage with
  | kept kept => exact supervised.of_kept kept
  | run p moves => exact settle_supervised (moves.sides.quiet supervised.2)
  | served served => exact served.supervised supervised
  | reset => exact ⟨rfl, fun _ => ⟨rfl, rfl⟩⟩
  | lost l p moves =>
    refine settle_supervised (moves.sides.quiet ?_)
    unfold releaseOnLoss
    split <;> exact supervised.2
  | linkUp => exact supervised.of_links rfl rfl
  | frameSent => exact supervised.of_links rfl rfl

/-- Settles O46: every move keeps an INACTIVE supervisor at 0 and ARMED, supervision follows the heads at the end of each
step that can move one, and the other steps leave the heads of the set as they are. -/
theorem supervisionFollowsTheHeads : Obligations.SupervisionFollowsTheHeads := fun _ _ supervised run =>
  step_keeps_sides (fun _ holds => holds) Passage.supervised run supervised

/-! ### Custody (O51) -/

def SameUp (s t : State) : Prop := ∀ l, (t.links.get l).up = (s.links.get l).up

theorem CustodyUp.of_sameUp {s t : State} (up : CustodyUp s) (custody : t.custody = s.custody) (same : SameUp s t) :
    CustodyUp t := fun l held => (same l).trans (up l (custody ▸ held))

theorem LinksStay.sameUp {s t : State} (stay : LinksStay s t) : SameUp s t := fun l => (stay l).up

theorem transmitAll_sameUp (s : State) : SameUp s (transmitAll s) := fun l => by
  obtain ⟨up, -⟩ := (s.links.get l).transmit_keeps
  rw [transmitAll, State.withLinks_links, PerLink.get_mapL]
  exact up

theorem modLink_sameUp {l : LinkId} {f : LinkUnit → LinkUnit} {s : State} (up : (f (s.links.get l)).up = (s.links.get l).up) :
    SameUp s (s.modLink l f) := fun k => by
  rw [State.modLink_links, PerLink.get_set]
  split
  · next is => exact is ▸ up
  · rfl

theorem CustodyUp.settle {s : State} (up : CustodyUp s) : CustodyUp (settle s) :=
  (up.of_sameUp (t := supervise s) rfl fun _ => rfl).of_sameUp rfl (transmitAll_sameUp _)

theorem CustodyUp.apart {l : LinkId} {s t : State} (up : CustodyUp s) (apart : Apart l s t) : CustodyUp t := by
  rcases apart.custody with same | free | ⟨k, moved, there⟩
  · exact up.of_sameUp same apart.links.sameUp
  · exact fun l held => by rw [free] at held; cases held
  · intro l held
    obtain rfl : k = l := Option.some.inj (moved.symm.trans held)
    exact (apart.links.sameUp k).trans there

theorem markTaken_sameUp (l : LinkId) (s : State) : SameUp s (markTaken l s) := fun k => markTaken_up l k s

theorem CustodyUp.replied {s : State} (up : CustodyUp s) (l : LinkId) (kind : Byte) (body : List Byte) :
    CustodyUp (transmitAll (reply l kind body s)) :=
  (up.of_sameUp (t := reply l kind body s) rfl (modLink_sameUp rfl)).of_sameUp rfl (transmitAll_sameUp _)

theorem Served.custodyUp {l : LinkId} {K : ReqKind → Prop} {s t : State} (served : Served l K s t) (up : CustodyUp s) :
    CustodyUp t := by
  have marked : CustodyUp (markTaken l s) := up.of_sameUp rfl (markTaken_sameUp l s)
  cases served with
  | ignored => exact up
  | linkError => exact (up.of_sameUp (t := postTo l .linkError s) rfl (LinksStay.postTo _ _ s).sameUp).of_sameUp rfl (transmitAll_sameUp _)
  | refused => exact marked.replied l _ _
  | @answered k f kind body asks block permitted ready =>
    suffices after : CustodyUp (f (markTaken l s)).1 from after.replied l _ _
    rcases (block.move (markTaken l s)).sides permitted ((markTaken_sameUp l s l).trans ready.2.1) with ⟨u, moves, is⟩ | apart
    · rw [is]
      exact marked.of_sameUp moves.sides.custody moves.sides.links.sameUp
    · exact marked.apart apart

theorem CustodyUp.lost {s : State} (up : CustodyUp s) (l : LinkId) (p : Pins) :
    CustodyUp (releaseOnLoss l ((s.withPins p).modLink l fun _ => LinkUnit.reset)) := by
  unfold releaseOnLoss
  intro k held
  split at held
  · cases held
  · next other =>
    have elsewhere : k ≠ l := fun is => other (is ▸ held)
    rw [if_neg other, State.modLink_links, PerLink.get_set_ne _ _ elsewhere]
    exact up k held

theorem Passage.custodyUp {s t : State} (passage : Passage s t) (up : CustodyUp s) : CustodyUp t := by
  cases passage with
  | kept kept => exact up.of_sameUp kept.custody (LinksStay.of_eq kept.links).sameUp
  | run p moves => exact (up.of_sameUp moves.sides.custody moves.sides.links.sameUp).settle
  | served served => exact served.custodyUp up
  | reset => exact nofun
  | lost l p moves => exact ((up.lost l p).of_sameUp moves.sides.custody moves.sides.links.sameUp).settle
  | linkUp l p =>
    intro k held
    rw [State.modLink_links, PerLink.get_set]
    split
    · rfl
    · exact up k held
  | frameSent l =>
    refine up.of_sameUp rfl (modLink_sameUp ?_)
    unfold LinkUnit.frameSent
    split
    · exact (LinkUnit.transmit_keeps _).1
    · exact (LinkUnit.transmit_keeps _).1
    · rfl

/-- Settles O51: custody moves only to a link that is UP, and a link that goes DOWN gives it up. -/
theorem custodyHolderIsUp : Obligations.CustodyHolderIsUp := fun _ _ up run =>
  step_keeps_sides (fun _ holds => holds) Passage.custodyUp run up

/-! ### The link units (O59) -/

/-- The law of a link unit without what the transmitter owes it: an idle transmitter may have work until the end of the
step. -/
structure LinkUnit.Formed (u : LinkUnit) : Prop where
  down : u.up = false → u = LinkUnit.reset
  reply : u.replyPending = true ↔ u.waitingReply.isSome = true ∨ ∃ f, u.sending = some (.reply f)
  one : ∀ f, u.sending = some (.reply f) → u.waitingReply = none
  notices : u.notices.Nodup
  relay : u.relay.length ≤ 4

/-- The law of a link unit at the end of a step (R175, R177, R180, R181). -/
structure LinkUnit.Lawful (u : LinkUnit) : Prop extends u.Formed where
  idle : u.sending = none → u.waitingReply = none ∧ u.notices = []

theorem linksOk_iff {s : State} : LinksOk s ↔ ∀ l, (s.links.get l).Lawful := by
  refine forall_congr' fun l => ⟨fun ⟨down, idle, reply, one, notices, relay⟩ => ⟨⟨down, reply, one, notices, relay⟩, idle⟩,
    fun law => ⟨law.down, law.idle, law.reply, law.one, law.notices, law.relay⟩⟩

theorem LinkUnit.reset_lawful (on : Bool) : ({ LinkUnit.reset with up := on } : LinkUnit).Lawful where
  down off := by
    change on = false at off
    rw [off]
    rfl
  reply := by simp [LinkUnit.reset]
  one := nofun
  notices := .nil
  relay := Nat.zero_le 4
  idle _ := ⟨rfl, rfl⟩

theorem LinkUnit.Formed.stays {u v : LinkUnit} (formed : u.Formed) (stays : u.Stays v) : v.Formed where
  down off := by
    have off : u.up = false := stays.up.symm.trans off
    rw [stays.down off]
    exact formed.down off
  reply := by rw [stays.pending, stays.waiting, stays.sending]; exact formed.reply
  one := by rw [stays.waiting, stays.sending]; exact formed.one
  notices := stays.notices formed.notices
  relay := stays.relay formed.relay

/-- The transmitter takes up the work of a formed unit, which is lawful then. -/
theorem LinkUnit.Formed.transmit {u : LinkUnit} (formed : u.Formed) : u.transmit.Lawful := by
  obtain ⟨down, reply, one, notices, relay⟩ := formed
  unfold LinkUnit.transmit
  split
  · next free =>
    simp only [Bool.and_eq_true, Option.isNone_iff_eq_none] at free
    obtain ⟨up, idle⟩ := free
    have not_down {x : Prop} (off : u.up = false) : x := absurd (up.symm.trans off) (by decide)
    split
    · next waiting =>
      exact ⟨⟨not_down, by simpa [waiting, idle] using reply, fun _ _ => rfl, notices, relay⟩, nofun⟩
    · next e rest waiting queue =>
      rw [queue] at notices
      exact ⟨⟨not_down, by simpa [waiting, idle] using reply, nofun, notices.tail, relay⟩, nofun⟩
    · next waiting queue => exact ⟨⟨down, reply, one, notices, relay⟩, fun _ => ⟨waiting, queue⟩⟩
  · next busy =>
    refine ⟨⟨down, reply, one, notices, relay⟩, fun idle => ?_⟩
    simp only [Bool.and_eq_true, Option.isNone_iff_eq_none, not_and] at busy
    have off : u.up = false := Bool.eq_false_iff.mpr fun up => busy up idle
    rw [down off]
    exact ⟨rfl, rfl⟩

def LinksFormed (s : State) : Prop := ∀ l, (s.links.get l).Formed

theorem LinksFormed.stays {s t : State} (formed : LinksFormed s) (stay : LinksStay s t) : LinksFormed t :=
  fun l => (formed l).stays (stay l)

theorem LinksFormed.transmitAll {s : State} (formed : LinksFormed s) : LinksOk (transmitAll s) := linksOk_iff.mpr fun l => by
  rw [Machine.transmitAll, State.withLinks_links, PerLink.get_mapL]
  exact (formed l).transmit

theorem LinksFormed.settle {s : State} (formed : LinksFormed s) : LinksOk (settle s) :=
  LinksFormed.transmitAll (s := supervise s) formed

theorem LinksOk.formed {s : State} (ok : LinksOk s) : LinksFormed s := fun l => (linksOk_iff.mp ok l).toFormed

theorem LinksFormed.modLink {l : LinkId} {f : LinkUnit → LinkUnit} {s : State} (others : ∀ k, k ≠ l → (s.links.get k).Formed)
    (unit : (f (s.links.get l)).Formed) : LinksFormed (s.modLink l f) := fun k => by
  rw [State.modLink_links, PerLink.get_set]
  split
  · exact unit
  · next other => exact others k other

/-- While a request is answered its link unit has the pending mark and no reply; the reply formed restores the law. -/
theorem LinksOk.answered {l : LinkId} {s u : State} (ok : LinksOk s) (ready : Ready l s) (stay : LinksStay (markTaken l s) u)
    (kind : Byte) (body : List Byte) : LinksOk (Machine.transmitAll (reply l kind body u)) := by
  have marked (k : LinkId) (other : k ≠ l) : (markTaken l s).links.get k = s.links.get k := by
    rw [markTaken, State.modLink_links, PerLink.get_set_ne _ _ other]
  have mark : (markTaken l s).links.get l = { s.links.get l with replyPending := true } := by
    rw [markTaken, State.modLink_links, PerLink.get_set_self]
  have law := ok.formed l
  have quiet : ¬((s.links.get l).waitingReply.isSome = true ∨ ∃ f, (s.links.get l).sending = some (.reply f)) :=
    fun some => by have := law.reply.mpr some; rw [ready.2.2] at this; cases this
  have up : (u.links.get l).up = true := by rw [(stay l).up, mark]; exact ready.2.1
  have unsent (f : ReplyFrame) : (u.links.get l).sending ≠ some (.reply f) := by
    rw [(stay l).sending, mark]
    exact fun sent => quiet (.inr ⟨f, sent⟩)
  refine (LinksFormed.modLink (fun k other => ?_) ?_).transmitAll
  · exact (marked k other ▸ ok.formed k).stays (stay k)
  · refine ⟨fun off => absurd (up.symm.trans off) (by decide), ?_, fun f sent => absurd sent (unsent f), ?_, ?_⟩
    · have pending : (u.links.get l).replyPending = true := by rw [(stay l).pending, mark]
      simp [pending]
    · exact (stay l).notices (by rw [mark]; exact law.notices)
    · exact (stay l).relay (by rw [mark]; exact law.relay)

theorem Served.linksOk {l : LinkId} {K : ReqKind → Prop} {s t : State} (served : Served l K s t) (ok : LinksOk s) :
    LinksOk t := by
  cases served with
  | ignored => exact ok
  | linkError => exact (ok.formed.stays (.postTo l .linkError s)).transmitAll
  | refused kind body ready => exact ok.answered ready (.refl _) kind body
  | @answered k f kind body asks block permitted ready =>
    refine ok.answered ready ?_ kind body
    rcases (block.move (markTaken l s)).sides permitted ((markTaken_sameUp l s l).trans ready.2.1) with ⟨u, moves, is⟩ | apart
    · rw [is]
      exact moves.sides.links
    · exact apart.links

theorem LinkUnit.Lawful.frameSent {u : LinkUnit} (law : u.Lawful) : u.frameSent.Lawful := by
  have up {f : TxFrame} (sending : u.sending = some f) : u.up = true := by
    refine Bool.not_eq_false _ ▸ fun off => ?_
    rw [law.down off] at sending
    cases sending
  unfold LinkUnit.frameSent
  split
  · next f sending =>
    have on := up sending
    refine Formed.transmit ⟨fun off => absurd (on.symm.trans off) (by decide), ?_, nofun, law.notices, law.relay⟩
    simp [law.one f sending]
  · next e sending =>
    have on := up sending
    refine Formed.transmit ⟨fun off => absurd (on.symm.trans off) (by decide), ?_, nofun, law.notices, law.relay⟩
    simpa [sending] using law.reply
  · exact law

theorem Passage.linksOk {s t : State} (passage : Passage s t) (ok : LinksOk s) : LinksOk t := by
  cases passage with
  | kept kept => exact fun l => kept.links ▸ ok l
  | run p moves => exact (LinksFormed.stays (s := s.withPins p) ok.formed moves.sides.links).settle
  | served served => exact served.linksOk ok
  | reset a b x units =>
    refine linksOk_iff.mpr fun l => ?_
    obtain ⟨on, is⟩ := units l
    rw [State.withLinks_links, is]
    exact LinkUnit.reset_lawful on
  | lost l p moves =>
    have lost : LinksFormed ((s.withPins p).modLink l fun _ => LinkUnit.reset) :=
      .modLink (fun k _ => ok.formed k) (LinkUnit.reset_lawful false).toFormed
    refine (LinksFormed.stays (fun k => ?_) moves.sides.links).settle
    unfold releaseOnLoss
    split <;> exact lost k
  | linkUp l p =>
    refine linksOk_iff.mpr fun k => ?_
    rw [State.modLink_links, PerLink.get_set]
    split
    · cases up : (s.links.get l).up with
      | true => exact up ▸ linksOk_iff.mp ok l
      | false =>
        have unit := (ok.formed l).down up
        simp only [State.withPins_links, unit]
        exact LinkUnit.reset_lawful true
    · exact linksOk_iff.mp ok k
  | frameSent l =>
    refine linksOk_iff.mpr fun k => ?_
    rw [State.modLink_links, PerLink.get_set]
    split
    · exact (linksOk_iff.mp ok l).frameSent
    · exact linksOk_iff.mp ok k

/-- Settles O59: posts and the blocks' answers leave each unit formed, and the transmitters take up their work at the end
of the step. -/
theorem linkUnitsStayConsistent : Obligations.LinkUnitsStayConsistent := fun _ _ ok run =>
  step_keeps_sides (fun _ holds => holds) Passage.linksOk run ok

end Sys2Proof.Machine

end

section
/-! PROOFS. Master reset: the values it leaves (O48, O60) and the filters of the reset lines (O49). -/

namespace Sys2Proof.Machine

theorem reset_eq_blocksReset : State.reset = blocksReset .released .released State.reset := rfl

/-- What the four ways into and out of master reset have in common: the blocks at their reset values, and the links
either all DOWN or, once master reset has ended, as their signals stand. -/
theorem resetValues_of_blocksReset (s x : State) (a b : LineFilter) (links : PerLink LinkUnit) (pins : x.pins.landed = s.pins.landed)
    (amps : x.pins.ampFault = s.pins.ampFault)
    (units : ∀ l, links.get l =
      { LinkUnit.reset with up := if b = .taken then false else s.pins.signal.get l }) :
    ResetValues s ((blocksReset a b x).withLinks links) := by
  have jobs (i : Fin 64) : ((blocksReset a b x).withLinks links).jobs[i] = JobSlot.empty := blocksReset_job a b x i
  refine ⟨rfl, fun h => ?_, fun c => ?_, fun h => ?_, fun h => ?_, fun i => ?_, fun h => ?_, rfl, rfl, rfl, fun l => ?_⟩
  · cases h <;> rfl
  · simp [blocksReset, Store.reset]
  · cases h <;> rfl
  · have head : ((blocksReset a b x).withLinks links).heads.get h =
        HeadUnit.reset (s.pins.landed.get h) (s.pins.ampFault.get h) := by
      rw [← pins, ← amps]
      exact blocksReset_head a b x h
    rw [head]
    exact ⟨rfl, rfl⟩
  · rw [jobs]
    exact ⟨rfl, rfl⟩
  · exact Staging.reset_head h
  · rw [State.withLinks_links, units, State.inMasterReset, State.withLinks_sup]
    simp [blocksReset, Supervisor.reset, LinkUnit.reset]

theorem resetValues_enterMasterReset (s : State) (x : State) (pins : x.pins = s.pins) :
    ResetValues s (enterMasterReset x) :=
  resetValues_of_blocksReset s x _ _ (PerLink.pure LinkUnit.reset) (by rw [pins]) (by rw [pins]) fun l => by cases l <;> rfl

theorem resetValues_endMasterReset (s x : State) (landed : x.pins.landed = s.pins.landed)
    (amps : x.pins.ampFault = s.pins.ampFault) (signal : x.pins.signal = s.pins.signal) :
    ResetValues s (endMasterReset x) := by
  refine resetValues_of_blocksReset s x _ _ _ landed amps fun l => ?_
  rw [PerLink.get_mapL, signal]
  cases l <;> rfl

/-- Settles O60: State.reset is its own reset, so each invariant holds as after master reset. -/
theorem resetMeetsTheInvariants : Obligations.ResetMeetsTheInvariants := by
  have jobs : JobsOk State.reset := jobsOk_blocksReset State.reset .released .released
  refine ⟨gridOk_iff.mpr ⟨by decide, gridLaw_blocksReset State.reset .released .released⟩, jobs.fit,
    headsOk_blocksReset State.reset .released .released, jobs.records, nothingHeld_reset rfl rfl, .of_rest rfl rfl,
    driveOk_iff.mpr (.of_idle (silent_blocksReset State.reset .released .released) rfl), ⟨rfl, fun _ => ⟨rfl, rfl⟩⟩,
    nofun,
    linksOk_iff.mpr fun l => ?_, ?_⟩
  · have unit : State.reset.links.get l = LinkUnit.reset := by cases l <;> rfl
    rw [unit]
    exact LinkUnit.reset_lawful false
  · exact resetValues_of_blocksReset State.reset State.reset .released .released _ rfl rfl fun l => by cases l <;> rfl

/-- Settles O48. -/
theorem masterResetValues : Obligations.MasterResetValues := by
  intro s inside
  refine ⟨endMasterReset (s.withPins { s.pins with masterReset := false }), ?_, resetValues_endMasterReset s _ rfl rfl rfl,
    rfl, rfl, rfl, rfl, rfl⟩
  simp [exec, execMasterResetLineChange, masterResetLineChange, inside]

theorem change_eq_filterAfter (now : Nat) (asserted : Bool) (f : LineFilter) :
    f.change now asserted = filterAfter now asserted f := by
  cases f <;> cases asserted <;> rfl

theorem lineFilters_change {s : State} (outside : s.inMasterReset = false) (asserted : Bool) :
    exec (.cutAbortLineChange asserted) s =
        .next ((s.withPins { s.pins with cutAbort := asserted }).withSup
          { s.sup with cutAbort := filterAfter s.now asserted s.sup.cutAbort }) ∧
      exec (.masterResetLineChange asserted) s =
        .next ((s.withPins { s.pins with masterReset := asserted }).withSup
          { s.sup with masterReset := filterAfter s.now asserted s.sup.masterReset }) := by
  simp [exec, execCutAbortLineChange, execMasterResetLineChange, cutAbortLineChange, masterResetLineChange, outside,
    State.modSup, change_eq_filterAfter]

theorem cutAbortQualified_of_not_qualifying {s : State} (quiet : ∀ t, s.sup.cutAbort ≠ .qualifying t) :
    exec .cutAbortQualified s = .next s := by
  have same : cutAbortQualified s = s := by
    unfold cutAbortQualified
    split
    · exact absurd ‹_› (quiet _)
    · rfl
    · rfl
  simp [exec, execCutAbortQualified, outsideReset, same]

theorem masterResetQualified_of_not_qualifying {s : State} (quiet : ∀ t, s.sup.masterReset ≠ .qualifying t) :
    exec .masterResetQualified s = .next s := by
  have same : masterResetQualified s = s := by
    unfold masterResetQualified
    split
    · exact absurd ‹_› (quiet _)
    · rfl
    · rfl
  simp [exec, execMasterResetQualified, same]

theorem passTimeTo_now (t : Nat) (s : State) : (passTimeTo t s).now = max s.now t := by
  change s.now + (t - s.now) = max s.now t
  omega

theorem masterResetQualified_of_qualifying {s : State} {q : Nat} (qualifying : s.sup.masterReset = .qualifying q) :
    ∃ t, exec .masterResetQualified s = .next t ∧ t.inMasterReset = true ∧ ResetValues s t ∧ t.now = max s.now (q + 2000) := by
  refine ⟨enterMasterReset (passTimeTo (q + 2000) s), ?_, rfl, resetValues_enterMasterReset s _ rfl, passTimeTo_now _ s⟩
  simp [exec, execMasterResetQualified, masterResetQualified, qualifying, Config.lineFilter]

theorem lines_in_masterReset {s : State} (inside : s.inMasterReset = true) :
    exec (.masterResetLineChange true) s = .next (s.withPins { s.pins with masterReset := true }) ∧
      ∀ h on,
        exec (.landedSenseChange h on) s = .next (s.withPins { s.pins with landed := s.pins.landed.set h on }) ∧
        exec (.ampFaultChange h on) s = .next (s.withPins { s.pins with ampFault := s.pins.ampFault.set h on }) ∧
        exec (.cutAbortLineChange on) s = .next (s.withPins { s.pins with cutAbort := on }) := by
  refine ⟨?_, fun h on => ⟨?_, ?_, ?_⟩⟩ <;>
    simp [exec, execMasterResetLineChange, masterResetLineChange, execLandedSenseChange, landedSenseChange,
      execAmpFaultChange, ampFaultChange, execCutAbortLineChange, cutAbortLineChange, inside]

theorem powerOn_values (s : State) :
    ∃ t, exec .powerOn s = .next t ∧ ResetValues s t ∧ t.inMasterReset = s.pins.masterReset ∧ t.sup.limit = 200 ∧
      (s.pins.masterReset = false → t.sup.cutAbort = if s.pins.cutAbort then .qualifying s.now else .released) := by
  refine ⟨powerOn s, rfl, ?_⟩
  cases asserted : s.pins.masterReset with
  | true =>
    rw [powerOn, asserted]
    exact ⟨resetValues_enterMasterReset s s rfl, rfl, rfl, nofun⟩
  | false =>
    rw [powerOn, asserted]
    exact ⟨resetValues_endMasterReset s _ rfl rfl rfl, rfl, rfl, fun _ => rfl⟩

/-- Settles O49. -/
theorem resetLinesAndFilters : Obligations.ResetLinesAndFilters := fun s =>
  ⟨fun outside asserted => lineFilters_change outside asserted, cutAbortQualified_of_not_qualifying,
    masterResetQualified_of_not_qualifying, fun _ => masterResetQualified_of_qualifying, lines_in_masterReset, powerOn_values s⟩

end Sys2Proof.Machine

end

section
/-! PROOFS. Commands that are not taken (O4), requests refused in the wrong state of the engine (O34), SET_STYLUS_COUNT
(O24), CLEAR_HEAD_FAULT (O23), events and masks (O55), posts and the transmitter (O57), and the speed window (O16). -/

namespace Sys2Proof.Machine

/-! ### The speed window (O16) -/

/-- Settles O16: the two readings of the tolerance differ by the factor 100 on both sides. -/
theorem speedWindowIsClosed : Obligations.SpeedWindowIsClosed := by
  intro texp tol p
  refine ⟨rfl, ?_⟩
  have window : absDiff p (texp * 1000) * 100 ≤ tol * texp * 1000 ↔
      texp * 1000 - texp * tol * 10 ≤ p ∧ p ≤ texp * 1000 + texp * tol * 10 := by
    rw [Nat.mul_comm tol texp]
    unfold absDiff
    omega
  unfold judgeSpeed
  simp only [window]

/-! ### Commands that are not taken (O4) -/

theorem exec_lineEvent_of_reset {c : Instr} {s : State} (event : c.lineEvent = true) (inside : s.inMasterReset = true) :
    exec c s = .next s := by
  have untaken (f : State → State) : outsideReset f s = s := if_pos inside
  cases c <;> cases event <;> exact congrArg Host.Outcome.next (untaken _)

theorem linkSignals_in_masterReset {s : State} (inside : s.inMasterReset = true) (l : LinkId) :
    exec (.linkUp l) s = .next (s.withPins { s.pins with signal := s.pins.signal.set l true }) ∧
      exec (.linkSignalLoss l) s = .next (s.withPins { s.pins with signal := s.pins.signal.set l false }) := by
  simp [exec, execLinkUp, execLinkSignalLoss, linkUp, linkSignalLoss, setSignal, inside]

/-- A request row is served by the block that owns its kind. -/
theorem exec_of_asFrame {c : Instr} {l : LinkId} {k : ReqKind} {body : List Byte} (frame : c.asFrame = some (l, k, body)) :
    ∃ f, ∀ s, exec c s = .next (serve l k f s) := by
  cases c <;> cases frame <;> exact ⟨_, fun _ => rfl⟩

theorem serve_of_reset {s : State} (inside : s.inMasterReset = true) (l : LinkId) (k : ReqKind) (f : State → State × Answer) :
    serve l k f s = s := by
  simp [serve, takeRequest, inside]

theorem serve_of_down {s : State} {l : LinkId} (down : (s.links.get l).up = false) (k : ReqKind)
    (f : State → State × Answer) : serve l k f s = s := by
  simp [serve, takeRequest, down]

theorem serve_of_pending {s : State} {l : LinkId} (outside : s.inMasterReset = false) (up : (s.links.get l).up = true)
    (pending : (s.links.get l).replyPending = true) (k : ReqKind) (f : State → State × Answer) :
    serve l k f s = transmitAll (postTo l .linkError s) := by
  simp [serve, takeRequest, outside, up, pending]

/-- Settles O4. -/
theorem commandsNotTaken : Obligations.CommandsNotTaken := by
  refine fun c s => ⟨exec_lineEvent_of_reset, linkSignals_in_masterReset, fun l k body frame => ?_⟩
  obtain ⟨f, runs⟩ := exec_of_asFrame frame
  rw [runs]
  exact ⟨fun inside => congrArg _ (serve_of_reset inside l k f), fun down => congrArg _ (serve_of_down down k f),
    fun outside up pending => congrArg _ (serve_of_pending outside up pending k f)⟩

/-! ### A request row that is refused or done -/

section
variable {c : Instr} {l : LinkId} {k : ReqKind} {f : State → State × Answer} {s : State}

theorem exec_refused {r : Result} (runs : exec c s = .next (serve l k f s)) (ready : Ready l s)
    (permitted : k.permitted l = true) (plain : everyReply k s = [])
    (refused : f (markTaken l s) = refuse r (markTaken l s)) : exec c s = .next (s.answered l k r.bytes) :=
  runs.trans (congrArg _ (serve_refused ready permitted plain refused))

theorem exec_done {x : State} (runs : exec c s = .next (serve l k f s)) (ready : Ready l s)
    (permitted : k.permitted l = true) (plain : everyReply k x = [])
    (accepted : f (markTaken l s) = accept (markTaken l x)) : exec c s = .next (x.answered l k [0#8]) :=
  runs.trans (congrArg _ (serve_done ready permitted plain accepted))

end

/-! ### Requests refused in the wrong state of the engine (O34) -/

/-- Settles O34: each refusal is the first branch of its block's checks. -/
theorem requestsOutOfState : Obligations.RequestsOutOfState := by
  refine fun s => ⟨fun ready => ⟨fun busy => exec_mountCylinder_of_not_idle ready busy,
    fun busy custody => exec_armBand_of_not_idle ready custody busy, fun other => ⟨?_, ?_⟩, fun preparing cutting => ?_,
    fun other => ?_, fun rests => ?_, fun other => ?_⟩, fun l ready rests => ?_⟩
  · exact exec_refused (f := disarm) rfl ready rfl rfl (if_pos other)
  · exact exec_refused (f := startBand) rfl ready rfl rfl (if_pos other)
  · exact exec_refused (f := pauseBand) rfl ready rfl rfl ((if_neg preparing).trans (if_neg cutting))
  · exact exec_refused (f := resumeBand) rfl ready rfl rfl (if_pos other)
  · exact exec_refused (f := stopAtSeam) rfl ready rfl rfl (if_neg (Bool.eq_false_iff.mp rests))
  · exact exec_refused (f := ackEnd) rfl ready rfl rfl (if_pos other)
  · exact exec_refused (f := stopAtOnce) rfl ready rfl rfl (if_neg (Bool.eq_false_iff.mp rests))

/-! ### The heads' numbers -/

theorem HeadId.ofNum_num (h : HeadId) : HeadId.ofNum h.num = some h := by cases h <;> rfl

theorem HeadId.ofNum_of_four_le {n : Nat} (h : 4 ≤ n) : HeadId.ofNum n = none := by
  obtain ⟨m, rfl⟩ := Nat.exists_eq_add_of_le h
  rw [Nat.add_comm]
  rfl

/-! ### SET_STYLUS_COUNT (O24) -/

section
variable {l : LinkId} {s : State} {count : Option Nat}

theorem setStylusCount_of_no_custody (lacks : s.custody ≠ some l) (head : Option Nat) :
    Machine.setStylusCount l head count s = refuse .noCustody s := if_pos lacks

theorem setStylusCount_of_no_head (holds : s.custody = some l) {n : Nat} (high : 4 ≤ n) :
    Machine.setStylusCount l (some n) count s = refuse (.badField 0) s := by
  simp [Machine.setStylusCount, holds, HeadId.ofNum_of_four_le high]

theorem setStylusCount_of_head (holds : s.custody = some l) (h : HeadId) (n : Nat) :
    Machine.setStylusCount l (some h.num) (some n) s =
      if s.headInUse h then refuse .headInUse s else accept (setStylus h n s) := by
  simp [Machine.setStylusCount, holds, HeadId.ofNum_num, setStylus]

end

/-- Settles O24. -/
theorem setStylusCountSets : Obligations.SetStylusCountSets := by
  refine fun l head n s ready => ⟨fun lacks => ?_, fun holds high => ?_, fun h holds names => ⟨fun used => ?_, fun free => ?_⟩⟩
  · exact exec_refused rfl ready rfl rfl (setStylusCount_of_no_custody (s := markTaken l s) lacks _)
  · exact exec_refused rfl ready rfl rfl (setStylusCount_of_no_head (s := markTaken l s) holds high)
  · refine exec_refused (r := .headInUse) rfl ready rfl rfl ?_
    rw [names]
    exact (setStylusCount_of_head (s := markTaken l s) holds h n.toNat).trans (if_pos used)
  · refine exec_done (x := setStylus h n.toNat s) rfl ready rfl rfl ?_
    rw [names]
    exact (setStylusCount_of_head (s := markTaken l s) holds h n.toNat).trans (if_neg (Bool.eq_false_iff.mp free))

/-! ### Supervision that already stands as the heads say -/

/-- Supervision follows in nothing when it already stands as the heads say (R150). -/
theorem supervise_of_stands {s : State} (stands : s.sup.active = s.anyLowered) : supervise s = s := by
  unfold supervise State.modSup
  dsimp only
  rw [if_pos stands]
  rfl

theorem settle_of_stands {s : State} (stands : s.sup.active = s.anyLowered) : settle s = transmitAll s :=
  congrArg transmitAll (supervise_of_stands stands)

/-- Supervision is not moved by a change that lowers and lifts no head of the set. -/
theorem stands_congr {s t : State} (stands : s.sup.active = s.anyLowered) (sup : t.sup = s.sup)
    (lowered : t.anyLowered = s.anyLowered) : t.sup.active = t.anyLowered := by
  rw [sup, lowered]
  exact stands

/-! ### A head that has moved -/

section
variable {s : State} {h : HeadId}

theorem not_setEngaged (used : s.headInUse h = true) (off : (s.heads.get h).state ≠ .engaged) : s.setEngaged = false := by
  rw [State.setEngaged, List.all_eq_false]
  exact ⟨h, by cases h <;> decide, by simp [used, off]⟩

theorem headsReady_of_not_engaged (off : s.setEngaged = false) : headsReady s = s := by
  unfold headsReady
  split
  · exact if_neg fun ready => by simp [off] at ready
  · rfl

/-- A head that is not ENGAGED completes no set of heads, and outside ENDING nothing waits for it (R131, R144). -/
theorem headMoved_of_not_engaged (off : (s.heads.get h).state ≠ .engaged)
    (ending : s.headInUse h = true → s.engine.state ≠ .ending) : headMoved h s = s := by
  unfold headMoved
  split
  · next used =>
    rw [if_neg (ending used), headsReady_of_not_engaged (not_setEngaged used off), ite_self]
  · rfl

/-- The lowered heads of the set are as before when the head that changed is as much lowered as it was. -/
theorem anyLowered_modHead {f : HeadUnit → HeadUnit} (same : (f (s.heads.get h)).state.lowered = (s.heads.get h).state.lowered) :
    (s.modHead h f).anyLowered = s.anyLowered := by
  unfold State.anyLowered
  refine congrArg _ (funext fun k => ?_)
  have used : (s.modHead h f).headInUse k = s.headInUse k := rfl
  rw [used, State.modHead_heads, PerHead.get_set]
  split
  · next is => rw [same, is]
  · rfl

end

/-! ### CLEAR_HEAD_FAULT (O23) -/

section
variable {s : State} {h : HeadId}

theorem clearHeadFault_of_no_head {n : Nat} (high : 4 ≤ n) : clearHeadFault (some n) s = refuse (.badField 0) s := by
  unfold clearHeadFault
  rw [Option.bind_some, HeadId.ofNum_of_four_le high]

theorem clearHeadFault_of_head :
    clearHeadFault (some h.num) s =
      if (s.heads.get h).state ≠ .faulted then accept s
      else if (s.heads.get h).ampFault then refuse .faultPresent s
      else acceptMoving (headMoved h (s.modHead h (HeadUnit.clear s.now (s.params h)))) := by
  unfold clearHeadFault
  rw [Option.bind_some, HeadId.ofNum_num]

theorem HeadUnit.clear_state (now : Nat) (p : HeadParams) (u : HeadUnit) :
    (u.clear now p).state = if u.landed then .lifting else .lifted := by
  unfold HeadUnit.clear
  split <;> rfl

/-- A cleared head outside ENDING brings nothing else with it (R70, R144, R150). -/
theorem clearHeadFault_cleared (faulted : (s.heads.get h).state = .faulted) (amp : (s.heads.get h).ampFault = false)
    (supervised : Supervised s) (ending : s.headInUse h = true → s.engine.state ≠ .ending) :
    clearHeadFault (some h.num) s = accept (s.modHead h (HeadUnit.clear s.now (s.params h))) := by
  have up : ((s.heads.get h).clear s.now (s.params h)).state.lowered = false := by
    rw [HeadUnit.clear_state]
    split <;> rfl
  have cleared := modHead_head h (HeadUnit.clear s.now (s.params h)) s
  have off : ((s.modHead h (HeadUnit.clear s.now (s.params h))).heads.get h).state ≠ .engaged := by
    rw [cleared]
    intro is
    rw [is] at up
    cases up
  rw [clearHeadFault_of_head, if_neg (not_not.mpr faulted), amp, if_neg Bool.false_ne_true,
    headMoved_of_not_engaged off ending]
  unfold acceptMoving
  rw [supervise_of_stands]
  exact stands_congr supervised.1 rfl (anyLowered_modHead (by rw [up, faulted]; rfl))

end

/-- Settles O23. -/
theorem clearHeadFaultClears : Obligations.ClearHeadFaultClears := by
  refine fun head s ready => ⟨fun high => ?_, fun h names => ⟨fun other => ?_, fun faulted amp => ?_,
    fun faulted amp supervised ending => ?_⟩⟩
  · exact exec_refused rfl ready rfl rfl (clearHeadFault_of_no_head (s := markTaken .machine s) high)
  · refine exec_done rfl ready rfl rfl ?_
    rw [names]
    exact clearHeadFault_of_head.trans (if_pos other)
  · refine exec_refused (r := .faultPresent) rfl ready rfl rfl ?_
    rw [names]
    exact clearHeadFault_of_head.trans ((if_neg (not_not.mpr faulted)).trans (if_pos amp))
  · refine exec_done rfl ready rfl rfl ?_
    rw [names]
    exact clearHeadFault_cleared (s := markTaken .machine s) faulted amp (supervised.of_links rfl rfl) ending

/-! ### Events and masks (O55) -/

/-- A mask of 16 bits is within 14 bits exactly when its two top bits are clear. -/
theorem mask_high_iff (mask : BitVec 16) :
    16384 ≤ mask.toNat ↔ mask.getLsbD 14 = true ∨ mask.getLsbD 15 = true := by
  have range := mask.isLt
  simp only [BitVec.getLsbD, Nat.testBit_eq_decide_div_mod_eq, decide_eq_true_eq]
  omega

theorem EventKind.num_lt (e : EventKind) : e.num < 14 := by cases e <;> decide

/-- The notices that the written mask enables, read from the 16 bits as written. -/
theorem setMask_eq (mask : BitVec 16) (u : LinkUnit) :
    u.setMask (BitVec.ofNat 14 mask.toNat) =
      { u with mask := mask.truncate 14, notices := u.notices.filter fun e => mask.getLsbD e.num } := by
  have enabled (e : EventKind) : EventSet.has (BitVec.ofNat 14 mask.toNat) e = mask.getLsbD e.num := by
    rw [EventSet.has, BitVec.ofNat_toNat, BitVec.getLsbD_setWidth, decide_eq_true e.num_lt, Bool.true_and]
  simp only [LinkUnit.setMask, enabled]
  rw [BitVec.ofNat_toNat]

section
variable {l : LinkId} {s : State}

theorem setNoticeMask_of_high {n : Nat} (high : 16384 ≤ n) : setNoticeMask l (some n) s = refuse (.badField 0) s :=
  if_pos high

theorem setNoticeMask_of_low {n : Nat} (low : ¬16384 ≤ n) :
    setNoticeMask l (some n) s = accept (s.modLink l (LinkUnit.setMask (BitVec.ofNat 14 n))) := if_neg low

theorem markTaken_events (s : State) : ((markTaken l s).links.get l).events = (s.links.get l).events := by
  rw [markTaken, State.modLink_links, PerLink.get_set_self]

end

/-- Settles O55. -/
theorem eventsAndMasks : Obligations.EventsAndMasks := by
  refine fun l mask s ready => ⟨?_, fun high => ?_, fun low14 low15 => ?_⟩
  · have read : readEvents l (markTaken l s) =
        (markTaken l (s.modLink l fun u => { u with events := 0#14 }), ⟨.done, be2 (s.links.get l).events.toNat⟩) := by
      rw [readEvents, markTaken_events, modLink_markTaken fun _ => rfl]
    exact congrArg Host.Outcome.next (serve_answered ready rfl read)
  · exact exec_refused rfl ready rfl rfl (setNoticeMask_of_high (s := markTaken l s) ((mask_high_iff mask).mpr high))
  · have low : ¬16384 ≤ mask.toNat := fun high => by
      rcases (mask_high_iff mask).mp high with on | on
      · rw [low14] at on
        cases on
      · rw [low15] at on
        cases on
    have written : s.modLink l (LinkUnit.setMask (BitVec.ofNat 14 mask.toNat)) = s.modLink l fun u =>
        { u with mask := mask.truncate 14, notices := u.notices.filter fun e => mask.getLsbD e.num } :=
      congrArg (fun f => s.modLink l f) (funext (setMask_eq mask))
    rw [← written]
    refine exec_done rfl ready rfl rfl ((setNoticeMask_of_low (s := markTaken l s) low).trans ?_)
    rw [modLink_markTaken fun _ => rfl]

/-! ### Posts and the transmitter (O57) -/

theorem LinkUnit.post_of_pending {e : EventKind} {u : LinkUnit} (idle : u.up = false ∨ u.events.has e = true) :
    u.post e = u := by
  unfold LinkUnit.post
  rw [if_neg]
  rcases idle with down | pending
  · simp [down]
  · simp [pending]

theorem LinkUnit.post_fresh {e : EventKind} {u : LinkUnit} (up : u.up = true) (fresh : u.events.has e = false) :
    (∀ k, (u.post e).events.has k = (u.events.has k || k == e)) ∧
      (u.post e).notices = (if u.mask.has e = true ∧ e ∉ u.notices then u.notices ++ [e] else u.notices) ∧
      (u.post e).mask = u.mask ∧ (u.post e).relay = u.relay ∧ (u.post e).replyPending = u.replyPending ∧
      (u.post e).waitingReply = u.waitingReply ∧ (u.post e).sending = u.sending ∧ (u.post e).up = true := by
  have posted : u.post e = { u with
      events := u.events.add e
      notices := if u.mask.has e && !u.notices.contains e then u.notices ++ [e] else u.notices } := by
    simp [LinkUnit.post, up, fresh]
  rw [posted]
  exact ⟨fun k => EventSet.has_add _ e k, by simp, rfl, rfl, rfl, rfl, rfl, up⟩

theorem bytesOf_two (n : Nat) : bytesOf 2 n = be2 n := by simp [bytesOf, be2]

/-- The bytes of a frame, field by field (Table 10-4). -/
theorem frameBytes_eq (kind : Byte) (body : List Byte) :
    frameBytes kind body =
      0xA5#8 :: (bytesOf 2 body.length ++ kind :: body ++ bytesOf 2 (frameCheck kind body).toNat) := by
  rw [bytesOf_two, bytesOf_two]
  rfl

theorem eventNumber (e : EventKind) :
    placeIn [.bandEnded, .bandHeld, .chainStopped, .ringFreed, .clip, .speedDeviation, .stallWarn, .motionFault, .headFault,
      .cutAbort, .custodyGranted, .custodyLost, .relayWaiting, .linkError] e = e.num := by
  cases e <;> rfl

/-- A link unit whose transmitter has finished a frame. -/
def LinkUnit.afterFrame (f : TxFrame) (u : LinkUnit) : LinkUnit :=
  { u with
    sending := none
    replyPending := match f with
      | .reply _ => false
      | .notice _ => u.replyPending }

theorem LinkUnit.frameSent_eq {u : LinkUnit} {f : TxFrame} (sending : u.sending = some f) :
    u.frameSent = (u.afterFrame f).transmit := by
  unfold LinkUnit.frameSent
  rw [sending]
  cases f <;> rfl

/-- An idle transmitter of an UP link takes a waiting reply first, else the oldest waiting notice (R180). -/
theorem LinkUnit.transmit_idle {u : LinkUnit} (up : u.up = true) (idle : u.sending = none) :
    u.transmit =
      match u.waitingReply, u.notices with
      | some r, _ => { u with waitingReply := none, sending := some (.reply r) }
      | none, e :: rest => { u with notices := rest, sending := some (.notice e) }
      | none, [] => u := by
  unfold LinkUnit.transmit
  refine (if_pos (by simp [up, idle])).trans ?_
  cases u.waitingReply <;> cases u.notices <;> rfl

theorem PerLink.set_get {α : Type} (p : PerLink α) (l : LinkId) : p.set l (p.get l) = p := by
  cases l <;> rfl

theorem modLink_of_same {l : LinkId} {f : LinkUnit → LinkUnit} {s : State} (same : f (s.links.get l) = s.links.get l) :
    s.modLink l f = s := by
  rw [State.modLink, same, PerLink.set_get]
  rfl

/-- Settles O57. -/
theorem postsAndTransmissions : Obligations.PostsAndTransmissions := by
  refine ⟨fun e u => ⟨LinkUnit.post_of_pending, LinkUnit.post_fresh⟩,
    fun u => ⟨fun idle => ?_, fun kind body sending => ?_, fun e sending => ?_⟩,
    fun l s outside up => ⟨fun idle => ?_, fun f sending => ?_⟩⟩
  · rw [LinkUnit.lineBytes, idle]
    rfl
  · rw [LinkUnit.lineBytes, sending]
    exact frameBytes_eq kind body
  · rw [LinkUnit.lineBytes, sending, eventNumber]
    exact frameBytes_eq noticeKind (be1 e.num)
  · have same : (s.links.get l).frameSent = s.links.get l := by rw [LinkUnit.frameSent, idle]
    exact congrArg Host.Outcome.next ((outsideReset_of_not_reset outside _).trans (by rw [modLink_of_same same]))
  · have sent : (s.links.get l).frameSent = _ :=
      (LinkUnit.frameSent_eq sending).trans (LinkUnit.transmit_idle (u := (s.links.get l).afterFrame f) up rfl)
    refine congrArg Host.Outcome.next ((outsideReset_of_not_reset outside _).trans ?_)
    rw [State.modLink, sent]
    rfl

end Sys2Proof.Machine

end

section
/-! PROOFS. R89: what a command leaves of the band in ENDING (O29). -/

namespace Sys2Proof.Machine

/-! ### A band that is not abortable is left alone (R142, R143) -/

theorem abort_of_rest {s : State} (rests : s.engine.state.abortable = false) (c : EndCause) (h : Option HeadId) :
    abort c h s = s := if_neg (by rw [rests]; decide)

theorem motionFault_of_rest {s : State} (rests : s.engine.state.abortable = false) (c : EndCause) :
    motionFault c s = postAll .motionFault s :=
  abort_of_rest (s := postAll .motionFault s) rests c none

theorem ringBeingCut_of_rest {s : State} (rests : s.engine.state.abortable = false) : s.ringBeingCut = false := by
  refine ringBeingCut_of_not_cutting fun cutting => ?_
  rw [cutting] at rests
  cases rests

theorem engineIndex_of_rest {s : State} (rests : s.engine.state.abortable = false) (c : IndexClass) :
    engineIndex c s = s := by
  unfold engineIndex
  split
  · rfl
  · split <;> simp_all [EngineState.abortable]

/-! ### Commands taken in ENDING -/

/-- The band stays in its state and its slot, and the current record keeps its outcome, cause and faulted head. -/
structure Calm (s t : State) : Prop where
  state : t.engine.state = s.engine.state
  slot : t.engine.slot = s.engine.slot
  record : ∀ i : Fin 64, s.slotInUse i = true →
    t.jobs[i].record.outcome = s.jobs[i].record.outcome ∧ t.jobs[i].record.cause = s.jobs[i].record.cause ∧
      t.jobs[i].record.faultedHead = s.jobs[i].record.faultedHead

theorem Calm.of_eq {s t : State} (engine : t.engine = s.engine) (jobs : t.jobs = s.jobs) : Calm s t := by
  refine ⟨by rw [engine], by rw [engine], fun i _ => ?_⟩
  rw [jobs]
  exact ⟨rfl, rfl, rfl⟩

/-- The band is calm, or it has left ENDING, or another slot is current. -/
def Waits (i : Fin 64) (s t : State) : Prop := Calm s t ∨ t.engine.state ≠ .ending ∨ t.engine.slot ≠ some i

theorem Waits.after {i : Fin 64} {s t u : State} (waits : Waits i s t) (engine : u.engine = t.engine)
    (jobs : u.jobs = t.jobs) : Waits i s u := by
  rcases waits with ⟨state, slot, record⟩ | left | other
  · left
    refine ⟨by rw [engine, state], by rw [engine, slot], ?_⟩
    rw [jobs]
    exact record
  · exact .inr (.inl (by rwa [engine]))
  · exact .inr (.inr (by rwa [engine]))

theorem Waits.before {i : Fin 64} {s s' t : State} (waits : Waits i s' t) (engine : s'.engine = s.engine)
    (jobs : s'.jobs = s.jobs) : Waits i s t := by
  rcases waits with ⟨state, slot, record⟩ | left
  · refine .inl ⟨by rw [state, engine], by rw [slot, engine], fun k used => ?_⟩
    rw [← jobs]
    refine record k ?_
    rw [State.slotInUse, engine]
    exact used
  · exact .inr left

theorem Waits.refl (i : Fin 64) (s : State) : Waits i s s := .inl (.of_eq rfl rfl)

theorem Waits.of_eq {i : Fin 64} {s t : State} (engine : t.engine = s.engine) (jobs : t.jobs = s.jobs) : Waits i s t :=
  .inl (.of_eq engine jobs)

theorem abort_slot (c : EndCause) (h : Option HeadId) (s : State) : (abort c h s).engine.slot = s.engine.slot := by
  unfold abort leaveEndingPlain
  dsimp only
  repeat' split
  all_goals simp [enterEnded, toEnding_engine]

theorem stopBand_slot (c : StopCause) (s : State) : (stopBand c s).engine.slot = s.engine.slot := by
  unfold stopBand leaveEndingPlain
  split <;> simp [enterEnded, toEnding_engine]

theorem requestCarriage_slot (d : Descriptor) (s : State) : (requestCarriage d s).engine.slot = s.engine.slot := by
  unfold requestCarriage
  split <;> rfl

theorem prepareActions_slot (d : Descriptor) (s : State) : (prepareActions d s).engine.slot = s.engine.slot := by
  unfold prepareActions placeCarriage
  dsimp only
  repeat' split
  all_goals simp [requestCarriage_slot]

theorem enterPreparing_slot (chained : Bool) (s : State) : (enterPreparing chained s).engine.slot = s.engine.slot := by
  unfold enterPreparing
  dsimp only
  repeat' split
  all_goals simp [abort_slot, stopBand_slot, prepareActions_slot]

theorem StatusRecord.endRun_phase {r : StatusRecord} {o : BandOutcome} (outcome : r.outcome = some o) :
    r.endRun.phase = o.phase := by
  rw [StatusRecord.endRun, outcome]

/-- A band that chains goes to another slot: the record of its own is COMPLETE, not NEVER_RUN (R54, R88). -/
theorem chain_waits {s : State} {i m : Fin 64} (slot : s.engine.slot = some i)
    (complete : s.jobs[i].record.outcome = some .complete) : Waits i s (chain m s) := by
  unfold chain
  dsimp only
  split
  · next d desc qualifies =>
    refine .inr (.inr fun same => ?_)
    rw [enterPreparing_slot] at same
    obtain rfl : m = i := Option.some.inj same
    unfold State.qualifies at qualifies
    rw [desc] at qualifies
    have phase : (endCurrency s).jobs[m].record.phase = .neverRun := by
      simp only [Bool.and_eq_true, beq_iff_eq] at qualifies
      exact qualifies.1.1.1
    rw [endCurrency_job, modRecord_job, if_pos slot] at phase
    have ends : s.jobs[m].record.endRun.phase = .neverRun := phase
    rw [StatusRecord.endRun_phase complete] at ends
    cases ends
  · exact .inr (.inl fun is => by cases is)

theorem leaveEnding_waits {s : State} {i : Fin 64} (slot : s.engine.slot = some i) : Waits i s (leaveEnding s) := by
  have ended (e : EventKind) : Waits i s (enterEnded e s) := .inr (.inl fun is => by cases is)
  unfold leaveEnding
  split
  · split
    · next d r band record =>
      split
      · next m complete next =>
        rw [State.record, slot] at record
        obtain rfl := Option.some.inj record
        exact chain_waits slot complete
      · exact ended _
    · exact ended _
  · exact .refl i s


theorem rests_of_ending {s : State} (ending : s.engine.state = .ending) : s.engine.state.abortable = false := by
  rw [ending]
  rfl

/-- A step reaches the grid, or brings reverse rotation, or moves the grid and the stall counter alone. -/
theorem stepEvent_cases (dir : Direction) (a : Nat) (s : State) : ∃ t, t.engine = s.engine ∧ t.jobs = s.jobs ∧
    (stepEvent dir a s = forwardStep t ∨ stepEvent dir a s = motionFault .reverseRotation t ∨ stepEvent dir a s = t) := by
  refine ⟨stepStall ((passTimeTo a s).modGrid fun g => { g with position := movePosition dir g.position }), rfl, rfl, ?_⟩
  unfold stepEvent
  dsimp only
  cases dir with
  | forward => exact .inl rfl
  | reverse =>
    dsimp only
    split
    · exact .inr (.inl rfl)
    · exact .inr (.inr rfl)

/-- An index reaches the engine with the grid and the time moved, and MOTION_FAULT posted for a slip. -/
theorem indexEvent_cases (a : Nat) (s : State) : ∃ c t, t.engine = s.engine ∧ t.jobs = s.jobs ∧
    indexEvent a s = engineIndex c t := by
  unfold indexEvent
  dsimp only
  refine ⟨_, _, ?_, ?_, rfl⟩ <;> split <;> rfl

/-- Level `on` of the landed sense recorded at the port and the controller of head `h` (R58). -/
def State.sensed (s : State) (h : HeadId) (on : Bool) : State :=
  (s.withPins { s.pins with landed := s.pins.landed.set h on }).modHead h fun x => { x with landed := on }

theorem landedSenseChange_eq (h : HeadId) (on : Bool) (s : State) :
    landedSenseChange h on s =
      if s.inMasterReset || (s.heads.get h).landed == on then s.withPins { s.pins with landed := s.pins.landed.set h on }
      else settle (if on then senseOn h (s.sensed h on) else senseOff h (s.sensed h on)) := rfl

/-- Level `on` of the amplifier fault input recorded at the port and the controller of head `h` (R58). -/
def State.amped (s : State) (h : HeadId) (on : Bool) : State :=
  (s.withPins { s.pins with ampFault := s.pins.ampFault.set h on }).modHead h fun x => { x with ampFault := on }

theorem ampFaultChange_eq (h : HeadId) (on : Bool) (s : State) :
    ampFaultChange h on s =
      if s.inMasterReset || (s.heads.get h).ampFault == on then
        s.withPins { s.pins with ampFault := s.pins.ampFault.set h on }
      else settle (if on then ampOn h (s.amped h on) else s.amped h on) := rfl

theorem checkWarn_band (s : State) : (checkWarn s).engine = s.engine ∧ (checkWarn s).jobs = s.jobs := by
  unfold checkWarn
  split <;> exact ⟨rfl, rfl⟩

section
variable {s : State} {i : Fin 64} (ending : s.engine.state = .ending)
include ending

theorem boundary_waits (b : Nat) : Waits i s (boundary b s) := by
  unfold boundary
  rw [ringBeingCut_of_rest (rests_of_ending ending)]
  split
  · split
    · contradiction
    · split
      · exact .of_eq rfl rfl
      · exact .refl i s
  · exact .refl i s

theorem carryStep_waits (acc : Nat) (d : Descriptor) : Waits i s (carryStep acc d s) := by
  unfold carryStep
  split
  · exact (boundary_waits (s := counted acc s) ending _).before rfl rfl
  · exact .of_eq rfl rfl

theorem forwardStep_waits : Waits i s (forwardStep s) := by
  unfold forwardStep
  split
  · rw [gridStep_eq]
    split
    · exact .of_eq rfl rfl
    · exact carryStep_waits ending _ _
  · exact .refl i s

theorem stepEvent_waits (dir : Direction) (a : Nat) : Waits i s (stepEvent dir a s) := by
  obtain ⟨t, engine, jobs, forward | reverse | still⟩ := stepEvent_cases dir a s
  · rw [forward]
    exact (forwardStep_waits (engine ▸ ending)).before engine jobs
  · rw [reverse, motionFault_of_rest (engine ▸ rests_of_ending ending)]
    exact .of_eq engine jobs
  · rw [still]
    exact .of_eq engine jobs

theorem indexEvent_waits (a : Nat) : Waits i s (indexEvent a s) := by
  obtain ⟨c, t, engine, jobs, index⟩ := indexEvent_cases a s
  rw [index, engineIndex_of_rest (engine ▸ rests_of_ending ending)]
  exact .of_eq engine jobs

theorem carriageArrival_waits (p : Nat) : Waits i s (carriageArrival p s) := by
  unfold carriageArrival
  split
  · split
    · exact .inl ⟨rfl, rfl, fun _ _ => ⟨rfl, rfl, rfl⟩⟩
    · rw [abort_of_rest (rests_of_ending ending)]
      exact .refl i s
  · exact .refl i s

theorem checkStall_waits : Waits i s (checkStall s) := by
  unfold checkStall
  split
  · rw [motionFault_of_rest (rests_of_ending ending)]
    exact .of_eq rfl rfl
  · exact .refl i s

theorem checks_waits : Waits i s (checkStall (checkWarn s)) := by
  obtain ⟨engine, jobs⟩ := checkWarn_band s
  exact (checkStall_waits (engine ▸ ending)).before engine jobs

end

section
variable {s : State} {i : Fin 64} (ending : s.engine.state = .ending) (slot : s.engine.slot = some i)
include ending slot

theorem reportFault_waits (h : HeadId) (c : HeadCause) : Waits i s (reportFault h c s) := by
  unfold reportFault
  rw [if_pos ending]
  split
  · exact leaveEnding_waits slot
  · exact .refl i s

theorem headMoved_waits (h : HeadId) : Waits i s (headMoved h s) := by
  unfold headMoved
  rw [if_pos ending]
  split
  · exact leaveEnding_waits slot
  · exact .refl i s

theorem headMoved_modHead_waits (h : HeadId) (f : HeadUnit → HeadUnit) : Waits i s (headMoved h (s.modHead h f)) :=
  (headMoved_waits (s := s.modHead h f) ending slot h).before rfl rfl

theorem faultHead_waits (h : HeadId) (c : HeadCause) : Waits i s (faultHead h c s) :=
  (reportFault_waits (s := postAll .headFault (s.modHead h (HeadUnit.fault c))) ending slot h c).before rfl rfl

theorem lineOp_waits {c : Instr} {f : State → State} (op : LineOp c f) : Waits i s (f s) := by
  cases op with
  | stepEvent dir a => exact stepEvent_waits ending dir a
  | indexEvent a => exact indexEvent_waits ending a
  | carriageArrival p => exact carriageArrival_waits ending p
  | lowerTimeoutExpiry h =>
    unfold lowerTimeoutExpiry
    split
    · exact (faultHead_waits (s := passTimeTo _ s) ending slot h _).before rfl rfl
    · exact .refl i s
  | liftTimeoutExpiry h =>
    unfold liftTimeoutExpiry
    split
    · exact (faultHead_waits (s := passTimeTo _ s) ending slot h _).before rfl rfl
    · exact .refl i s
  | stallWarn =>
    unfold stallWarn
    split
    · obtain ⟨engine, jobs⟩ := checkWarn_band (passTime (warnThreshold s.sup.limit - s.sup.stall) s)
      exact .of_eq engine jobs
    · exact .refl i s
  | motionStall =>
    unfold motionStall
    split
    · exact (checks_waits (s := passTime _ s) ending).before rfl rfl
    · exact .refl i s

theorem senseOn_waits (h : HeadId) : Waits i s (senseOn h s) := by
  unfold senseOn
  split
  · exact headMoved_modHead_waits ending slot h _
  · exact headMoved_modHead_waits ending slot h _
  all_goals exact .refl i s

theorem senseOff_waits (h : HeadId) : Waits i s (senseOff h s) := by
  unfold senseOff
  split
  · exact headMoved_modHead_waits ending slot h _
  · exact faultHead_waits ending slot h _
  all_goals exact .refl i s

theorem landedSenseChange_waits (h : HeadId) (on : Bool) : Waits i s (landedSenseChange h on s) := by
  rw [landedSenseChange_eq]
  split
  · exact .of_eq rfl rfl
  · cases on with
    | true => exact Waits.after ((senseOn_waits (s := s.sensed h true) ending slot h).before rfl rfl) (by rfl) (by rfl)
    | false => exact Waits.after ((senseOff_waits (s := s.sensed h false) ending slot h).before rfl rfl) (by rfl) (by rfl)

theorem ampOn_waits (h : HeadId) : Waits i s (ampOn h s) := by
  unfold ampOn
  split
  case h_5 => exact .refl i s
  case h_6 => exact .refl i s
  all_goals exact faultHead_waits ending slot h _

theorem ampFaultChange_waits (h : HeadId) (on : Bool) : Waits i s (ampFaultChange h on s) := by
  rw [ampFaultChange_eq]
  split
  · exact .of_eq rfl rfl
  · cases on with
    | true => exact Waits.after ((ampOn_waits (s := s.amped h true) ending slot h).before rfl rfl) (by rfl) (by rfl)
    | false => exact .of_eq rfl rfl

end

theorem releaseOnLoss_band (l : LinkId) (s : State) :
    (releaseOnLoss l s).engine = s.engine ∧ (releaseOnLoss l s).jobs = s.jobs :=
  ⟨(releaseOnLoss_same l s).engine, (releaseOnLoss_same l s).jobs⟩

theorem linkUp_band (l : LinkId) (s : State) : (linkUp l s).engine = s.engine ∧ (linkUp l s).jobs = s.jobs := by
  unfold linkUp
  dsimp only
  split <;> exact ⟨rfl, rfl⟩

theorem indexTimingExpiry_band (s : State) :
    (indexTimingExpiry s).engine = s.engine ∧ (indexTimingExpiry s).jobs = s.jobs := by
  have moved (n : Nat) (f : Grid → Grid) :
      ((passTimeTo n s).modGrid f).engine = s.engine ∧ ((passTimeTo n s).modGrid f).jobs = s.jobs := ⟨rfl, rfl⟩
  unfold indexTimingExpiry
  split
  · exact moved _ _
  · exact ⟨rfl, rfl⟩

theorem cutAbortLineChange_band (asserted : Bool) (s : State) :
    (cutAbortLineChange asserted s).engine = s.engine ∧ (cutAbortLineChange asserted s).jobs = s.jobs := by
  unfold cutAbortLineChange
  dsimp only
  split <;> exact ⟨rfl, rfl⟩

theorem powerOn_waits (i : Fin 64) (s : State) : Waits i s (powerOn s) := by
  unfold powerOn
  split <;> exact .inr (.inl fun is => by cases is)

theorem masterResetLineChange_waits (i : Fin 64) (asserted : Bool) (s : State) : Waits i s (masterResetLineChange asserted s) := by
  unfold masterResetLineChange
  dsimp only
  split
  · split
    · exact .of_eq rfl rfl
    · exact .inr (.inl fun is => by cases is)
  · exact .of_eq rfl rfl

theorem masterResetQualified_waits (i : Fin 64) (s : State) : Waits i s (masterResetQualified s) := by
  unfold masterResetQualified
  split
  · exact .inr (.inl fun is => by cases is)
  · exact .refl i s
  · exact .refl i s

theorem machineLinkLost_of_rest {s : State} (rests : s.engine.state.abortable = false) : machineLinkLost s = s :=
  if_neg (by rw [rests]; decide)

/-- A slot that is not in use is not the slot of the band in ENDING. -/
theorem modJob_waits {s : State} {i k : Fin 64} (free : s.slotInUse k = false) (f : JobSlot → JobSlot) : Waits i s (s.modJob k f) := by
  refine .inl ⟨rfl, rfl, fun j used => ?_⟩
  have other : k ≠ j := by
    rintro rfl
    rw [used] at free
    cases free
  rw [modJob_job, if_neg other]
  exact ⟨rfl, rfl, rfl⟩

section
variable {s : State} {i : Fin 64} (ending : s.engine.state = .ending)
include ending

theorem cutAbortEngine_of_ending : cutAbortEngine s = s := by
  rw [cutAbortEngine, ending, if_neg (by decide), abort_of_rest (rests_of_ending ending)]

theorem cutAbortQualified_waits : Waits i s (cutAbortQualified s) := by
  unfold cutAbortQualified
  split
  · unfold cutAbortReset
    rw [cutAbortEngine_of_ending (by exact ending)]
    exact .of_eq rfl rfl
  · exact .refl i s
  · exact .refl i s

theorem linkSignalLoss_waits (l : LinkId) : Waits i s (linkSignalLoss l s) := by
  unfold linkSignalLoss
  dsimp only
  split
  · obtain ⟨engine, jobs⟩ := releaseOnLoss_band l ((setSignal l false s).modLink l fun _ => LinkUnit.reset)
    rw [machineLinkLost_of_rest (by rw [engine]; exact rests_of_ending ending), ite_self]
    exact .of_eq engine jobs
  · exact .of_eq rfl rfl

end

theorem notesLeft_band (l : LinkId) (rest : List Note) (s : State) :
    (s.notesLeft l rest).engine = s.engine ∧ (s.notesLeft l rest).jobs = s.jobs :=
  ⟨(notesLeft_same l rest s).engine, (notesLeft_same l rest s).jobs⟩

theorem blockMove_waits {l : LinkId} {k : ReqKind} {s t : State} {i : Fin 64} (ending : s.engine.state = .ending)
    (slot : s.engine.slot = some i) (move : BlockMove l k s t) : Waits i s t := by
  have elsewhere {x : EngineState} {p : Prop} (state : s.engine.state = x) (other : EngineState.ending ≠ x) : p :=
    absurd (ending.symm.trans state) other
  cases move
  case mounted c idle => exact elsewhere idle (by decide)
  case armed j d restart idle desc fresh => exact elsewhere idle (by decide)
  case disarmed armed => exact elsewhere armed (by decide)
  case started armed => exact elsewhere armed (by decide)
  case paused cutting pos => exact elsewhere cutting (by decide)
  case resumed held => exact elsewhere held (by decide)
  case acknowledged ended => exact elsewhere ended (by decide)
  case stopped runs => exact absurd (runs.symm.trans (rests_of_ending ending)) (by decide)
  case aborted =>
    rw [abort_of_rest (rests_of_ending ending)]
    exact .of_eq rfl rfl
  case pauseSet => exact .inl ⟨rfl, rfl, fun _ _ => ⟨rfl, rfl, rfl⟩⟩
  case limitSet v =>
    exact Waits.after ((checks_waits (s := s.modSup fun u => { u with limit := clampLimit v }) ending).before rfl rfl)
      (by rfl) (by rfl)
  case faultCleared h faulted amp => exact Waits.after (headMoved_modHead_waits ending slot h _) (by rfl) (by rfl)
  case descriptorWritten j d listed sound free => exact modJob_waits free _
  case descriptorCleared j free => exact modJob_waits free _
  case paramsWritten h p fits => exact .of_eq (storeParams_engine h p s) (storeParams_jobs h p s)
  case noteFetched n rest queue => exact .of_eq (notesLeft_band l rest s).1 (notesLeft_band l rest s).2
  all_goals exact .of_eq rfl rfl

theorem served_waits {l : LinkId} {K : ReqKind → Prop} {s t : State} {i : Fin 64} (ending : s.engine.state = .ending)
    (slot : s.engine.slot = some i) (served : Served l K s t) : Waits i s t := by
  cases served with
  | ignored => exact .refl i s
  | linkError => exact .of_eq rfl rfl
  | refused => exact .of_eq rfl rfl
  | @answered k f kind body asks block =>
    have answered := blockMove_waits (s := markTaken l s) ending slot (block.move (markTaken l s))
    exact Waits.after (answered.before rfl rfl) (by rfl) (by rfl)

theorem effect_waits {c : Instr} {s t : State} {i : Fin 64} (ending : s.engine.state = .ending)
    (slot : s.engine.slot = some i) (effect : Effect s c t) : Waits i s t := by
  cases effect with
  | untaken => exact .refl i s
  | request served => exact served_waits ending slot served
  | line op => exact Waits.after (lineOp_waits ending slot op) (by rfl) (by rfl)
  | indexTimingExpiry => exact .of_eq (indexTimingExpiry_band s).1 (indexTimingExpiry_band s).2
  | landedSenseChange h on => exact landedSenseChange_waits ending slot h on
  | ampFaultChange h on => exact ampFaultChange_waits ending slot h on
  | cutAbortLineChange asserted => exact .of_eq (cutAbortLineChange_band asserted s).1 (cutAbortLineChange_band asserted s).2
  | cutAbortQualified => exact cutAbortQualified_waits ending
  | masterResetLineChange asserted => exact masterResetLineChange_waits i asserted s
  | masterResetQualified => exact masterResetQualified_waits i s
  | powerOn => exact powerOn_waits i s
  | linkSignalLoss l => exact linkSignalLoss_waits ending l
  | linkUp l => exact .of_eq (linkUp_band l s).1 (linkUp_band l s).2
  | frameSent l => exact .of_eq rfl rfl

/-- Settles O29: a band in ENDING stays as it is or leaves it, and one that chains goes to another slot. -/
theorem firstCauseStands : Obligations.FirstCauseStands := by
  intro c s t i run ending stays slot same
  rcases effect_waits ending slot (effect_of_exec run) with calm | left | other
  · exact calm.record i (by simp [State.slotInUse, ending, slot, EngineState.isCurrent])
  · exact absurd stays left
  · exact absurd same other

end Sys2Proof.Machine

end

section
/-! SUPPORT. What a band's entry to ENDING leaves, by an abort or a stop, with the heads at rest or not (R34, R89, R114, R140,
R143 to R145), and what a hold leaves (R141). -/

namespace Sys2Proof.Machine

/-! ### A lift command (R63, R64) -/

/-- A consistent head lifts as Table 4-1 says: a LOWERING head has its sense off and no lower request, and only an ENGAGED
head has a drive output. -/
theorem HeadUnit.ok.lift_eq {u : HeadUnit} (ok : u.ok) (now : Nat) (p : HeadParams) :
    u.lift now p = { liftedHead now p u with drive := 0 } := by
  obtain ⟨cause, request, timeout, drive, range, up, down⟩ := ok
  have silent (other : u.state ≠ .engaged) : { u with drive := 0 } = u := by
    have zero : u.drive = 0 := by
      by_contra some
      exact other (drive (Nat.pos_of_ne_zero some))
    rw [← zero]
  unfold HeadUnit.lift liftedHead
  cases state : u.state with
  | lowering =>
    have none_requested : u.lowerRequest = false := by simpa [state] using request
    dsimp only
    rw [HeadUnit.beginLift_of_lowering (up (.inr state)) none_requested]
  | engaged =>
    dsimp only
    rw [HeadUnit.beginLift_landed (down (.inl state))]
    rfl
  | lifting =>
    dsimp only
    rw [← silent (by rw [state]; decide)]
  | lifted => exact (silent (by rw [state]; decide)).symm
  | faulted => exact (silent (by rw [state]; decide)).symm
  | offline => exact (silent (by rw [state]; decide)).symm

theorem liftedHead_lowered (now : Nat) (p : HeadParams) (u : HeadUnit) : (liftedHead now p u).state.lowered = false := by
  unfold liftedHead
  cases state : u.state <;> simp [state, HeadState.lowered]

theorem liftSet_head (s : State) (h : HeadId) :
    (liftSet s).heads.get h = if s.headInUse h then (s.heads.get h).lift s.now (s.params h) else s.heads.get h :=
  PerHead.get_mapH _ _ _

/-- A head of the set after a lift command to the set. -/
theorem liftSet_head_of_band {s : State} {d : Descriptor} (band : s.band = some d) {h : HeadId} (ok : (s.heads.get h).ok)
    (inSet : d.heads.get h = true) :
    (liftSet s).heads.get h = { liftedHead s.now (s.params h) (s.heads.get h) with drive := 0 } := by
  rw [liftSet_head, headInUse_of_band band, if_pos inSet, ok.lift_eq]

/-! ### The entry to ENDING and the test whether the heads are at rest -/

theorem setAtRest_of_band {s : State} {d : Descriptor} (band : s.band = some d) : s.setAtRest = d.atRest s := by
  unfold State.setAtRest Descriptor.atRest
  refine congrArg _ (funext fun h => ?_)
  rw [headInUse_of_band band]

theorem toEnding_record (o : BandOutcome) (c : Option EndCause) (f : Option HeadId) {x : State} {i : Fin 64}
    (slot : x.engine.slot = some i) :
    (toEnding o c f x).jobs[i].record = x.jobs[i].record.withOutcome o c f := by
  rw [toEnding_job, modRecord_job, if_pos slot]

theorem enterEnded_record (e : EventKind) {x : State} {i : Fin 64} (slot : x.engine.slot = some i) :
    (enterEnded e x).jobs[i].record = x.jobs[i].record.endRun := by
  rw [enterEnded_job, modRecord_job, if_pos slot]

/-- The current band, in slot `i` with descriptor `d`, has entered ENDING from `x` with outcome `o`, cause `c` and faulted
head `f`, and has ended at once if its heads were at rest. -/
structure Finished (o : BandOutcome) (c : Option EndCause) (f : Option HeadId) (i : Fin 64) (d : Descriptor) (x t : State) :
    Prop where
  cause : t.jobs[i].record.cause = c
  faultedHead : t.jobs[i].record.faultedHead = f
  nextRing : t.jobs[i].record.nextRing = x.jobs[i].record.nextRing
  ringsCut : t.jobs[i].record.ringsCut = x.jobs[i].record.ringsCut
  partialRing : t.jobs[i].record.partialRing = x.jobs[i].record.partialRing
  heads : t.heads = (liftSet x).heads
  cells : t.cells = x.cells
  staging : t.staging = x.staging ∨ t.staging = Staging.reset
  engine : { t.engine with state := .ending, ring := none } =
    { x.engine with
      state := .ending, ring := none, target := none, revPos := none, pause := false, stopAtSeam := none, hold := none }
  grid : t.grid = (stopGrid x).grid
  outcome : if d.atRest t then
      t.engine.state = .ended ∧ t.jobs[i].record.phase = o.phase ∧ t.jobs[i].record.outcome = none ∧
        PendingAll .bandEnded t
    else
      t.engine.state = .ending ∧ t.jobs[i].record.phase = x.jobs[i].record.phase ∧ t.jobs[i].record.outcome = some o

theorem toEnding_heads (o : BandOutcome) (c : Option EndCause) (f : Option HeadId) (x : State) :
    (toEnding o c f x).heads = (liftSet x).heads := by
  refine PerHead.ext_get fun h => ?_
  have lifted : (toEnding o c f x).heads.get h = (liftSet (modRecord (StatusRecord.withOutcome o c f) x)).heads.get h := rfl
  have tally : (modRecord (StatusRecord.withOutcome o c f) x).headInUse = x.headInUse :=
    State.headInUse_of_engine (by simp) (by simp) fun k => modRecord_desc _ x k
  rw [lifted, liftSet_head, liftSet_head, tally]
  simp [State.params]

theorem toEnding_grid (o : BandOutcome) (c : Option EndCause) (f : Option HeadId) (x : State) :
    (toEnding o c f x).grid = (stopGrid x).grid := by
  simp [toEnding, stopGrid]

theorem enterEnded_engine (e : EventKind) (x : State) :
    (enterEnded e x).engine = { x.engine with state := .ended, ring := none } := by
  simp [enterEnded]

theorem finished {o : BandOutcome} {c : Option EndCause} {f : Option HeadId} {i : Fin 64} {d : Descriptor} {x : State}
    (band : x.band = some d) (slot : x.engine.slot = some i) (current : x.engine.state.isCurrent = true) :
    Finished o c f i d x (leaveEndingPlain (toEnding o c f x)) := by
  have record := toEnding_record o c f slot
  have slot' : (toEnding o c f x).engine.slot = some i := by rw [toEnding_engine]; exact slot
  have ending : (toEnding o c f x).engine.state = .ending := by rw [toEnding_engine]
  have band' : (toEnding o c f x).band = some d := (toEnding_band o c f current).trans band
  have rest := setAtRest_of_band band'
  unfold leaveEndingPlain
  cases atRest : d.atRest (toEnding o c f x) with
  | true =>
    have ended := (enterEnded_record .bandEnded slot').trans (congrArg StatusRecord.endRun record)
    have still : d.atRest (enterEnded .bandEnded (toEnding o c f x)) = true := by
      unfold Descriptor.atRest
      rw [(enterEnded_keeps _ _).2.2.2.2.1]
      exact atRest
    rw [if_pos ⟨ending, rest.trans atRest⟩]
    refine ⟨by rw [ended]; rfl, by rw [ended]; rfl, by rw [ended]; rfl, by rw [ended]; rfl, by rw [ended]; rfl, ?_, ?_, ?_, ?_, ?_, ?_⟩
    · rw [(enterEnded_keeps _ _).2.2.2.2.1, toEnding_heads]
    · rw [(enterEnded_keeps _ _).2.2.2.1]
      simp
    · exact .inr (enterEnded_staging _ _)
    · rw [enterEnded_engine, toEnding_engine]
    · rw [enterEnded_grid, toEnding_grid]
    · rw [if_pos still, ended]
      exact ⟨rfl, rfl, rfl, postAll_pendingAll _ _⟩
  | false =>
    rw [if_neg fun both => by rw [rest, atRest] at both; cases both.2]
    refine ⟨by rw [record]; rfl, by rw [record]; rfl, by rw [record]; rfl, by rw [record]; rfl, by rw [record]; rfl,
      toEnding_heads o c f x, by simp, .inl (by simp), by rw [toEnding_engine], ?_, ?_⟩
    · rw [toEnding_grid]
    · rw [if_neg (by rw [atRest]; decide), record]
      exact ⟨ending, rfl, rfl⟩

/-! ### Aborts and stops (R34, R89, R114, R140, R143) -/

theorem markPartial_record {s : State} {i : Fin 64} (slot : s.engine.slot = some i) :
    (markPartial s).jobs[i].record =
      if s.engine.revPos = some .cut then
        { s.jobs[i].record with partialRing := some s.jobs[i].record.nextRing }
      else s.jobs[i].record := by
  unfold markPartial
  split
  · rw [modRecord_job, if_pos slot]
  · rfl

theorem preAbort_band (s : State) : (preAbort s).band = s.band :=
  (SameBand.of_eq (s := markPartial s) (by simp [preAbort]) (by simp [preAbort])).band.trans (markPartial_same s).band

theorem preAbort_engine (s : State) : (preAbort s).engine = s.engine := by simp [preAbort]

theorem HeadStaging.cuttingRing_freeCutting (t : HeadStaging) : (t.mapSlots RingSlot.freeCutting).cuttingRing = none := by
  unfold HeadStaging.cuttingRing HeadStaging.mapSlots
  cases t.slotA <;> cases t.slotB <;> rfl

theorem preAbort_cuttingRing {s : State} {h : HeadId} (used : s.headInUse h = true) :
    ((preAbort s).staging.heads.get h).cuttingRing = none := by
  have inUse : (silenceSet (markPartial s)).headInUse h = true := by
    rw [(silenceSet_same _).headInUse, (markPartial_same s).headInUse]
    exact used
  rw [preAbort, dropRing_head, if_pos inUse]
  exact HeadStaging.cuttingRing_freeCutting _

theorem preAbort_prepared {s : State} {h : HeadId} (used : s.headInUse h = true) :
    ((preAbort s).cells.get h).prepared = none := by
  have cells : (preAbort s).cells = (silenceSet (markPartial s)).cells := by simp [preAbort]
  rw [cells, silenceSet_cell, if_pos]
  rw [(markPartial_same s).headInUse]
  exact used

/-- The entry to ENDING by an abort, and the end of the band if its heads are at rest. -/
theorem abortEntry_aborted {c : EndCause} {f : Option HeadId} {i : Fin 64} {d : Descriptor} {s : State} (band : s.band = some d)
    (slot : s.engine.slot = some i) (runs : s.engine.state.abortable = true) (ok : HeadsOk s) :
    Aborted c f i d s (leaveEndingPlain (abortEntry c f s)) := by
  have band' : (preAbort s).band = some d := (preAbort_band s).trans band
  have engine' := preAbort_engine s
  have record : (preAbort s).jobs[i].record = (markPartial s).jobs[i].record := rfl
  have marked := record.trans (markPartial_record slot)
  have fin : Finished .aborted (some c) f i d (preAbort s) (leaveEndingPlain (abortEntry c f s)) :=
    finished band' (by rw [engine']; exact slot) (by rw [engine']; exact isCurrent_of_abortable runs)
  have engine := fin.engine
  have grid := fin.grid
  have outcome := fin.outcome
  refine ⟨fin.cause, fin.faultedHead, fin.nextRing.trans ?_, fin.ringsCut.trans ?_, fin.partialRing.trans ?_, fun h inSet => ?_,
    (congrArg Engine.slot engine).trans (by rw [engine']; exact slot), congrArg Engine.target engine,
    congrArg Engine.pause engine, congrArg Engine.stopAtSeam engine, congrArg Engine.revPos engine,
    congrArg Engine.hold engine, by rw [grid]; rfl, by rw [grid]; rfl, by rw [grid]; rfl, ?_⟩
  · rw [marked]
    split <;> rfl
  · rw [marked]
    split <;> rfl
  · rw [marked]
    split <;> rfl
  · have used : s.headInUse h = true := (headInUse_of_band band h).trans inSet
    have unit := (preAbort_headsStep s).head h
    rw [fin.heads, liftSet_head_of_band band' (unit.ok (ok h).1) inSet, fin.cells]
    refine ⟨rfl, preAbort_prepared used, liftedHead_lowered _ _ _, ?_⟩
    rcases fin.staging with same | reset
    · rw [same]
      exact preAbort_cuttingRing used
    · rw [reset, Staging.reset_head]
      rfl
  · have phase : (preAbort s).jobs[i].record.phase = s.jobs[i].record.phase := by
      rw [marked]
      split <;> rfl
    rw [phase] at outcome
    exact outcome

theorem Aborted.before {c : EndCause} {f : Option HeadId} {i : Fin 64} {d : Descriptor} {s s' t : State}
    (aborted : Aborted c f i d s' t) (pos : s'.engine.revPos = s.engine.revPos) (jobs : s'.jobs = s.jobs) :
    Aborted c f i d s t := by
  unfold Aborted at aborted ⊢
  rw [pos, jobs] at aborted
  exact aborted

theorem Stopped.before {c : EndCause} {i : Fin 64} {d : Descriptor} {s s' t : State} (stopped : Stopped c i d s' t)
    (jobs : s'.jobs = s.jobs) : Stopped c i d s t := by
  unfold Stopped at stopped ⊢
  rw [jobs] at stopped
  exact stopped

theorem abort_aborted {c : EndCause} {f : Option HeadId} {i : Fin 64} {d : Descriptor} {s : State} (band : s.band = some d)
    (slot : s.engine.slot = some i) (runs : s.engine.state.abortable = true) (ok : HeadsOk s) :
    Aborted c f i d s (abort c f s) := by
  have engine := postDueStall_engine s
  have jobs : (postDueStall s).jobs = s.jobs := by simp
  have same : SameBand s (postDueStall s) := .of_eq engine jobs
  have fine : HeadsOk (postDueStall s) := ok.step (.of_eq (by simp) (by simp)) (by simp)
  rw [abort_eq, if_pos runs]
  exact (abortEntry_aborted (same.band.trans band) (same.slot.trans slot) (same.abortable runs) fine).before (congrArg _ engine) jobs

theorem stopBand_stopped {c : StopCause} {i : Fin 64} {d : Descriptor} {s : State} (band : s.band = some d)
    (slot : s.engine.slot = some i) (runs : s.engine.state.abortable = true) (ok : HeadsOk s) :
    Stopped c.endCause i d s (stopBand c s) := by
  have fin : Finished .stopped (some c.endCause) none i d s (stopBand c s) :=
    finished band slot (isCurrent_of_abortable runs)
  have engine := fin.engine
  have grid := fin.grid
  refine ⟨fin.cause, fin.faultedHead, fin.nextRing, fin.partialRing, (congrArg Engine.slot engine).trans slot,
    congrArg Engine.target engine, congrArg Engine.pause engine, congrArg Engine.stopAtSeam engine,
    congrArg Engine.revPos engine, congrArg Engine.hold engine, by rw [grid]; rfl, by rw [grid]; rfl, by rw [grid]; rfl,
    fun h inSet => ?_, fin.outcome⟩
  rw [fin.heads, liftSet_head_of_band band (ok h).1 inSet]
  exact liftedHead_lowered _ _ _

/-! ### What comes after in the same step -/

/-- From `t` to `u` the blocks stand and every pending event stays pending: what supervision, the reply and the
transmitters leave of it. -/
structure After (t u : State) : Prop where
  same : SameBlocks t u
  pending : ∀ e, PendingAll e t → PendingAll e u

theorem After.settle (t : State) : After t (settle t) := ⟨rfl, fun _ pending => pending.settle⟩

theorem After.supervise (t : State) : After t (supervise t) := ⟨rfl, fun _ pending => pending⟩

theorem After.replied (l : LinkId) (kind : Byte) (body : List Byte) (t : State) :
    After t (transmitAll (reply l kind body t)) := by
  refine ⟨rfl, fun e pending => PendingAll.transmit fun k up => ?_⟩
  unfold reply at up ⊢
  rw [State.modLink_links, PerLink.get_set] at up ⊢
  by_cases is : k = l
  · rw [if_pos is] at up ⊢
    exact pending l up
  · rw [if_neg is] at up ⊢
    exact pending k up

theorem After.posted {t u : State} (same : SameBlocks t u) (posted : LinksPosted t u) : After t u :=
  ⟨same, fun _ pending => pending.posted posted⟩

theorem After.trans {t u v : State} (a : After t u) (b : After u v) : After t v :=
  ⟨b.same.trans a.same, fun e pending => b.pending e (a.pending e pending)⟩

theorem Descriptor.atRest_congr (d : Descriptor) {t u : State} (heads : u.heads = t.heads) : d.atRest u = d.atRest t := by
  unfold Descriptor.atRest
  rw [heads]

theorem Aborted.after {c : EndCause} {f : Option HeadId} {i : Fin 64} {d : Descriptor} {s t u : State}
    (aborted : Aborted c f i d s t) (after : After t u) : Aborted c f i d s u := by
  obtain ⟨same, pending⟩ := after
  unfold Aborted at aborted ⊢
  rw [same.jobs, same.engine, same.grid, same.heads, same.cells, same.staging, d.atRest_congr same.heads]
  obtain ⟨cause, head, next, cut, part, heads, slot, target, pause, stop, pos, hold, state, acc, boundaries, rest⟩ := aborted
  refine ⟨cause, head, next, cut, part, heads, slot, target, pause, stop, pos, hold, state, acc, boundaries, ?_⟩
  by_cases atRest : d.atRest t = true
  · rw [if_pos atRest] at rest ⊢
    obtain ⟨ended, phase, outcome, posted⟩ := rest
    exact ⟨ended, phase, outcome, pending _ posted⟩
  · rw [if_neg atRest] at rest ⊢
    exact rest

theorem Stopped.after {c : EndCause} {i : Fin 64} {d : Descriptor} {s t u : State} (stopped : Stopped c i d s t)
    (after : After t u) : Stopped c i d s u := by
  obtain ⟨same, pending⟩ := after
  unfold Stopped at stopped ⊢
  rw [same.jobs, same.engine, same.grid, same.heads, d.atRest_congr same.heads]
  obtain ⟨cause, head, next, part, slot, target, pause, stop, pos, hold, state, acc, boundaries, heads, rest⟩ := stopped
  refine ⟨cause, head, next, part, slot, target, pause, stop, pos, hold, state, acc, boundaries, heads, ?_⟩
  by_cases atRest : d.atRest t = true
  · rw [if_pos atRest] at rest ⊢
    obtain ⟨ended, phase, outcome, posted⟩ := rest
    exact ⟨ended, phase, outcome, pending _ posted⟩
  · rw [if_neg atRest] at rest ⊢
    exact rest

/-! ### Requests that move the engine (R150, R177) -/

/-- A reply goes to the line of an UP link at once, or waits for the frame in transmission. -/
theorem LinkUnit.transmit_reply {u : LinkUnit} {r : ReplyFrame} {line : Option TxFrame} (up : u.up = true)
    (sending : u.sending = line) :
    if line = none then
      ({ u with waitingReply := some r } : LinkUnit).transmit.sending = some (.reply r) ∧
        ({ u with waitingReply := some r } : LinkUnit).transmit.waitingReply = none
    else
      ({ u with waitingReply := some r } : LinkUnit).transmit.sending = line ∧
        ({ u with waitingReply := some r } : LinkUnit).transmit.waitingReply = some r := by
  cases sending
  unfold LinkUnit.transmit
  cases u.sending <;> simp [up]

theorem replied_of_stays {l : LinkId} {k : ReqKind} {body : List Byte} {s u : State} (ready : Ready l s)
    (stay : LinksStay (markTaken l s) u) : Replied l k body s (transmitAll (reply l k.code body u)) := by
  have mark : (markTaken l s).links.get l = { s.links.get l with replyPending := true } := by
    rw [markTaken, State.modLink_links, PerLink.get_set_self]
  have at_l : (transmitAll (reply l k.code body u)).links.get l =
      ({ u.links.get l with waitingReply := some ⟨replyKind k.code, body⟩ } : LinkUnit).transmit := by
    rw [transmitAll, State.withLinks_links, PerLink.get_mapL, reply, State.modLink_links, PerLink.get_set_self]
  have stays := mark ▸ stay l
  have pending : (u.links.get l).replyPending = true := stays.pending
  have up : (u.links.get l).up = true := stays.up.trans ready.2.1
  have sending : (u.links.get l).sending = (s.links.get l).sending := stays.sending
  unfold Replied
  rw [at_l]
  exact ⟨(LinkUnit.transmit_keeps _).2.1.trans pending, LinkUnit.transmit_reply up sending⟩

/-- A request that its block answers, leaving `u` with at most posts on the links, is replied to, and `u` stands. -/
theorem exec_replied {c : Instr} {l : LinkId} {k : ReqKind} {f : State → State × Answer} {s u : State} {a : Answer}
    (runs : exec c s = .next (serve l k f s)) (ready : Ready l s) (permitted : k.permitted l = true)
    (answers : f (markTaken l s) = (u, a)) (stay : LinksStay (markTaken l s) u) :
    ∃ t, exec c s = .next t ∧ Replied l k (a.result.bytes ++ everyReply k u ++ a.tail) s t ∧ After u t ∧ t.sup = u.sup ∧
      t.custody = u.custody := by
  refine ⟨_, runs.trans (congrArg _ (serve_ready ready)), ?_⟩
  rw [answer, if_pos permitted, answers]
  exact ⟨replied_of_stays ready stay, .replied l _ _ u, rfl, rfl⟩

/-- A request answered DONE whose moves supervision follows in the same step. -/
theorem exec_moved {c : Instr} {l : LinkId} {k : ReqKind} {f : State → State × Answer} {s u : State}
    (runs : exec c s = .next (serve l k f s)) (ready : Ready l s) (permitted : k.permitted l = true)
    (plain : ∀ x, everyReply k x = []) (answers : f (markTaken l s) = acceptMoving u) (moves : Moves (markTaken l s) u) :
    ∃ t, exec c s = .next t ∧ Replied l k [0#8] s t ∧ After u t ∧ (Supervised s → Supervised t) ∧ t.custody = s.custody := by
  obtain ⟨t, run, replied, after, sup, custody⟩ := exec_replied runs ready permitted answers
    (moves.sides.links.trans (.of_eq rfl))
  rw [plain] at replied
  refine ⟨t, run, replied, (After.supervise u).trans after, fun supervised => ?_, custody.trans moves.sides.custody⟩
  exact (supervise_supervised (moves.sides.quiet supervised.2)).of_links after.same sup

end Sys2Proof.Machine

end

section
/-! PROOFS. The stops and aborts of a running band: STOP_AT_SEAM and STOP_AT_ONCE (O40), the carriage's arrival (O42), reverse
rotation (O45) and the indexes that abort (O15). -/

namespace Sys2Proof.Machine

theorem PendingAll.moves {e : EventKind} {s t : State} (pending : PendingAll e s) (moves : Moves s t) : PendingAll e t :=
  pending.posted moves.sides.posted

/-- An abort taken at `x`, which differs from `s` in no part that the abort reads, and what follows it in the same step. -/
theorem abort_settled {c : EndCause} {f : Option HeadId} {i : Fin 64} {d : Descriptor} {s x : State} (band : x.band = some d)
    (slot : x.engine.slot = some i) (runs : x.engine.state.abortable = true) (ok : HeadsOk x)
    (pos : x.engine.revPos = s.engine.revPos) (jobs : x.jobs = s.jobs) : Aborted c f i d s (settle (abort c f x)) :=
  ((abort_aborted band slot runs ok).before pos jobs).after (.settle _)

/-! ### Requests that stop the band (R140) -/

theorem ringBeingCut_iff (s : State) : s.ringBeingCut = true ↔ s.engine.state = .cutting ∧ s.engine.revPos = some .cut := by
  simp [State.ringBeingCut]

theorem stopAtSeamWith_cutting (c : StopCause) {s : State} (cutting : s.ringBeingCut = true) :
    stopAtSeamWith c s =
      s.withEngine { s.engine with
        stopAtSeam := some (match s.engine.stopAtSeam with
          | some c => c
          | none => c) } := by
  rw [stopAtSeamWith, if_pos cutting]
  cases wait : s.engine.stopAtSeam <;> simp [State.modEngine, State.withEngine, wait]

theorem stopAtSeamWith_elsewhere (c : StopCause) {s : State} (seam : s.ringBeingCut = false) :
    stopAtSeamWith c s = stopBand c s := by
  rw [stopAtSeamWith, if_neg (Bool.eq_false_iff.mp seam)]

/-- Settles O40. -/
theorem stopRequestsEndTheBand : Obligations.StopRequestsEndTheBand := by
  refine fun s i d l band slot runs ok => ⟨fun ready cutting pos supervised => ?_, fun ready elsewhere => ?_, fun ready => ?_⟩
  · refine exec_done (f := stopAtSeam) rfl ready rfl rfl ?_
    have stops := stopAtSeamWith_cutting .operatorStop (s := markTaken .machine s)
      ((ringBeingCut_iff _).mpr ⟨cutting, pos⟩)
    unfold stopAtSeam acceptMoving
    rw [if_pos (by exact runs), stops, supervise_of_stands]
    · rfl
    · exact supervised.1
  · have seam : (markTaken .machine s).ringBeingCut = false :=
      Bool.eq_false_iff.mpr fun cut => elsewhere ((ringBeingCut_iff s).mp cut)
    have moves : Moves (markTaken .machine s) (stopBand .operatorStop (markTaken .machine s)) := stopBand_moves _ runs seam
    have answers : stopAtSeam (markTaken .machine s) = acceptMoving (stopBand .operatorStop (markTaken .machine s)) := by
      unfold stopAtSeam
      rw [if_pos (by exact runs), stopAtSeamWith_elsewhere _ seam]
    obtain ⟨t, run, replied, after, -⟩ := exec_moved (c := .stopAtSeam .machine) rfl ready rfl (fun _ => rfl) answers moves
    have stopped : Stopped StopCause.operatorStop.endCause i d (markTaken .machine s) _ := stopBand_stopped band slot runs ok
    exact ⟨t, run, replied, Stopped.after (Stopped.before stopped rfl) after⟩
  · have answers : stopAtOnce (markTaken l s) = acceptMoving (abort .operatorAbort none (markTaken l s)) := by
      unfold stopAtOnce
      rw [if_pos (by exact runs)]
    obtain ⟨t, run, replied, after, -⟩ := exec_moved (c := .stopAtOnce l) rfl ready rfl (fun _ => rfl) answers
      (abort_moves _ _ _)
    have aborted : Aborted .operatorAbort none i d (markTaken l s) _ := abort_aborted band slot runs ok
    exact ⟨t, run, replied, (aborted.before rfl rfl).after after⟩

/-! ### The carriage's arrival (R133) -/

theorem exec_line {c : Instr} {f : State → State} {s : State} (op : ∀ s, exec c s = .next (outsideReset (fun s => settle (f s)) s))
    (outside : s.inMasterReset = false) : exec c s = .next (settle (f s)) :=
  (op s).trans (congrArg _ (outsideReset_of_not_reset outside _))

/-- Settles O42. -/
theorem carriageArrivalIsJudged : Obligations.CarriageArrivalIsJudged := by
  refine fun s p outside supervised => ?_
  have run := exec_line (c := .carriageArrival p) (f := carriageArrival p) (fun _ => rfl) outside
  refine ⟨fun idle => ?_, fun i d x target band slot => ⟨fun near => ?_, fun far runs ok => ?_⟩⟩
  · have ignored : carriageArrival p s = s := by simp [carriageArrival, idle]
    rw [run, ignored, settle_of_stands supervised.1]
  · have accepted : carriageArrival p s =
        s.withEngine { s.engine with arrived := true, lastArrival := some p, target := none } := by
      unfold carriageArrival
      rw [target, band]
      exact if_pos near
    rw [run, accepted, settle_of_stands]
    exact stands_congr supervised.1 rfl (anyLowered_of_eq rfl (State.headInUse_of_engine rfl rfl fun _ => rfl))
  · have mismatch : carriageArrival p s = abort .positionMismatch none s := by
      unfold carriageArrival
      rw [target, band]
      exact if_neg (Nat.not_le.mpr far)
    rw [run, mismatch]
    exact ⟨_, rfl, abort_settled band slot runs ok rfl rfl⟩

/-! ### Reverse rotation (R155) -/

/-- A backward step over lowered heads. -/
theorem stepEvent_reverse {s : State} (active : s.sup.active = true) (a : Nat) : ∃ x, x.engine = s.engine ∧ x.jobs = s.jobs ∧
    x.heads = s.heads ∧ x.store = s.store ∧ x.cells = s.cells ∧
      stepEvent .reverse a s = abort .reverseRotation none (postAll .motionFault x) := by
  refine ⟨stepStall ((passTimeTo a s).modGrid fun g => { g with position := movePosition .reverse g.position }),
    rfl, rfl, rfl, rfl, rfl, ?_⟩
  unfold stepEvent
  dsimp only
  rw [if_pos active]
  rfl

/-- Settles O45. -/
theorem reverseRotationAborts : Obligations.ReverseRotationAborts := by
  intro s a i d outside active band slot runs ok
  obtain ⟨x, engine, jobs, heads, store, cells, reversed⟩ := stepEvent_reverse active a
  have run := exec_line (c := .stepEvent .reverse a) (f := stepEvent .reverse a) (fun _ => rfl) outside
  have fine : HeadsOk (postAll .motionFault x) := ok.step (.of_eq heads cells) (congrArg Store.params store)
  have quiet : (stepEvent .reverse a s).sup.Quiet :=
    (stepEvent_moves .reverse a s).sides.quiet fun idle => absurd (active.symm.trans idle) (by decide)
  refine ⟨_, run, ?_, ?_, stepEvent_position .reverse a s, settle_supervised quiet⟩
  · rw [reversed]
    have same : SameBand s (postAll .motionFault x) := .of_eq engine jobs
    exact abort_settled (same.band.trans band) (same.slot.trans slot) (same.abortable runs) fine (congrArg _ engine) jobs
  · rw [reversed]
    exact ((postAll_pendingAll .motionFault x).moves (abort_moves _ _ _)).settle

/-! ### The indexes that abort (R4, R134, R135) -/

/-- The grid, the time and the stall counter after an index taken at time `a` (R3, R8, R14). -/
def State.indexed (a : Nat) (s : State) : State :=
  (passTimeTo a s).modGrid (Grid.index (passTimeTo a s).now (presetFor s.nextRing s.stagger))

theorem indexEvent_eq (a : Nat) (s : State) : indexEvent a s =
    engineIndex (indexClass s.grid.reference s.grid.position)
      (if indexClass s.grid.reference s.grid.position = .slip ∧ s.ringBeingCut then postAll .motionFault (s.indexed a)
      else s.indexed a) := rfl

@[simp] theorem State.indexed_keeps (a : Nat) (s : State) :
    (s.indexed a).pins = s.pins ∧ (s.indexed a).cells = s.cells ∧ (s.indexed a).store = s.store ∧
      (s.indexed a).heads = s.heads ∧ (s.indexed a).jobs = s.jobs ∧ (s.indexed a).staging = s.staging ∧
      (s.indexed a).engine = s.engine ∧ (s.indexed a).custody = s.custody ∧ (s.indexed a).links = s.links :=
  ⟨rfl, rfl, rfl, rfl, rfl, rfl, rfl, rfl, rfl⟩

theorem State.indexed_band (a : Nat) (s : State) : (s.indexed a).band = s.band := rfl

theorem HeadsOk.indexed {s : State} (ok : HeadsOk s) (a : Nat) : HeadsOk (s.indexed a) :=
  ok.step (.of_eq rfl rfl) rfl

/-- An index that finds a position count of 9 to 1,048,567 since the last index is a SLIP (R3). -/
theorem indexClass_slip {p : Nat} (above : 9 ≤ p) (below : p ≤ 1048567) : indexClass .referenced p = .slip := by
  unfold indexClass
  dsimp only
  rw [if_neg]
  simp only [Config.trimWindow, Config.stepsPerRev]
  omega

theorem indexEvent_without_slip {s : State} (whole : s.ringBeingCut = false) (a : Nat) :
    indexEvent a s = engineIndex (indexClass s.grid.reference s.grid.position) (s.indexed a) := by
  rw [indexEvent_eq, if_neg]
  simp [whole]

theorem countLate_timedOut {s : State} (outstanding : s.engine.target.isSome = true) (late : s.engine.late = 2) :
    (countLate s).carriageTimedOut = true := by
  rw [countLate, if_pos outstanding]
  simp [State.carriageTimedOut, outstanding, late, Config.carriageLateLimit]

/-- The third index after a carriage request, with no ring being cut (R134). -/
theorem engineIndex_late {c : IndexClass} {s : State} {d : Descriptor} (band : s.band = some d)
    (runs : s.engine.state.abortable = true) (whole : s.ringBeingCut = false) (outstanding : s.engine.target.isSome = true)
    (late : s.engine.late = 2) : engineIndex c s = abort .carriageTimeout none (countLate s) := by
  have timedOut := countLate_timedOut outstanding late
  cases state : s.engine.state with
  | preparing => simp [engineIndex, band, state, preparingIndex, timedOut]
  | cutting => simp [engineIndex, band, state, cuttingIndex, timedOut, whole]
  | held => simp [engineIndex, band, state, heldIndex, timedOut]
  | idle => rw [state] at runs; cases runs
  | armed => rw [state] at runs; cases runs
  | ending => rw [state] at runs; cases runs
  | ended => rw [state] at runs; cases runs

/-- Settles O15. -/
theorem indexesThatAbort : Obligations.IndexesThatAbort := by
  intro s a d i outside band slot ok
  have run := exec_line (c := .indexEvent a) (f := indexEvent a) (fun _ => rfl) outside
  refine ⟨fun cutting pos referenced above below => ?_, fun runs outstanding late seam => ?_⟩
  · have slips : indexEvent a s = abort .indexSlip none (postAll .motionFault (s.indexed a)) := by
      have cut : s.ringBeingCut = true := (ringBeingCut_iff s).mpr ⟨cutting, pos⟩
      have still : (postAll .motionFault (s.indexed a)).ringBeingCut = true := cut
      have state : (postAll .motionFault (s.indexed a)).engine.state = .cutting := cutting
      have current : (postAll .motionFault (s.indexed a)).band = some d := band
      rw [indexEvent_eq, referenced, indexClass_slip above below, if_pos ⟨rfl, cut⟩]
      simp only [engineIndex, current, state, cuttingIndex, still, and_self, if_true]
    have fine : HeadsOk (postAll .motionFault (s.indexed a)) := (ok.indexed a).aside rfl
    have runs : s.engine.state.abortable = true := by rw [cutting]; rfl
    rw [run, slips]
    refine ⟨_, rfl, abort_settled band slot runs fine rfl rfl, ?_⟩
    exact ((postAll_pendingAll .motionFault _).moves (abort_moves _ _ _)).settle
  · have whole : s.ringBeingCut = false := Bool.eq_false_iff.mpr fun cut => seam ((ringBeingCut_iff s).mp cut).2
    have times : indexEvent a s = abort .carriageTimeout none (countLate (s.indexed a)) :=
      (indexEvent_without_slip whole a).trans (engineIndex_late band runs whole outstanding late)
    have engine := countLate_engine (s.indexed a)
    rw [run, times]
    refine ⟨_, rfl, abort_settled ((countLate_band _).trans band) ?_ ?_ ?_ ?_ (by simp)⟩
    · rw [engine]
      exact slot
    · rw [engine]
      exact runs
    · exact (ok.indexed a).step (.of_eq (by simp) (by simp)) (by simp)
    · rw [engine]
      rfl

end Sys2Proof.Machine

end

section
/-! PROOFS. The stall thresholds (O44), SET_STALL_LIMIT (O43), the entry to PREPARING (O38) and PAUSE_BAND (O39). -/

namespace Sys2Proof.Machine

/-! ### The stall counter (R151 to R153) -/

theorem passTime_running {dt : Nat} {s : State} (active : s.sup.active = true) (short : s.sup.stall + dt ≤ Config.maxStall) :
    passTime dt s = (s.withNow (s.now + dt)).withSup { s.sup with stall := s.sup.stall + dt } := by
  simp only [passTime, State.modSup, State.withNow_sup, active, if_true, Nat.min_eq_right short]

theorem warn_le_fault (limit : Nat) : warnThreshold limit ≤ faultThreshold limit := by
  unfold warnThreshold faultThreshold
  omega

theorem checkWarn_due {s : State} (active : s.sup.active = true) (armed : s.sup.warnArmed = true)
    (due : warnThreshold s.sup.limit ≤ s.sup.stall) :
    checkWarn s = (postAll .stallWarn s).withSup { s.sup with warnArmed := false } := by
  rw [checkWarn, if_pos ⟨active, armed, due⟩]
  rfl

theorem checkWarn_idle {s : State} (idle : s.sup.active = false ∨ s.sup.warnArmed = false ∨ s.sup.stall < warnThreshold s.sup.limit) :
    checkWarn s = s := by
  rw [checkWarn, if_neg]
  rintro ⟨active, armed, due⟩
  rcases idle with off | spent | early
  · rw [active] at off; cases off
  · rw [armed] at spent; cases spent
  · omega

theorem checkWarn_limit (s : State) : (checkWarn s).sup.limit = s.sup.limit ∧ (checkWarn s).sup.stall = s.sup.stall ∧
    (checkWarn s).sup.active = s.sup.active := by
  unfold checkWarn
  split <;> exact ⟨rfl, rfl, rfl⟩

theorem checkStall_idle {s : State} (idle : s.sup.active = false ∨ s.sup.stall < faultThreshold s.sup.limit) : checkStall s = s := by
  rw [checkStall, if_neg]
  rintro ⟨active, due⟩
  rcases idle with off | early
  · rw [active] at off; cases off
  · omega

/-- What the two checks of a stall counter at the fault threshold come to (R152, R153; log entry 12). -/
theorem checks_due {s : State} (active : s.sup.active = true) (due : faultThreshold s.sup.limit ≤ s.sup.stall) :
    checkStall (checkWarn s) = abort .motionStall none (postAll .motionFault (checkWarn s)) := by
  obtain ⟨limit, stall, same⟩ := checkWarn_limit s
  rw [checkStall, limit, stall, same, if_pos ⟨active, due⟩]
  rfl

theorem checks_pending {s : State} (active : s.sup.active = true) (due : faultThreshold s.sup.limit ≤ s.sup.stall) :
    PendingAll .motionFault (checkStall (checkWarn s)) ∧
      (s.sup.warnArmed = true → PendingAll .stallWarn (checkStall (checkWarn s))) := by
  rw [checks_due active due]
  refine ⟨(postAll_pendingAll _ _).moves (abort_moves _ _ _), fun armed => ?_⟩
  have warned : PendingAll .stallWarn (checkWarn s) := by
    rw [checkWarn_due active armed ((warn_le_fault _).trans due)]
    exact postAll_pendingAll .stallWarn s
  exact (warned.posted (postAll_posted _ _)).moves (abort_moves _ _ _)

theorem checks_aborted {i : Fin 64} {d : Descriptor} {s : State} (active : s.sup.active = true)
    (due : faultThreshold s.sup.limit ≤ s.sup.stall) (band : s.band = some d) (slot : s.engine.slot = some i)
    (runs : s.engine.state.abortable = true) (ok : HeadsOk s) : Aborted .motionStall none i d s (checkStall (checkWarn s)) := by
  obtain ⟨engine, jobs⟩ := checkWarn_band s
  have same : SameBand s (postAll .motionFault (checkWarn s)) := .of_eq engine jobs
  have fine : HeadsOk (postAll .motionFault (checkWarn s)) := ok.step (.of_eq (by simp) (by simp)) (by simp)
  rw [checks_due active due]
  exact (abort_aborted (same.band.trans band) (same.slot.trans slot) (same.abortable runs) fine).before
    (congrArg Engine.revPos engine) jobs

/-- Settles O44. -/
theorem stallThresholds : Obligations.StallThresholds := by
  intro s outside supervised least most
  have runWarn := exec_line (c := .stallWarn) (f := stallWarn) (fun _ => rfl) outside
  have runStall := exec_line (c := .motionStall) (f := motionStall) (fun _ => rfl) outside
  have half : warnThreshold s.sup.limit ≤ Config.maxStall := by
    unfold warnThreshold Config.maxStall
    omega
  refine ⟨fun active armed below => ?_, fun idle => ?_, fun off => ?_, fun i d active ok band slot runs => ?_⟩
  · have reach : s.sup.stall + (warnThreshold s.sup.limit - s.sup.stall) = warnThreshold s.sup.limit :=
      Nat.add_sub_cancel' below
    have warned : stallWarn s = postAll .stallWarn
        ((s.withNow (s.now + (s.sup.limit / 2 * 1000 - s.sup.stall))).withSup
          { s.sup with stall := s.sup.limit / 2 * 1000, warnArmed := false }) := by
      rw [stallWarn, if_pos ⟨active, armed⟩, passTime_running active (by rw [reach]; exact half), reach]
      exact checkWarn_due active armed (le_refl _)
    rw [runWarn, warned, settle_of_stands]
    exact supervised.1
  · have ignored : stallWarn s = s := by
      rw [stallWarn, if_neg]
      rintro ⟨active, armed⟩
      simp [active, armed] at idle
    rw [runWarn, ignored, settle_of_stands supervised.1]
  · have ignored : motionStall s = s := by simp [motionStall, off]
    rw [runStall, ignored, settle_of_stands supervised.1]
  · have reached : motionStall s = checkStall (checkWarn (passTime (faultThreshold s.sup.limit - s.sup.stall) s)) := by
      rw [motionStall, if_pos active]
    generalize later : passTime (faultThreshold s.sup.limit - s.sup.stall) s = x at reached
    have stillActive : x.sup.active = true := by
      rw [← later]
      exact (passTime_active _ s).trans active
    have due : faultThreshold x.sup.limit ≤ x.sup.stall := by
      have full : faultThreshold s.sup.limit ≤ Config.maxStall := by
        unfold faultThreshold Config.maxStall
        omega
      rw [← later]
      simp only [passTime, State.modSup, State.withNow_sup, active, if_true, State.withSup_sup]
      omega
    have same : x.engine = s.engine ∧ x.jobs = s.jobs := by
      rw [← later]
      exact ⟨rfl, rfl⟩
    have sameBand : SameBand s x := .of_eq same.1 same.2
    have fine : HeadsOk x := by
      rw [← later]
      exact ok.step (.of_eq rfl rfl) rfl
    have aborted : Aborted .motionStall none i d x (checkStall (checkWarn x)) :=
      checks_aborted stillActive due (sameBand.band.trans band) (sameBand.slot.trans slot) (sameBand.abortable runs) fine
    obtain ⟨fault, warn⟩ := checks_pending stillActive due
    have warnArmed : s.sup.warnArmed = true → x.sup.warnArmed = true := fun armed => by
      rw [← later]
      simp [passTime, active, armed]
    have now : (settle (checkStall (checkWarn x))).now = s.now + (s.sup.limit * 1000 - s.sup.stall) := by
      have kept : (settle (checkStall (checkWarn x))).now = x.now := by simp
      rw [kept, ← later]
      rfl
    have quiet : (motionStall s).sup.Quiet :=
      (motionStall_moves s).sides.quiet fun idle => absurd (active.symm.trans idle) (by decide)
    rw [runStall, reached]
    rw [reached] at quiet
    exact ⟨_, rfl, (aborted.before (congrArg Engine.revPos same.1) same.2).after (.settle _), fault.settle,
      fun armed => (warn (warnArmed armed)).settle, now, settle_supervised quiet⟩

/-! ### The stall limit (R154) -/

theorem postAll_markTaken (l : LinkId) (e : EventKind) (s : State) : postAll e (markTaken l s) = markTaken l (postAll e s) := by
  have links : (postAll e (markTaken l s)).links = (markTaken l (postAll e s)).links := by
    refine PerLink.ext_get fun k => ?_
    simp only [postAll, markTaken, State.withLinks_links, State.modLink_links, PerLink.get_mapL, PerLink.get_set]
    split
    · exact LinkUnit.post_replyPending e _ true
    · rfl
  exact congrArg (s.withLinks ·) links

theorem supervise_limit (s : State) : (supervise s).sup.limit = s.sup.limit := by
  unfold supervise
  rw [State.modSup_sup]
  split <;> rfl

theorem checkStall_limit (s : State) : (checkStall s).sup.limit = s.sup.limit := by
  unfold checkStall motionFault
  split <;> simp

theorem clampLimit_eq (v : Nat) : clampLimit v = if v < 5 then 5 else if 2000 < v then 2000 else v := by
  unfold clampLimit
  split
  · omega
  · split <;> omega

section
variable {ms : BitVec 16} {s : State}

/-- The state with the limit in force, clamped, before the counter is compared with it. -/
def withLimit (v : Nat) (s : State) : State := s.modSup fun u => { u with limit := clampLimit v }

/-- The answer's result: DONE for a limit taken as it is, ADJUSTED for one clamped. -/
def limitResult (v : Nat) : Result := if clampLimit v = v then .done else .adjusted

theorem limitResult_bytes (v : Nat) : (limitResult v).plain.result.bytes = [if clampLimit v = v then 0#8 else 1#8] := by
  unfold limitResult
  split <;> rfl

theorem setStallLimit_same {v : Nat} (same : clampLimit v = v ∧ v = s.sup.limit) :
    setStallLimit (some v) s = (s, (limitResult v).plain) := if_pos same

theorem setStallLimit_changed {v : Nat} (changed : ¬(clampLimit v = v ∧ v = s.sup.limit)) :
    setStallLimit (some v) s = (supervise (checkStall (checkWarn (withLimit v s))), (limitResult v).plain) := if_neg changed

theorem setStallLimit_inactive {v : Nat} (off : s.sup.active = false) (supervised : Supervised s) :
    setStallLimit (some v) s = (withLimit v s, (limitResult v).plain) := by
  by_cases same : clampLimit v = v ∧ v = s.sup.limit
  · have idle : withLimit v s = s := by
      rw [withLimit, State.modSup, same.1, same.2]
      rfl
    rw [setStallLimit_same same, idle]
  · have stands : (withLimit v s).sup.active = (withLimit v s).anyLowered := supervised.1
    rw [setStallLimit_changed same, checkWarn_idle (s := withLimit v s) (.inl off),
      checkStall_idle (s := withLimit v s) (.inl off), supervise_of_stands stands]

/-- The limit lowered or raised over a counter that stays below the fault threshold: at most the warning is given. -/
theorem setStallLimit_below {v : Nat} (changed : ¬(clampLimit v = v ∧ v = s.sup.limit))
    (below : s.sup.stall < faultThreshold (clampLimit v)) (supervised : Supervised s) :
    setStallLimit (some v) s = (checkWarn (withLimit v s), (limitResult v).plain) := by
  obtain ⟨limit, stall, same⟩ := checkWarn_limit (withLimit v s)
  obtain ⟨engine, jobs⟩ := checkWarn_band (withLimit v s)
  have early : (checkWarn (withLimit v s)).sup.stall < faultThreshold (checkWarn (withLimit v s)).sup.limit := by
    rw [stall, limit]
    exact below
  have stands : (checkWarn (withLimit v s)).sup.active = (checkWarn (withLimit v s)).anyLowered := by
    rw [same, anyLowered_of_eq (s := s) (by simp [withLimit]) (SameBand.of_eq engine jobs).headInUse]
    exact supervised.1
  rw [setStallLimit_changed changed, checkStall_idle (.inr early), supervise_of_stands stands]

theorem exec_setStallLimit {x : State} (ready : Ready .machine s)
    (answers : setStallLimit (some ms.toNat) (markTaken .machine s) = (markTaken .machine x, (limitResult ms.toNat).plain))
    (limit : x.sup.limit = clampLimit ms.toNat) :
    exec (.setStallLimit .machine ms) s = .next (x.answered .machine .setStallLimit
      ((if clampLimit ms.toNat = ms.toNat then 0#8 else 1#8) :: be2 (clampLimit ms.toNat))) := by
  refine (congrArg Host.Outcome.next (serve_answered (k := .setStallLimit) ready rfl answers)).trans ?_
  rw [limitResult_bytes]
  simp only [everyReply, limit, Result.plain, List.append_nil, List.singleton_append]

end

/-- Settles O43. -/
theorem setStallLimitClampsAndCompares : Obligations.SetStallLimitClampsAndCompares := by
  intro ms s ready supervised
  dsimp only
  rw [← clampLimit_eq]
  have moved (changed : clampLimit ms.toNat ≠ ms.toNat ∨ clampLimit ms.toNat ≠ s.sup.limit) :
      ¬(clampLimit ms.toNat = ms.toNat ∧ ms.toNat = s.sup.limit) := fun ⟨kept, inForce⟩ =>
    changed.elim (fun clamped => clamped kept) fun other => other (kept.trans inForce)
  refine ⟨fun kept inForce => ?_, fun off => ?_, fun active changed => ⟨fun below => ?_, fun due ok i d band slot runs => ?_⟩⟩
  · exact exec_setStallLimit ready (setStallLimit_same (s := markTaken .machine s) ⟨kept, kept.symm.trans inForce⟩) inForce.symm
  · exact exec_setStallLimit (x := withLimit ms.toNat s) ready
      (setStallLimit_inactive (s := markTaken .machine s) off (supervised.of_links rfl rfl)) rfl
  · have answers := setStallLimit_below (s := markTaken .machine s) (moved changed) below (supervised.of_links rfl rfl)
    by_cases warns : s.sup.warnArmed = true ∧ clampLimit ms.toNat / 2 * 1000 ≤ s.sup.stall
    · simp only [if_pos warns]
      rw [checkWarn_due (s := withLimit ms.toNat (markTaken .machine s)) active warns.1 warns.2] at answers
      refine exec_setStallLimit ready (answers.trans (congrArg (·, _) ?_)) rfl
      exact postAll_markTaken .machine .stallWarn
        (s.withSup { s.sup with limit := clampLimit ms.toNat, warnArmed := false })
    · simp only [if_neg warns]
      rw [checkWarn_idle] at answers
      · exact exec_setStallLimit (x := withLimit ms.toNat s) ready answers rfl
      · cases armed : s.sup.warnArmed with
        | false => exact .inr (.inl armed)
        | true => exact .inr (.inr (Nat.not_le.mp fun reached => warns ⟨armed, reached⟩))
  · have limitMove : Move (markTaken .machine s) (withLimit ms.toNat (markTaken .machine s)) := .sup fun quiet => quiet
    have moves : Moves (markTaken .machine s) _ := limitMove.moves.trans ((checkWarn_moves _).trans (checkStall_moves _))
    obtain ⟨t, run, replied, after, sup, -⟩ := exec_replied (c := .setStallLimit .machine ms) rfl ready rfl
      (setStallLimit_changed (s := markTaken .machine s) (moved changed)) (moves.sides.links.trans (.of_eq rfl))
    have limit : (supervise (checkStall (checkWarn (withLimit ms.toNat (markTaken .machine s))))).sup.limit =
        clampLimit ms.toNat := by
      rw [supervise_limit, checkStall_limit, (checkWarn_limit _).1]
      rfl
    have aborted : Aborted .motionStall none i d (withLimit ms.toNat (markTaken .machine s)) _ :=
      checks_aborted active due band slot runs (ok.step (.of_eq rfl rfl) rfl)
    obtain ⟨fault, warn⟩ := checks_pending (s := withLimit ms.toNat (markTaken .machine s)) active due
    have follows := (After.supervise _).trans after
    refine ⟨t, run, ?_, (aborted.before rfl rfl).after follows, sup ▸ limit, follows.pending _ fault,
      fun armed => follows.pending _ (warn armed)⟩
    rw [limitResult_bytes] at replied
    simpa only [everyReply, limit, Result.plain, List.append_nil, List.singleton_append] using replied

end Sys2Proof.Machine

end

section
/-! PROOFS. The machine link's requests to the engine: the entry to PREPARING (O38), PAUSE_BAND (O39), DISARM (O37) and
ARM_BAND (O36). -/

namespace Sys2Proof.Machine

/-! ### The lowest FAULTED head (R130) -/

theorem lowestFaulted_eq {s : State} {h : HeadId} (used : s.headInUse h = true) (faulted : (s.heads.get h).state = .faulted)
    (below : ∀ k : HeadId, k.num < h.num → s.headInUse k = true → (s.heads.get k).state ≠ .faulted) :
    s.lowestFaulted = some h := by
  refine List.find?_eq_some_iff_append.mpr
    ⟨by simp [used, faulted], HeadId.all.take h.num, HeadId.all.drop (h.num + 1), by cases h <;> rfl, fun k mem => ?_⟩
  have lower : k.num < h.num := by
    revert mem
    cases h <;> cases k <;> decide
  cases inUse : s.headInUse k with
  | false => rfl
  | true => simp [below k lower inUse]

theorem lowestFaulted_eq_none {s : State} (sound : ∀ h, s.headInUse h = true → (s.heads.get h).state ≠ .faulted) :
    s.lowestFaulted = none := by
  refine List.find?_eq_none.mpr fun h _ => ?_
  cases inUse : s.headInUse h with
  | false => simp
  | true => simp [sound h inUse]

theorem HeadCause.endCause_eq (c : Option HeadCause) :
    HeadCause.endCause c = if c = some .landTimeout then .landTimeout else .headFault := by
  rcases c with - | c
  · rfl
  · cases c <;> rfl

/-! ### The entry actions (R130) -/

/-- The part as it enters PREPARING, before the checks: by START_BAND with the grid AWAITING_INDEX, by RESUME_BAND with the
grid as it is. -/
def entering (start : Bool) (s : State) : State :=
  (if start then awaitIndex s else s).modEngine fun g => { g with state := .preparing, hold := none }

theorem entering_same {start : Bool} {s : State} (from_ : s.engine.state = if start then .armed else .held) :
    SameBand s (entering start s) := by
  cases start with
  | true => exact .started from_
  | false => exact .resumed from_

theorem entering_keeps (start : Bool) (s : State) :
    (entering start s).heads = s.heads ∧ (entering start s).cells = s.cells ∧ (entering start s).store = s.store ∧
      (entering start s).jobs = s.jobs ∧ (entering start s).staging = s.staging ∧ (entering start s).now = s.now := by
  cases start <;> exact ⟨rfl, rfl, rfl, rfl, rfl, rfl⟩

theorem entering_engine (start : Bool) (s : State) :
    (entering start s).engine = { s.engine with state := .preparing, hold := none } := by
  cases start <;> rfl

theorem entering_grid (start : Bool) (s : State) : (entering start s).grid =
    if start then { s.grid with state := .awaitingIndex, acc := 0, boundaries := 0 } else s.grid := by
  cases start <;> rfl

/-- The block's answer outside a taken cut-abort line. -/
def entered (start : Bool) (s : State) : State := enterPreparing false (if start then awaitIndex s else s)

theorem entered_faulted {start : Bool} {s : State} {h : HeadId} (lowest : (entering start s).lowestFaulted = some h) :
    entered start s = abort (HeadCause.endCause (s.heads.get h).cause) (some h) (entering start s) := by
  unfold entering at lowest ⊢
  unfold entered enterPreparing
  simp only [Bool.false_and, Bool.false_eq_true, if_false, lowest]
  cases start <;> rfl

theorem entered_sound {start : Bool} {s : State} {d : Descriptor} (lowest : (entering start s).lowestFaulted = none)
    (band : (entering start s).band = some d) : entered start s = prepareActions d (entering start s) := by
  unfold entering at lowest band ⊢
  unfold entered enterPreparing
  simp only [Bool.false_and, Bool.false_eq_true, if_false, lowest, band]

theorem HeadUnit.lower_eq (now : Nat) (p : HeadParams) (u : HeadUnit) : u.lower now p = loweredHead now p u := by
  unfold HeadUnit.lower loweredHead
  cases u.state <;> rfl

/-- The part before its carriage is placed, once it has entered PREPARING. -/
def lowered (d : Descriptor) (s : State) : State :=
  (if d.kind = .dryPass then s else lowerSet s).modEngine fun g =>
    { g with settleRun := 0, speedDev := 0, settleCount := if d.kind = .dryPass then some 0 else none }

theorem prepareActions_eq (d : Descriptor) (s : State) : prepareActions d s = placeCarriage d (lowered d s) := rfl

theorem lowered_engine (d : Descriptor) (s : State) : (lowered d s).engine =
    { s.engine with settleRun := 0, speedDev := 0, settleCount := if d.kind = .dryPass then some 0 else none } := by
  unfold lowered
  split <;> rfl

theorem lowered_nextRing (d : Descriptor) (s : State) : (lowered d s).nextRing = s.nextRing := by
  unfold lowered
  split <;> rfl

theorem lowered_heads {d : Descriptor} {s : State} (band : s.band = some d) : (lowered d s).heads =
    if d.kind = .dryPass then s.heads
    else s.heads.mapH fun h u => if d.heads.get h then loweredHead s.now (s.params h) u else u := by
  unfold lowered
  split
  · rfl
  · refine PerHead.ext_get fun h => ?_
    simp only [State.modEngine_heads, lowerSet, State.withHeads_heads, PerHead.get_mapH, headInUse_of_band band,
      HeadUnit.lower_eq]

theorem requestCarriage_none {d : Descriptor} {s : State} (idle : s.engine.target = none) :
    (requestCarriage d s).engine =
      { s.engine with target := some (d.x0 + s.nextRing * d.pitch), arrived := false, late := 0 } := by
  simp only [requestCarriage, idle]
  rfl

theorem placeCarriage_outstanding {d : Descriptor} {s : State} {x : Nat} (target : s.engine.target = some x) :
    placeCarriage d s = s := by
  simp only [placeCarriage, target]

theorem placeCarriage_there {d : Descriptor} {s : State} {p : Nat} (idle : s.engine.target = none)
    (arrival : s.engine.lastArrival = some p) (near : absDiff p (d.x0 + s.nextRing * d.pitch) ≤ d.posTol) :
    placeCarriage d s = s.modEngine fun g => { g with arrived := true } := by
  simp only [placeCarriage, idle, arrival, if_pos near]

theorem placeCarriage_away {d : Descriptor} {s : State} {p : Nat} (idle : s.engine.target = none)
    (arrival : s.engine.lastArrival = some p) (far : ¬absDiff p (d.x0 + s.nextRing * d.pitch) ≤ d.posTol) :
    placeCarriage d s = requestCarriage d s := by
  simp only [placeCarriage, idle, arrival, if_neg far]

theorem placeCarriage_unknown {d : Descriptor} {s : State} (idle : s.engine.target = none)
    (unknown : s.engine.lastArrival = none) : placeCarriage d s = requestCarriage d s := by
  simp only [placeCarriage, idle, unknown]

/-- What the placing of the carriage leaves of the engine. -/
theorem placeCarriage_engine (d : Descriptor) (s : State) : ∃ target arrived late,
    (placeCarriage d s).engine = { s.engine with target := target, arrived := arrived, late := late } := by
  cases target : s.engine.target with
  | some x => exact ⟨_, _, _, by rw [placeCarriage_outstanding target]⟩
  | none =>
    cases arrival : s.engine.lastArrival with
    | none => exact ⟨_, _, _, by rw [placeCarriage_unknown target arrival, requestCarriage_none target]⟩
    | some p =>
      by_cases near : absDiff p (d.x0 + s.nextRing * d.pitch) ≤ d.posTol
      · exact ⟨_, _, _, by rw [placeCarriage_there target arrival near]; rfl⟩
      · exact ⟨_, _, _, by rw [placeCarriage_away target arrival near, requestCarriage_none target]⟩

/-! ### START_BAND and RESUME_BAND -/

/-- The request that enters PREPARING. -/
def entryRequest (start : Bool) (s : State) : State × Answer := if start then startBand s else resumeBand s

theorem entryRequest_aborted {start : Bool} {s : State} (from_ : s.engine.state = if start then .armed else .held)
    (taken : s.cutAbortTaken = true) : entryRequest start s = refuse .abortAsserted s := by
  cases start <;> simp_all [entryRequest, startBand, resumeBand]

theorem entryRequest_free {start : Bool} {s : State} (from_ : s.engine.state = if start then .armed else .held)
    (free : s.cutAbortTaken = false) : entryRequest start s = acceptMoving (entered start s) := by
  cases start <;> simp_all [entryRequest, startBand, resumeBand, entered]

theorem exec_entry (start : Bool) (s : State) :
    exec (if start then .startBand .machine else .resumeBand .machine) s =
      .next (serve .machine (if start then .startBand else .resumeBand) (entryRequest start) s) := by
  cases start <;> rfl

theorem entered_moves {start : Bool} {s : State} (from_ : s.engine.state = if start then .armed else .held) :
    Moves s (entered start s) := by
  cases start with
  | true => exact (Move.moves (.started from_)).trans (enterPreparing_moves false (awaitIndex s))
  | false => exact (Move.moves (.resumed from_)).trans (enterPreparing_moves false s)

theorem nextRing_of_slot {s : State} {i : Fin 64} (slot : s.engine.slot = some i) : s.nextRing = s.jobs[i].record.nextRing := by
  simp only [State.nextRing, State.record, slot]

/-- Where the placing of the carriage leaves it (R130). -/
theorem prepareActions_carriage {d : Descriptor} {s : State} {n : Nat} (next : s.nextRing = n) :
    let t := prepareActions d s
    (∀ x, s.engine.target = some x →
      t.engine.target = some x ∧ t.engine.late = s.engine.late ∧ t.engine.arrived = s.engine.arrived) ∧
    (s.engine.target = none → ∀ p, s.engine.lastArrival = some p →
      if absDiff p (d.x0 + n * d.pitch) ≤ d.posTol then t.engine.target = none ∧ t.engine.arrived = true
      else t.engine.target = some (d.x0 + n * d.pitch) ∧ t.engine.late = 0 ∧ t.engine.arrived = false) ∧
    (s.engine.target = none → s.engine.lastArrival = none →
      t.engine.target = some (d.x0 + n * d.pitch) ∧ t.engine.late = 0 ∧ t.engine.arrived = false) := by
  have engine := lowered_engine d s
  have ring : (lowered d s).nextRing = n := (lowered_nextRing d s).trans next
  have target : (lowered d s).engine.target = s.engine.target := by rw [engine]
  have arrival : (lowered d s).engine.lastArrival = s.engine.lastArrival := by rw [engine]
  rw [prepareActions_eq]
  refine ⟨fun x is => ?_, fun idle p at_p => ?_, fun idle unknown => ?_⟩
  · rw [placeCarriage_outstanding (target.trans is), engine]
    exact ⟨is, rfl, rfl⟩
  · by_cases near : absDiff p (d.x0 + n * d.pitch) ≤ d.posTol
    · rw [if_pos near, placeCarriage_there (target.trans idle) (arrival.trans at_p) (by rw [ring]; exact near)]
      exact ⟨target.trans idle, rfl⟩
    · rw [if_neg near, placeCarriage_away (target.trans idle) (arrival.trans at_p) (by rw [ring]; exact near),
        requestCarriage_none (target.trans idle), ring]
      exact ⟨rfl, rfl, rfl⟩
  · rw [placeCarriage_unknown (target.trans idle) (arrival.trans unknown), requestCarriage_none (target.trans idle), ring]
    exact ⟨rfl, rfl, rfl⟩

/-- Settles O38. -/
theorem startAndResumeEnterPreparing : Obligations.StartAndResumeEnterPreparing := by
  intro s i d start ready band slot from_
  have permitted : (if start then ReqKind.startBand else .resumeBand).permitted .machine = true := by cases start <;> rfl
  have plain (x : State) : everyReply (if start then ReqKind.startBand else .resumeBand) x = [] := by cases start <;> rfl
  have same : SameBand (markTaken .machine s) (entering start (markTaken .machine s)) := entering_same from_
  refine ⟨fun taken => ?_, fun free => ?_⟩
  · exact exec_refused (r := .abortAsserted) (exec_entry start s) ready permitted (plain _)
      (entryRequest_aborted (s := markTaken .machine s) from_ taken)
  have inUse (h : HeadId) : (entering start (markTaken .machine s)).headInUse h = d.heads.get h :=
    headInUse_of_band (same.band.trans band) h
  obtain ⟨heads, cells, store, jobs, staging, now⟩ := entering_keeps start (markTaken .machine s)
  have engine := entering_engine start (markTaken .machine s)
  obtain ⟨t, run, replied, after, supervised, custody⟩ := exec_moved (exec_entry start s) ready permitted plain
    (entryRequest_free (s := markTaken .machine s) from_ free) (entered_moves from_)
  refine ⟨fun h ok used faulted lowest => ⟨t, run, replied, ?_⟩, fun sound => ⟨t, run, replied, ?_⟩⟩
  · have found : (entering start (markTaken .machine s)).lowestFaulted = some h := by
      refine lowestFaulted_eq ((inUse h).trans used) (by rw [heads]; exact faulted) fun k below at_k => ?_
      rw [heads]
      exact lowest k below ((inUse k).symm.trans at_k)
    have fine : HeadsOk (entering start (markTaken .machine s)) := ok.step (.of_eq heads cells) (congrArg Store.params store)
    rw [entered_faulted found] at after
    rw [← HeadCause.endCause_eq]
    exact ((abort_aborted (same.band.trans band) (same.slot.trans slot) (by rw [engine]; rfl) fine).before
      (by rw [engine]) jobs).after after
  · have none_found : (entering start (markTaken .machine s)).lowestFaulted = none :=
      lowestFaulted_eq_none fun h at_h => by
        rw [heads]
        exact sound h ((inUse h).symm.trans at_h)
    rw [entered_sound none_found (same.band.trans band)] at after
    obtain ⟨blocks, -⟩ := after
    generalize enter : entering start (markTaken .machine s) = y at *
    have next : y.nextRing = s.jobs[i].record.nextRing := same.nextRing.trans (nextRing_of_slot slot)
    obtain ⟨outstanding, known, unknown⟩ := prepareActions_carriage (d := d) next
    obtain ⟨target, arrived, late, placed⟩ := placeCarriage_engine d (lowered d y)
    rw [← prepareActions_eq, lowered_engine, engine] at placed
    obtain ⟨-, -, sameGrid, sameCells, sameStore, sameJobs, sameStaging, -⟩ := prepareActions_keeps d y
    have sameHeads : t.heads = (lowered d y).heads := by
      rw [blocks.heads, prepareActions_eq, (placeCarriage_keeps _ _).2.2.2.2.2.1]
    have params (h : HeadId) : y.params h = s.params h := by
      rw [State.params, State.params, store]
      rfl
    refine ⟨?_, ?_, ?_, ?_, ?_, ?_, ?_, ?_, ?_, supervised, blocks.jobs.trans (sameJobs.trans jobs),
      blocks.staging.trans (sameStaging.trans staging), blocks.store.trans (sameStore.trans store),
      blocks.cells.trans (sameCells.trans cells), custody⟩
    · rw [sameHeads, lowered_heads (same.band.trans band), heads, now]
      simp only [params]
      rfl
    · rw [blocks.grid, sameGrid, ← enter]
      exact entering_grid start _
    · rw [blocks.engine, placed]
    · rw [blocks.engine, placed]
    · rw [blocks.engine, placed]
    · rw [blocks.engine, placed]
    · rw [blocks.engine, placed]
      rfl
    · rw [blocks.engine, placed]
    · rw [blocks.engine]
      rw [engine] at outstanding known unknown
      cases goal : s.engine.target with
      | some x => exact outstanding x goal
      | none =>
        cases arrival : s.engine.lastArrival with
        | some p => exact known goal p arrival
        | none => exact unknown goal arrival

/-! ### PAUSE_BAND (R139) and holds (R141) -/

theorem enterHeld_engine (r : HoldReason) (s : State) : (enterHeld r s).engine =
    { s.engine with state := .held, hold := some r, pause := false, revPos := none, settleCount := none } := rfl

theorem enterHeld_head (r : HoldReason) (s : State) (h : HeadId) : (enterHeld r s).heads.get h = (liftSet s).heads.get h := rfl

section
variable {s : State}

theorem pauseBand_preparing (preparing : s.engine.state = .preparing) :
    pauseBand s = accept (s.withEngine { s.engine with pause := true }) := if_pos preparing

theorem pauseBand_again (cutting : s.engine.state = .cutting) (set : s.engine.pause = true) : pauseBand s = accept s := by
  simp [pauseBand, cutting, set]

theorem pauseBand_waits (cutting : s.engine.state = .cutting) (clear : s.engine.pause = false)
    (busy : s.engine.revPos = some .cut ∨ s.engine.target.isSome = true) :
    pauseBand s = accept (s.withEngine { s.engine with pause := true }) := by
  rw [pauseBand, if_neg (by rw [cutting]; decide), if_pos cutting, if_neg (by rw [clear]; decide), if_pos busy]
  rfl

theorem pauseBand_holds (cutting : s.engine.state = .cutting) (clear : s.engine.pause = false)
    (seam : s.engine.revPos ≠ some .cut) (idle : s.engine.target = none) :
    pauseBand s = acceptMoving (enterHeld .pauseRequest s) := by
  simp [pauseBand, cutting, clear, seam, idle]

end

/-- Settles O39. -/
theorem pauseBandHoldsAtASeam : Obligations.PauseBandHoldsAtASeam := by
  refine fun s ready => ⟨fun preparing => ?_, fun cutting set => ?_, fun cutting clear busy => ?_,
    fun cutting clear seam idle ok => ?_⟩
  · exact exec_done (f := pauseBand) rfl ready rfl rfl (pauseBand_preparing (s := markTaken .machine s) preparing)
  · exact exec_done (f := pauseBand) rfl ready rfl rfl (pauseBand_again (s := markTaken .machine s) cutting set)
  · exact exec_done (f := pauseBand) rfl ready rfl rfl (pauseBand_waits (s := markTaken .machine s) cutting clear busy)
  · have runs : s.engine.state.abortable = true := by rw [cutting]; rfl
    have whole : s.ringBeingCut = false := Bool.eq_false_iff.mpr fun cut => seam ((ringBeingCut_iff s).mp cut).2
    have moves : Moves (markTaken .machine s) (enterHeld .pauseRequest (markTaken .machine s)) :=
      enterHeld_moves _ runs whole
    obtain ⟨t, run, replied, after, -⟩ := exec_moved (c := .pauseBand .machine) rfl ready rfl (fun _ => rfl)
      (pauseBand_holds (s := markTaken .machine s) cutting clear seam idle) moves
    obtain ⟨blocks, pending⟩ := after
    have head (h : HeadId) : t.heads.get h = (liftSet s).heads.get h := by
      rw [blocks.heads]
      rfl
    refine ⟨t, run, replied, blocks.engine, fun h used => ?_, fun h free => ?_, pending _ (postAll_pendingAll _ _),
      blocks.jobs, blocks.staging, blocks.store, blocks.grid, blocks.cells⟩
    · rw [head, liftSet_head, if_pos used, (ok h).1.lift_eq]
      exact ⟨liftedHead_lowered _ _ _, rfl⟩
    · rw [head, liftSet_head, if_neg (Bool.eq_false_iff.mp free)]

/-! ### DISARM (R127) -/

theorem Store.promote_eq (x : Store) : x.promote = promoted x := by
  unfold Store.promote promoted
  have curve (c : CurveCopies) : c.promote = ⟨if c.pending.isSome then c.pending else c.active, none⟩ := by
    obtain ⟨active, pending⟩ := c
    cases pending <;> rfl
  have params (c : ParamCopies) : c.promote = ⟨c.pending.getD c.active, none⟩ := by
    obtain ⟨active, pending⟩ := c
    cases pending <;> rfl
  simp only [funext curve, params]

theorem StatusRecord.disarm_eq (r : StatusRecord) : r.disarm =
    if 0 < r.nextRing ∨ r.anyCount = true then { r with phase := .stopped, cause := some .operatorStop }
    else { r with phase := .neverRun } := by
  simp only [StatusRecord.disarm, Bool.or_eq_true, decide_eq_true_eq]

theorem modRecord_of_slot {s : State} {i : Fin 64} (slot : s.engine.slot = some i) (f : StatusRecord → StatusRecord) :
    modRecord f s = s.withJobs (s.jobs.set i { s.jobs[i] with record := f s.jobs[i].record }) := by
  simp only [modRecord, slot]
  rfl

theorem disarmBand_of_slot {s : State} {i : Fin 64} (slot : s.engine.slot = some i) : disarmBand s =
    (((s.withJobs (s.jobs.set i { s.jobs[i] with record := s.jobs[i].record.disarm })).withStaging Staging.reset).withStore
      (promoted s.store)).withEngine { s.engine with state := .idle, slot := none, ring := none } := by
  unfold disarmBand emptyStaging
  rw [modRecord_of_slot slot]
  dsimp only
  rw [Store.promote_eq]
  rfl

theorem disarmBand_lowers_none {s : State} (off : s.sup.active = false) : (disarmBand s).sup.active = (disarmBand s).anyLowered := by
  have rest : (disarmBand s).engine.state.isCurrent = false := by simp [disarmBand, EngineState.isCurrent]
  have none_used (h : HeadId) : (disarmBand s).headInUse h = false := headInUse_of_rest rest h
  have sup : (disarmBand s).sup = s.sup := by simp
  rw [sup, off]
  simp [State.anyLowered, none_used]

/-- Settles O37. -/
theorem disarmReturnsToIdle : Obligations.DisarmReturnsToIdle := by
  intro s i ready armed slot supervised off
  rw [← StatusRecord.disarm_eq]
  refine exec_done (f := disarm) rfl ready rfl rfl ?_
  have free : ¬(markTaken .machine s).engine.state ≠ .armed := not_not.mpr armed
  rw [disarm, if_neg free, acceptMoving]
  exact congrArg accept ((supervise_of_stands (disarmBand_lowers_none (s := markTaken .machine s) off)).trans
    (disarmBand_of_slot (s := markTaken .machine s) slot))

/-! ### ARM_BAND (R126) -/

theorem headsAvailable_iff (s : State) (d : Descriptor) : s.headsAvailable d = true ↔ HeadsFitAndLifted d s := by
  unfold State.headsAvailable HeadsFitAndLifted
  rw [List.all_eq_true]
  refine ⟨fun all h used => ?_, fun all h _ => ?_⟩
  · simpa [used] using all h (by cases h <;> decide)
  · cases used : d.heads.get h with
    | false => rfl
    | true => simpa using all h used

theorem curvesSet_iff (s : State) (d : Descriptor) : s.curvesSet d = true ↔ CurvesSet d s := by
  unfold State.curvesSet CurvesSet
  rw [List.all_eq_true]
  refine ⟨fun all h c used named => ?_, fun all h _ => ?_⟩
  · simpa [used, named] using all h (by cases h <;> decide)
  · cases used : d.heads.get h with
    | false => rfl
    | true =>
      cases named : d.curves.get h with
      | none => rfl
      | some c => exact all h c used named

theorem StatusRecord.arm_eq (d : Descriptor) (restart : Bool) (r : StatusRecord) : r.arm d.heads restart = armedRecord d restart r := by
  simp only [StatusRecord.arm, armedRecord, Bool.or_eq_true, decide_eq_true_eq]

section
variable {s : State} {i : Fin 64} {d : Descriptor}

theorem armSlot_eq (desc : s.jobs[i].desc = some d) (restart : Bool) : armSlot i d restart s =
    ((s.withJobs (s.jobs.set i ⟨some d, armedRecord d restart s.jobs[i].record⟩)).withStaging
      { s.staging with
        heads := s.staging.heads.mapH fun h t =>
          { t with
            nf :=
              if d.heads.get h = true ∧ d.kind ≠ .testCut then some (armedRecord d restart s.jobs[i].record).nextRing
              else none } }).withEngine
      { s.engine with
        state := .armed, slot := some i, ring := some (armedRecord d restart s.jobs[i].record).nextRing, pause := false,
        stopAtSeam := none, dataIdle := 0, speedDev := 0, settleRun := 0, settleCount := none,
        hold := none, target := none } := by
  have record : (s.modJob i fun j => { j with record := j.record.arm d.heads restart }).jobs[i].record =
      armedRecord d restart s.jobs[i].record := by
    rw [modJob_job, if_pos rfl, StatusRecord.arm_eq]
  have jobs : s.modJob i (fun j => { j with record := j.record.arm d.heads restart }) =
      s.withJobs (s.jobs.set i ⟨some d, armedRecord d restart s.jobs[i].record⟩) := by
    rw [State.modJob, StatusRecord.arm_eq, desc]
  unfold armSlot
  dsimp only
  rw [record, jobs]
  simp only [armStaging, Bool.and_eq_true, bne_iff_ne]
  rfl

/-- Arming lowers no head: the band's heads are LIFTED, and before it no band was current. -/
theorem armSlot_lowers_none (idle : s.engine.state = .idle) (supervised : Supervised s) (desc : s.jobs[i].desc = some d)
    (lifted : HeadsFitAndLifted d s) (restart : Bool) :
    (armSlot i d restart s).sup.active = (armSlot i d restart s).anyLowered := by
  have before : s.anyLowered = false := by
    have none_used (h : HeadId) : s.headInUse h = false := headInUse_of_rest (by rw [idle]; rfl) h
    simp [State.anyLowered, none_used]
  have band : (armSlot i d restart s).band = some d := by
    rw [armSlot_eq desc]
    exact State.band_eq_some_iff.mpr ⟨rfl, i, rfl, by simp⟩
  have heads : (armSlot i d restart s).heads = s.heads := by simp
  have after : (armSlot i d restart s).anyLowered = false := by
    rw [State.anyLowered, List.any_eq_false]
    intro h _
    rw [headInUse_of_band band, heads]
    cases used : d.heads.get h with
    | false => simp
    | true => simp [(lifted h used).2, HeadState.lowered]
  have sup : (armSlot i d restart s).sup = s.sup := by simp
  rw [sup, after, supervised.1, before]

theorem armChecked_of_desc (desc : s.jobs[i].desc = some d) (restart : Bool) : armChecked i restart s =
    if s.engine.mounted ≠ some d.cylinder then refuse .wrongCylinder s
    else if !s.headsAvailable d then refuse .headUnavailable s
    else if !s.curvesSet d then refuse .curveUnset s
    else if !restart && s.jobs[i].record.phase == .complete then refuse .bandComplete s
    else acceptMoving (armSlot i d restart s) := by
  unfold armChecked
  rw [desc]

end

section
variable {s : State} {slot restart : Byte}

theorem slotOf_fin (i : Fin 64) : slotOf (some i.val) = some i := dif_pos i.isLt

theorem slotOf_of_high {n : Nat} (high : 64 ≤ n) : slotOf (some n) = none := dif_neg (Nat.not_lt.mpr high)

theorem yesNo_of_high {n : Nat} (high : 2 ≤ n) : yesNo n = none := by
  match n, high with
  | n + 2, _ => rfl

/-- A restart byte of 0 or 1 told whether the band starts again. -/
theorem yesNo_byte (low : restart.toNat < 2) : yesNo restart.toNat = some (restart == 1#8) := by
  have cases_ : restart = 0#8 ∨ restart = 1#8 := by
    rcases (by omega : restart.toNat = 0 ∨ restart.toNat = 1) with zero | one
    · exact .inl (BitVec.eq_of_toNat_eq zero)
    · exact .inr (BitVec.eq_of_toNat_eq one)
  rcases cases_ with rfl | rfl <;> rfl

theorem armBand_of_no_custody (lacks : s.custody ≠ some .machine) (slot restart : Option Nat) :
    armBand .machine slot restart s = refuse .noCustody s := if_pos lacks

section
variable (holds : s.custody = some .machine) (idle : s.engine.state = .idle)
include holds idle

theorem armBand_of_bad_slot {slot : Option Nat} (bad : slotOf slot = none) (restart : Option Nat) :
    armBand .machine slot restart s = refuse (.badField 0) s := by
  simp [armBand, holds, idle, bad]

theorem armBand_of_bad_restart {slot restart : Option Nat} {i : Fin 64} (names : slotOf slot = some i)
    (bad : restart.bind yesNo = none) : armBand .machine slot restart s = refuse (.badField 1) s := by
  simp [armBand, holds, idle, names, bad]

theorem armBand_of_slot {slot restart : Option Nat} {i : Fin 64} {again : Bool} (names : slotOf slot = some i)
    (told : restart.bind yesNo = some again) : armBand .machine slot restart s = armChecked i again s := by
  simp [armBand, holds, idle, names, told]

end

end

/-- Settles O36. -/
theorem armBandArms : Obligations.ArmBandArms := by
  intro slot restart s ready
  have refused {r : Result}
      (answers : armBand .machine (some slot.toNat) (some restart.toNat) (markTaken .machine s) = refuse r (markTaken .machine s)) :
      exec (.armBand .machine slot restart) s = .next (s.answered .machine .armBand r.bytes) :=
    exec_refused rfl ready rfl rfl answers
  refine ⟨fun lacks => refused (armBand_of_no_custody (s := markTaken .machine s) lacks _ _), fun holds idle => ?_⟩
  refine ⟨fun high => ?_, fun i names => ⟨fun high => ?_, fun low => ?_⟩⟩
  · exact refused (r := .badField 0) (armBand_of_bad_slot (s := markTaken .machine s) holds idle (slotOf_of_high high) _)
  · exact refused (r := .badField 1) (armBand_of_bad_restart (s := markTaken .machine s) holds idle
      (by rw [names]; exact slotOf_fin i) (yesNo_of_high high))
  have checked := armBand_of_slot (s := markTaken .machine s) holds idle (slot := some slot.toNat)
    (restart := some restart.toNat)
    (by rw [names]; exact slotOf_fin i) (yesNo_byte low)
  refine ⟨fun empty => ?_, fun d desc => ?_⟩
  · refine refused (r := .emptySlot) (checked.trans ?_)
    have none_there : (markTaken .machine s).jobs[i].desc = none := empty
    rw [armChecked, none_there]
  have answers := checked.trans (armChecked_of_desc (s := markTaken .machine s) desc _)
  have available := headsAvailable_iff (markTaken .machine s) d
  have set := curvesSet_iff (markTaken .machine s) d
  refine ⟨fun other => refused (answers.trans (if_pos other)), fun mounted => ?_⟩
  have answers := answers.trans (if_neg (not_not.mpr mounted))
  refine ⟨fun busy => refused (r := .headUnavailable) (answers.trans (if_pos ?_)), fun fit => ?_⟩
  · simpa using fun all => busy (available.mp all)
  have answers := answers.trans (if_neg (by simpa using available.mpr fit))
  refine ⟨fun unset => refused (r := .curveUnset) (answers.trans (if_pos ?_)), fun curves => ?_⟩
  · simpa using fun all => unset (set.mp all)
  have answers := answers.trans (if_neg (by simpa using set.mpr curves))
  refine ⟨fun no complete => refused (r := .bandComplete) (answers.trans (if_pos ?_)), fun again supervised => ?_⟩
  · have phase : (markTaken .machine s).jobs[i].record.phase = .complete := complete
    rw [no, phase]
    rfl
  · have goes : ¬(!(restart == 1#8) && (markTaken .machine s).jobs[i].record.phase == .complete) = true := by
      rcases again with rfl | open_
      · simp
      · have phase : (markTaken .machine s).jobs[i].record.phase ≠ .complete := open_
        rw [Bool.and_eq_true]
        exact fun both => phase (eq_of_beq both.2)
    have stands := armSlot_lowers_none (s := markTaken .machine s) idle (supervised.of_links rfl rfl) desc fit (restart == 1#8)
    refine exec_done rfl ready rfl rfl ((answers.trans (if_neg goes)).trans ?_)
    exact congrArg accept ((supervise_of_stands stands).trans (armSlot_eq (s := markTaken .machine s) desc _))

end Sys2Proof.Machine

end

section
/-! PROOFS. The loss and the return of a link (O58) and the cut-abort reset in every block (O47). -/

namespace Sys2Proof.Machine

/-! ### The loss of a link (R146, R164, R175) -/

/-- Link `l` DOWN, its unit cleared and its custody released, before the engine is told. -/
def linkCleared (l : LinkId) (s : State) : State :=
  releaseOnLoss l ((setSignal l false s).modLink l fun _ => LinkUnit.reset)

theorem linkCleared_eq (l : LinkId) (s : State) : linkCleared l s =
    (((setSignal l false s).withLinks (s.links.set l LinkUnit.reset)).withCustody
      (if s.custody = some l then none else s.custody)) := by
  unfold linkCleared releaseOnLoss
  have custody : ((setSignal l false s).modLink l fun _ => LinkUnit.reset).custody = s.custody := rfl
  rw [custody]
  split <;> rfl

theorem linkSignalLoss_of_up {l : LinkId} {s : State} (outside : s.inMasterReset = false) (up : (s.links.get l).up = true) :
    linkSignalLoss l s = settle (if l = .machine then machineLinkLost (linkCleared l s) else linkCleared l s) := by
  unfold linkSignalLoss
  rw [outside, up]
  rfl

theorem linkSignalLoss_of_down {l : LinkId} {s : State} (down : (s.links.get l).up = false) :
    linkSignalLoss l s = setSignal l false s := by
  unfold linkSignalLoss
  rw [down, Bool.and_false]
  rfl

theorem linkUp_outside {l : LinkId} {s : State} (outside : s.inMasterReset = false) :
    linkUp l s = (setSignal l true s).modLink l fun u => { u with up := true } := by
  unfold linkUp
  rw [outside]
  rfl

theorem machineLinkLost_running {s : State} (runs : s.engine.state.abortable = true) :
    machineLinkLost s = stopAtSeamWith .linkLost s := if_pos runs

theorem linkCleared_stands {l : LinkId} {s : State} (supervised : Supervised s) :
    (linkCleared l s).sup.active = (linkCleared l s).anyLowered := by
  rw [linkCleared_eq]
  exact supervised.1

theorem linkCleared_same (l : LinkId) (s : State) : SameBlocks s (linkCleared l s) := by
  rw [linkCleared_eq]
  rfl

theorem settle_up (l : LinkId) (s : State) : ((settle s).links.get l).up = (s.links.get l).up := by
  simp only [settle, transmitAll, State.withLinks_links, PerLink.get_mapL]
  exact (LinkUnit.transmit_keeps _).1

/-- Settles O58. -/
theorem linkLossAndReturn : Obligations.LinkLossAndReturn := by
  intro l s outside
  refine ⟨congrArg Host.Outcome.next (linkUp_outside outside),
    fun down => congrArg Host.Outcome.next (linkSignalLoss_of_down down), fun up supervised => ?_⟩
  have cleared := linkCleared_eq l s
  have run : exec (.linkSignalLoss l) s =
      .next (settle (if l = .machine then machineLinkLost (linkCleared l s) else linkCleared l s)) :=
    congrArg Host.Outcome.next (linkSignalLoss_of_up outside up)
  have same := linkCleared_same l s
  have stands := linkCleared_stands (l := l) supervised
  refine ⟨fun apart => ?_, fun machine cutting pos => ?_, fun i d machine runs elsewhere band slot ok => ?_⟩
  · have untold : (if l = .machine then machineLinkLost (linkCleared l s) else linkCleared l s) = linkCleared l s := by
      split
      · next is =>
        have rests : (linkCleared l s).engine.state.abortable = false := by
          rw [same.engine]
          exact apart.resolve_left (not_not.mpr is)
        exact machineLinkLost_of_rest rests
      · rfl
    rw [run, untold, settle_of_stands stands, cleared]
    rfl
  · have runs : (linkCleared l s).engine.state.abortable = true := by
      rw [same.engine, cutting]
      rfl
    have cut : (linkCleared l s).ringBeingCut = true := by
      rw [ringBeingCut_iff, same.engine]
      exact ⟨cutting, pos⟩
    have stops := (machineLinkLost_running runs).trans (stopAtSeamWith_cutting .linkLost cut)
    rw [run, if_pos machine, stops, settle_of_stands (by exact stands), cleared]
    rfl
  · have sameBand : SameBand s (linkCleared l s) := .of_eq same.engine same.jobs
    have runs' := sameBand.abortable runs
    have seam : (linkCleared l s).ringBeingCut = false := Bool.eq_false_iff.mpr fun cut => elsewhere (by
      rw [ringBeingCut_iff, same.engine] at cut
      exact cut)
    have stops := (machineLinkLost_running runs').trans (stopAtSeamWith_elsewhere .linkLost seam)
    have stopped : Stopped StopCause.linkLost.endCause i d (linkCleared l s) _ :=
      stopBand_stopped (sameBand.band.trans band) (sameBand.slot.trans slot) runs' (ok.aside same)
    have stay := (stopBand_moves .linkLost runs' seam).sides
    rw [run, if_pos machine, stops]
    refine ⟨_, rfl, Stopped.after (Stopped.before stopped same.jobs) (.settle _), ?_, ?_, ?_⟩
    · have custody : (settle (stopBand .linkLost (linkCleared l s))).custody = (linkCleared l s).custody := by simp
      rw [custody, cleared]
      rfl
    · have kept := (settle_up l (stopBand .linkLost (linkCleared l s))).trans (stay.links l).up
      rw [kept, cleared, State.withCustody_links, State.withLinks_links, PerLink.get_set_self]
      rfl
    · have pins : (settle (stopBand .linkLost (linkCleared l s))).pins = (linkCleared l s).pins := by simp
      rw [pins, cleared]
      rfl

/-! ### The cut-abort reset (R159) -/

@[simp] theorem markPartial_keeps (s : State) :
    (markPartial s).grid = s.grid ∧ (markPartial s).cells = s.cells ∧ (markPartial s).store = s.store ∧
      (markPartial s).heads = s.heads ∧ (markPartial s).staging = s.staging := by
  unfold markPartial
  split <;> simp

theorem abort_side (c : EndCause) (h : Option HeadId) (s : State) :
    (abort c h s).engine.mounted = s.engine.mounted ∧ (abort c h s).engine.lastArrival = s.engine.lastArrival ∧
      (abort c h s).grid.position = s.grid.position ∧ (abort c h s).grid.lastPeriod = s.grid.lastPeriod ∧
      (abort c h s).grid.indexTime = s.grid.indexTime := by
  rw [abort_eq]
  split
  · unfold leaveEndingPlain
    have engine := (abortEntry_engine c h (postDueStall s)).trans (by rw [postDueStall_engine])
    have grid : (abortEntry c h (postDueStall s)).grid = (stopGrid s).grid := by
      rw [abortEntry_eq, toEnding_grid]
      simp [stopGrid]
    split
    · rw [enterEnded_engine, enterEnded_grid, engine, grid]
      exact ⟨rfl, rfl, rfl, rfl, rfl⟩
    · rw [engine, grid]
      exact ⟨rfl, rfl, rfl, rfl, rfl⟩
  · exact ⟨rfl, rfl, rfl, rfl, rfl⟩

theorem dropRing_reset {s : State} (reset : s.staging = Staging.reset) : (dropRing s).staging = Staging.reset := by
  have heads : (dropRing s).staging.heads = Staging.reset.heads := by
    refine PerHead.ext_get fun h => ?_
    rw [dropRing_head, reset]
    split
    · rw [Staging.reset_head]
      rfl
    · rfl
  have synth : (dropRing s).staging.synth = none := rfl
  exact congrArg₂ Staging.mk heads synth

theorem abort_emptied {s : State} (reset : s.staging = Staging.reset) (c : EndCause) (h : Option HeadId) :
    (abort c h s).staging = Staging.reset := by
  rw [abort_eq]
  split
  · unfold leaveEndingPlain
    split
    · exact enterEnded_staging _ _
    · rw [abortEntry_staging]
      exact dropRing_reset (by simpa using reset)
  · exact reset

/-- A head controller is left as it is, but for its lower request. -/
def HeadUnit.Still (u v : HeadUnit) : Prop :=
  v.state = u.state ∧ v.drive = u.drive ∧ v.stylus = u.stylus ∧ v.cause = u.cause

theorem HeadUnit.Still.lift {u : HeadUnit} (up : u.state.lowered = false) (now : Nat) (p : HeadParams) :
    u.Still (u.lift now p) := by
  unfold HeadUnit.lift
  split
  · next lowering => rw [lowering] at up; cases up
  · next engaged => rw [engaged] at up; cases up
  all_goals exact ⟨rfl, rfl, rfl, rfl⟩

theorem abort_heads (c : EndCause) (h : Option HeadId) {s : State} (runs : s.engine.state.abortable = true) :
    (abort c h s).heads = (liftSet (preAbort (postDueStall s))).heads := by
  rw [abort_eq, if_pos runs]
  unfold leaveEndingPlain
  split
  · rw [(enterEnded_keeps _ _).2.2.2.2.1]
    exact toEnding_heads _ _ _ _
  · exact toEnding_heads _ _ _ _

theorem preAbort_head (s : State) (h : HeadId) : (preAbort s).heads.get h =
    if s.headInUse h then { s.heads.get h with drive := 0 } else s.heads.get h := by
  have heads : (preAbort s).heads = (silenceSet (markPartial s)).heads := by simp [preAbort]
  have same : (markPartial s).heads = s.heads := by simp
  rw [heads, silenceSet_head, (markPartial_same s).headInUse, same]

theorem abort_still (c : EndCause) (f : Option HeadId) {s : State} {h : HeadId} (up : (s.heads.get h).state.lowered = false)
    (silent : (s.heads.get h).drive = 0) : (s.heads.get h).Still ((abort c f s).heads.get h) := by
  by_cases runs : s.engine.state.abortable = true
  · have same : (postDueStall s).heads.get h = s.heads.get h := by simp
    have before : (preAbort (postDueStall s)).heads.get h = s.heads.get h := by
      rw [preAbort_head, same]
      split
      · rw [← silent]
      · rfl
    rw [abort_heads c f runs, liftSet_head, before]
    split
    · exact .lift up _ _
    · exact ⟨rfl, rfl, rfl, rfl⟩
  · rw [abort_of_rest (Bool.eq_false_iff.mpr runs)]
    exact ⟨rfl, rfl, rfl, rfl⟩

theorem abort_cells (c : EndCause) (f : Option HeadId) {s : State} (empty : ∀ h, (s.cells.get h).prepared = none) :
    (abort c f s).cells = s.cells := by
  have silenced : (silenceSet (markPartial (postDueStall s))).cells = s.cells := by
    have same : (markPartial (postDueStall s)).cells = s.cells := by simp
    refine PerHead.ext_get fun h => ?_
    rw [silenceSet_cell, same]
    split
    · rw [← empty h]
    · rfl
  have entry : (abortEntry c f (postDueStall s)).cells = s.cells := by
    rw [abortEntry_eq, ← silenced]
    simp
  rw [abort_eq]
  split
  · unfold leaveEndingPlain
    split
    · rw [(enterEnded_keeps _ _).2.2.2.1]
      exact entry
    · exact entry
  · rfl

/-- The part in a cut-abort reset before the engine is told: the line TAKEN, staging emptied, every head lifted and silent. -/
def cutBefore (s : State) : State := cutAbortHeads (emptyStaging (s.modSup fun u => { u with cutAbort := .taken }))

theorem cutAbortReset_eq (s : State) : cutAbortReset s = postAll .cutAbort (cutAbortEngine (cutBefore s)) := rfl

theorem cutBefore_keeps (s : State) :
    (cutBefore s).engine = s.engine ∧ (cutBefore s).jobs = s.jobs ∧ (cutBefore s).store = s.store ∧
      (cutBefore s).grid = s.grid ∧ (cutBefore s).custody = s.custody ∧
      (cutBefore s).sup = { s.sup with cutAbort := .taken } ∧ (cutBefore s).staging = Staging.reset :=
  ⟨rfl, rfl, rfl, rfl, rfl, rfl, rfl⟩

theorem cutBefore_head {s : State} (ok : HeadsOk s) (h : HeadId) :
    (cutBefore s).heads.get h = { liftedHead s.now (s.params h) (s.heads.get h) with drive := 0 } := by
  have lifted : (cutBefore s).heads.get h = { (s.heads.get h).lift s.now (s.params h) with drive := 0 } := PerHead.get_mapH _ _ _
  rw [lifted, (ok h).1.lift_eq]

theorem cutBefore_cell (s : State) (h : HeadId) : (cutBefore s).cells.get h = { s.cells.get h with prepared := none } :=
  PerHead.get_mapH _ _ _

theorem cutBefore_headsOk {s : State} (ok : HeadsOk s) : HeadsOk (cutBefore s) := by
  refine ok.step ⟨fun h => ?_, fun h => .inr ?_⟩ rfl
  · have lifted : (cutBefore s).heads.get h = { (s.heads.get h).lift s.now (s.params h) with drive := 0 } :=
      PerHead.get_mapH _ _ _
    rw [lifted]
    exact (HeadStep.lift _ _ _).trans (.silence _)
  · rw [cutBefore_cell]

/-- A lifted head beside the head it was (R63, R64): its count and its cause stand, and so does a state that is neither
LOWERING nor ENGAGED. -/
theorem liftedHead_facts (now : Nat) (p : HeadParams) (u : HeadUnit) :
    (liftedHead now p u).stylus = u.stylus ∧ (liftedHead now p u).cause = u.cause ∧
      (u.state = .engaged → (liftedHead now p u).state = .lifting) ∧
      (u.state ≠ .engaged → u.state ≠ .lowering → (liftedHead now p u).state = u.state) := by
  unfold liftedHead
  cases state : u.state <;> simp [state]

/-- What the engine's part of the reset leaves of the heads, the cells, the staging and the other blocks. -/
theorem cutAbortEngine_cut {s : State} (up : ∀ h, (s.heads.get h).state.lowered = false) (silent : ∀ h, (s.heads.get h).drive = 0)
    (empty : ∀ h, (s.cells.get h).prepared = none) (reset : s.staging = Staging.reset) :
    (∀ h, (s.heads.get h).Still ((cutAbortEngine s).heads.get h)) ∧ (cutAbortEngine s).cells = s.cells ∧
      (cutAbortEngine s).staging = Staging.reset ∧ (cutAbortEngine s).sup = s.sup ∧ (cutAbortEngine s).custody = s.custody ∧
      (cutAbortEngine s).engine.mounted = s.engine.mounted ∧ (cutAbortEngine s).engine.lastArrival = s.engine.lastArrival ∧
      (cutAbortEngine s).grid.position = s.grid.position ∧ (cutAbortEngine s).grid.lastPeriod = s.grid.lastPeriod ∧
      (cutAbortEngine s).grid.indexTime = s.grid.indexTime := by
  unfold cutAbortEngine
  split
  · have kept := disarmBand_keeps s
    have heads : (disarmBand s).heads = s.heads := by simp
    have engine : (disarmBand s).engine = { s.engine with state := .idle, slot := none, ring := none } := by
      simp [disarmBand]
    have grid : (disarmBand s).grid = s.grid := by simp
    rw [heads, engine, grid]
    exact ⟨fun h => ⟨rfl, rfl, rfl, rfl⟩, by simp, disarmBand_staging s, by simp, by simp, rfl, rfl, rfl, rfl, rfl⟩
  · exact ⟨fun h => abort_still _ _ (up h) (silent h), abort_cells _ _ empty, abort_emptied reset _ _, by simp, by simp,
      abort_side _ _ s⟩

theorem cutAbortQualified_of_qualifying {s : State} {q : Nat} (qualifies : s.sup.cutAbort = .qualifying q) :
    cutAbortQualified s = settle (cutAbortReset (passTimeTo (q + Config.lineFilter) s)) := by
  unfold cutAbortQualified
  rw [qualifies]

theorem passTime_limit (dt : Nat) (s : State) : (passTime dt s).sup.limit = s.sup.limit := by
  unfold passTime
  rw [State.modSup_sup, State.withNow_sup]
  cases s.sup.active <;> rfl

theorem supervise_cutAbort (s : State) : (supervise s).sup.cutAbort = s.sup.cutAbort := by
  unfold supervise
  rw [State.modSup_sup]
  split <;> rfl

theorem StatusRecord.disarm_phase (r : StatusRecord) :
    r.disarm.phase = if 0 < r.nextRing ∨ r.anyCount = true then .stopped else .neverRun := by
  rw [StatusRecord.disarm_eq]
  split <;> rfl

/-- Settles O47. -/
theorem cutAbortResetActs : Obligations.CutAbortResetActs := by
  intro s q outside qualifies ok supervised
  have run : exec .cutAbortQualified s = .next (settle (cutAbortReset (passTimeTo (q + Config.lineFilter) s))) :=
    congrArg Host.Outcome.next ((outsideReset_of_not_reset outside _).trans (cutAbortQualified_of_qualifying qualifies))
  have quiet := (Moves.sides ((passTimeTo_moves (q + Config.lineFilter) s).trans (cutAbortReset_moves _))).quiet supervised.2
  have sameSup : (passTimeTo (q + Config.lineFilter) s).sup.limit = s.sup.limit := passTime_limit _ s
  have timed : SameBlocks s (passTimeTo (q + Config.lineFilter) s) := rfl
  have custodyKept : (passTimeTo (q + Config.lineFilter) s).custody = s.custody := rfl
  generalize passTimeTo (q + Config.lineFilter) s = x at run quiet sameSup timed custodyKept
  have okx : HeadsOk x := ok.aside timed
  have fine := cutBefore_headsOk okx
  obtain ⟨engine, jobs, store, grid, custody, sup, staging⟩ := cutBefore_keeps x
  have head := cutBefore_head okx
  have lowered (h : HeadId) : ((cutBefore x).heads.get h).state.lowered = false := by
    rw [head]
    exact liftedHead_lowered _ _ _
  have silent (h : HeadId) : ((cutBefore x).heads.get h).drive = 0 := by rw [head]
  have empty (h : HeadId) : ((cutBefore x).cells.get h).prepared = none := by rw [cutBefore_cell]
  obtain ⟨still, cells, emptied, sup', custody', mounted, arrival, position, period, timing⟩ :=
    cutAbortEngine_cut lowered silent empty staging
  have posted : After (cutAbortEngine (cutBefore x)) (cutAbortReset x) := ⟨rfl, fun _ pending => pending.posted (postAll_posted _ _)⟩
  have after := posted.trans (.settle _)
  have same := after.same
  have sameBand : SameBand s (cutBefore x) := .of_eq (engine.trans timed.engine) (jobs.trans timed.jobs)
  refine ⟨_, run, (postAll_pendingAll .cutAbort _).settle, ?_, same.staging.trans emptied, ?_, ?_, ?_, ?_, ?_, ?_, ?_,
    settle_supervised quiet, fun h => ?_, fun i d band slot runs => ?_, fun i armed slot => ?_, fun idle rests => ?_⟩
  · refine (supervise_cutAbort _).trans ?_
    rw [cutAbortReset_eq, (postAll_keeps _ _).2.2.2.2.2.2.2.2.2.1, sup', sup]
  · refine (supervise_limit _).trans ?_
    rw [cutAbortReset_eq, (postAll_keeps _ _).2.2.2.2.2.2.2.2.2.1, sup', sup]
    exact sameSup
  · have kept : (settle (cutAbortReset x)).custody = (cutAbortEngine (cutBefore x)).custody := by
      rw [cutAbortReset_eq]
      simp
    rw [kept, custody', custody, custodyKept]
  · rw [same.engine, mounted, engine, timed.engine]
  · rw [same.engine, arrival, engine, timed.engine]
  · rw [same.grid, position, grid, timed.grid]
  · rw [same.grid, period, grid, timed.grid]
  · rw [same.grid, timing, grid, timed.grid]
  · obtain ⟨state, drive, stylus, cause⟩ := still h
    obtain ⟨count, reason, engaged, others⟩ := liftedHead_facts x.now (x.params h) (x.heads.get h)
    have wear : ((settle (cutAbortReset x)).cells.get h) = { s.cells.get h with prepared := none } := by
      rw [same.cells, cells, cutBefore_cell, timed.cells]
    have up := lowered h
    rw [head] at state stylus cause up
    rw [same.heads, wear, state, stylus, cause, drive, silent, ← timed.heads]
    exact ⟨rfl, rfl, count, rfl, up, reason, engaged, others⟩
  · have busy : (cutBefore x).engine.state ≠ .armed := fun armed => by
      rw [engine, timed.engine] at armed
      rw [armed] at runs
      cases runs
    have aborted : Aborted .cutAbortLine none i d (cutBefore x) (abort .cutAbortLine none (cutBefore x)) :=
      abort_aborted (sameBand.band.trans band) (sameBand.slot.trans slot) (sameBand.abortable runs) fine
    have takes : cutAbortEngine (cutBefore x) = abort .cutAbortLine none (cutBefore x) := if_neg busy
    rw [takes] at after
    exact (aborted.before (by rw [engine, timed.engine]) (jobs.trans timed.jobs)).after after
  · have armed' : (cutBefore x).engine.state = .armed := by rw [engine, timed.engine, armed]
    have takes : cutAbortEngine (cutBefore x) = disarmBand (cutBefore x) := if_pos armed'
    have disarmed := takes.trans (disarmBand_of_slot (sameBand.slot.trans slot))
    have recordKept : (cutBefore x).jobs[i].record = s.jobs[i].record := by rw [jobs, timed.jobs]
    rw [same.engine, same.store, same.jobs, disarmed, ← StatusRecord.disarm_phase, ← recordKept, ← timed.store, ← store]
    exact ⟨rfl, rfl, rfl, by simp⟩
  · have takes : cutAbortEngine (cutBefore x) = cutBefore x := by
      have busy : (cutBefore x).engine.state ≠ .armed := by rw [engine, timed.engine]; exact idle
      have resting : (cutBefore x).engine.state.abortable = false := by rw [engine, timed.engine]; exact rests
      exact (if_neg busy).trans (abort_of_rest resting _ _)
    rw [same.engine, same.jobs, same.store, same.grid, takes]
    exact ⟨engine.trans timed.engine, jobs.trans timed.jobs, store.trans timed.store, grid.trans timed.grid⟩

end Sys2Proof.Machine

end

section
/-! SUPPORT. A band that leaves ENDING with its heads at rest: its end, its chained continuation, or the stop of its chain
(R54, R89, R130, R145). -/

namespace Sys2Proof.Machine

/-! ### The end of a band's currency -/

theorem promoted_promoted (x : Store) : promoted (promoted x) = promoted x := by
  have params : (promoted (promoted x)).params = (promoted x).params := by
    refine PerHead.ext_get fun h => ?_
    simp [promoted]
  have curves : (promoted (promoted x)).curves = (promoted x).curves := by
    simp [promoted, Function.comp_def]
  exact congrArg₂ Store.mk curves params

theorem StatusRecord.endRun_outcome {r : StatusRecord} {o : BandOutcome} (outcome : r.outcome = some o) :
    r.endRun = { r with phase := o.phase, outcome := none } := by
  rw [StatusRecord.endRun, outcome]

theorem endCurrency_other {s : State} {i m : Fin 64} (slot : s.engine.slot = some i) (other : m ≠ i) :
    (endCurrency s).jobs[m] = s.jobs[m] := by
  rw [endCurrency_job, modRecord_job, slot, if_neg]
  exact fun is => other (Option.some.inj is).symm

theorem endCurrency_record {s : State} {i : Fin 64} (slot : s.engine.slot = some i) :
    (endCurrency s).jobs[i].record = s.jobs[i].record.endRun := by
  rw [endCurrency_job, modRecord_job, if_pos slot]

theorem endCurrency_store (s : State) : (endCurrency s).store = promoted s.store := by
  rw [← Store.promote_eq]
  simp [endCurrency]

theorem endCurrency_heads (s : State) : (endCurrency s).heads = s.heads := by simp

theorem endCurrency_engine (s : State) : (endCurrency s).engine = s.engine := by simp [endCurrency]

theorem enterEnded_store (e : EventKind) (s : State) : (enterEnded e s).store = promoted s.store :=
  endCurrency_store s

/-- What the engine's entry to ENDED leaves of a band with outcome `o` in slot `i` (R88, R89, R145). -/
theorem enterEnded_facts (e : EventKind) {s : State} {i : Fin 64} {o : BandOutcome} (slot : s.engine.slot = some i)
    (outcome : s.jobs[i].record.outcome = some o) :
    (enterEnded e s).jobs[i].record.phase = o.phase ∧ (enterEnded e s).jobs[i].record.outcome = none ∧
      (enterEnded e s).store = promoted s.store ∧ (enterEnded e s).engine.state = .ended ∧
      (enterEnded e s).engine.slot = some i ∧ (enterEnded e s).engine.ring = none ∧
      (enterEnded e s).staging = Staging.reset ∧ PendingAll e (enterEnded e s) := by
  have record := (enterEnded_record e slot).trans (StatusRecord.endRun_outcome outcome)
  rw [record, enterEnded_engine]
  exact ⟨rfl, rfl, enterEnded_store e s, rfl, slot, rfl, enterEnded_staging e s, postAll_pendingAll _ _⟩

theorem leaveEnding_rest {s : State} {d : Descriptor} {i : Fin 64} {o : BandOutcome} (ending : s.engine.state = .ending)
    (band : s.band = some d) (slot : s.engine.slot = some i) (outcome : s.jobs[i].record.outcome = some o)
    (rest : d.atRest s = true) :
    (o ≠ .complete ∨ d.nextSlot = none → leaveEnding s = enterEnded .bandEnded s) ∧
      ∀ m, o = .complete → d.nextSlot = some m → leaveEnding s = chain m s := by
  have record : s.record = some s.jobs[i].record := by rw [State.record, slot]
  have resting : s.engine.state = .ending ∧ s.setAtRest = true := ⟨ending, (setAtRest_of_band band).trans rest⟩
  unfold leaveEnding
  rw [if_pos resting]
  simp only [band, record, outcome]
  refine ⟨fun plain => ?_, fun m complete next => ?_⟩
  · cases next : d.nextSlot with
    | none => cases o <;> rfl
    | some m =>
      cases o with
      | complete => rw [next] at plain; simp at plain
      | stopped => rfl
      | aborted => rfl
  · rw [complete, next]

theorem leaveEnding_waiting {s : State} {d : Descriptor} (band : s.band = some d) (busy : d.atRest s = false) :
    leaveEnding s = s := by
  unfold leaveEnding
  rw [if_neg]
  rw [setAtRest_of_band band, busy]
  exact fun both => by cases both.2

/-! ### Chained continuation (R54, R130) -/

theorem qualifies_iff {s : State} {m : Fin 64} : s.qualifies m = true ↔ ∃ e, s.jobs[m].desc = some e ∧
    s.jobs[m].record.phase = .neverRun ∧ s.engine.mounted = some e.cylinder ∧ HeadsFitAndLifted e s ∧ CurvesSet e s := by
  unfold State.qualifies
  cases desc : s.jobs[m].desc with
  | none => simp
  | some e => simp [headsAvailable_iff, curvesSet_iff, and_assoc]

theorem chain_stops {s : State} {m : Fin 64} (unfit : (endCurrency s).qualifies m = false) :
    chain m s = enterEnded .chainStopped s := by
  unfold chain
  simp only [unfit]
  cases (endCurrency s).jobs[m].desc <;> rfl

theorem chain_continues {s : State} {m : Fin 64} {e : Descriptor} (desc : (endCurrency s).jobs[m].desc = some e)
    (fit : (endCurrency s).qualifies m = true) :
    chain m s = enterPreparing true (awaitIndex (armSlot m e true (endCurrency s))) := by
  unfold chain
  simp only [desc, fit]

section
variable {s : State} {m : Fin 64} {e : Descriptor}

/-- What the part is as a chained band enters PREPARING. -/
theorem chained_facts (desc : (endCurrency s).jobs[m].desc = some e) :
    (chained m e s).band = some e ∧ (chained m e s).engine.slot = some m ∧ (chained m e s).engine.state = .preparing ∧
      (chained m e s).engine.ring = some 0 ∧ (chained m e s).grid.state = .awaitingIndex ∧
      (chained m e s).jobs[m].record = { StatusRecord.fresh e.heads with phase := .current } ∧
      (chained m e s).store = promoted s.store ∧ (chained m e s).heads = s.heads ∧ (chained m e s).sup = s.sup ∧
      (chained m e s).links = s.links := by
  have job := (chained_job m e s m).trans ((armSlot_job m e true _ m).trans (if_pos rfl))
  refine ⟨State.band_eq_some_iff.mpr ⟨rfl, m, rfl, by rw [job]; exact desc⟩, rfl, rfl, ?_, rfl, by rw [job]; rfl,
    endCurrency_store s, by simp [chained], by simp [chained], by simp [chained]⟩
  have ring : (chained m e s).engine.ring = some (chained m e s).jobs[m].record.nextRing := rfl
  rw [ring, job]
  rfl

theorem chained_other {k : Fin 64} (other : k ≠ m) : (chained m e s).jobs[k] = (endCurrency s).jobs[k] := by
  rw [chained_job, armSlot_job, if_neg (Ne.symm other)]

/-- A chained band whose heads are all LIFTED enters PREPARING unless the cut-abort line is taken or the machine link is
down (R130). -/
theorem enterPreparing_chained (desc : (endCurrency s).jobs[m].desc = some e)
    (lifted : ∀ h, e.heads.get h = true → (s.heads.get h).state = .lifted) :
    enterPreparing true (awaitIndex (armSlot m e true (endCurrency s))) =
      if s.cutAbortTaken then abort .cutAbortLine none (chained m e s)
      else if (s.links.get .machine).up then prepareActions e (chained m e s)
      else stopBand .linkLost (chained m e s) := by
  obtain ⟨band, -, -, -, -, -, -, heads, sup, links⟩ := chained_facts desc
  have taken : (chained m e s).cutAbortTaken = s.cutAbortTaken := by rw [State.cutAbortTaken, sup]; rfl
  have sound : (chained m e s).lowestFaulted = none := lowestFaulted_eq_none fun h used => by
    rw [headInUse_of_band band] at used
    rw [heads, lifted h used]
    decide
  have up : ((chained m e s).links.get .machine).up = (s.links.get .machine).up := by rw [links]
  unfold chained at band taken sound up ⊢
  unfold enterPreparing
  simp only [taken, sound, up, band, Bool.true_and]
  cases s.cutAbortTaken <;> cases (s.links.get .machine).up <;> rfl

end

/-! ### The end of a band whose heads are LIFTED -/

theorem abort_finished {c : EndCause} {f : Option HeadId} {i : Fin 64} {d : Descriptor} {s : State} (band : s.band = some d)
    (slot : s.engine.slot = some i) (runs : s.engine.state.abortable = true) :
    Finished .aborted (some c) f i d (preAbort (postDueStall s)) (abort c f s) := by
  have engine := postDueStall_engine s
  have same : SameBand s (postDueStall s) := .of_eq engine (by simp)
  have engine' := (preAbort_engine (postDueStall s)).trans engine
  rw [abort_eq, if_pos runs]
  exact finished ((preAbort_band _).trans (same.band.trans band)) (by rw [engine']; exact slot)
    (by rw [engine']; exact isCurrent_of_abortable runs)

theorem atRest_of_lifted {d : Descriptor} {t : State} (lifted : ∀ h, d.heads.get h = true → (t.heads.get h).state = .lifted) :
    d.atRest t = true := by
  rw [Descriptor.atRest, List.all_eq_true]
  intro h _
  cases used : d.heads.get h with
  | false => rfl
  | true => simp [lifted h used, HeadState.atRest]

theorem HeadUnit.lift_of_lifted {u : HeadUnit} (lifted : u.state = .lifted) (now : Nat) (p : HeadParams) :
    u.lift now p = u := by
  rw [HeadUnit.lift, lifted]

/-- A lift command leaves a LIFTED head LIFTED. -/
theorem liftSet_lifted {s : State} {h : HeadId} (lifted : (s.heads.get h).state = .lifted) :
    ((liftSet s).heads.get h).state = .lifted := by
  rw [liftSet_head]
  split
  · rw [HeadUnit.lift_of_lifted lifted]
    exact lifted
  · exact lifted

theorem abort_store (c : EndCause) (f : Option HeadId) (s : State) :
    (abort c f s).store = s.store ∨ (abort c f s).store = promoted s.store := by
  rw [abort_eq]
  split
  · have entry : (abortEntry c f (postDueStall s)).store = s.store := by
      rw [abortEntry_eq]
      simp
    unfold leaveEndingPlain
    split
    · rw [enterEnded_store, entry]
      exact .inr rfl
    · exact .inl entry
  · exact .inl rfl

theorem stopBand_store (c : StopCause) (s : State) :
    (stopBand c s).store = s.store ∨ (stopBand c s).store = promoted s.store := by
  have entry : (toEnding .stopped (some c.endCause) none s).store = s.store := by simp
  unfold stopBand leaveEndingPlain
  split
  · rw [enterEnded_store, entry]
    exact .inr rfl
  · exact .inl entry

theorem leaveEndingPlain_other {s : State} {i m : Fin 64} (slot : s.engine.slot = some m) (other : i ≠ m) :
    (leaveEndingPlain s).jobs[i] = s.jobs[i] := by
  unfold leaveEndingPlain
  split
  · rw [enterEnded_job, modRecord_job, slot, if_neg]
    exact fun is => other (Option.some.inj is).symm
  · rfl

theorem abort_other (c : EndCause) (f : Option HeadId) {s : State} {i m : Fin 64} (slot : s.engine.slot = some m)
    (other : i ≠ m) : (abort c f s).jobs[i] = s.jobs[i] := by
  have engine := postDueStall_engine s
  have jobs : (postDueStall s).jobs = s.jobs := by simp
  have slot' : (postDueStall s).engine.slot = some m := by rw [engine]; exact slot
  rw [abort_eq]
  split
  · rw [leaveEndingPlain_other (by rw [abortEntry_engine]; exact slot') other, abortEntry_job, modRecord_job, slot', if_neg]
    · rw [jobs]
    · exact fun is => other (Option.some.inj is).symm
  · rfl

theorem stopBand_other (c : StopCause) {s : State} {i m : Fin 64} (slot : s.engine.slot = some m) (other : i ≠ m) :
    (stopBand c s).jobs[i] = s.jobs[i] := by
  have slot' : (toEnding .stopped (some c.endCause) none s).engine.slot = some m := by rw [toEnding_engine]; exact slot
  rw [stopBand, leaveEndingPlain_other slot' other, toEnding_job, modRecord_job, slot, if_neg]
  exact fun is => other (Option.some.inj is).symm

/-- The chained band in slot `m` with descriptor `e` stands in `t` as the part `s` before it decides (R130). -/
def Continued (m : Fin 64) (e : Descriptor) (s t : State) : Prop :=
  t.engine.slot = some m ∧ t.jobs[m].record.nextRing = 0 ∧
    if s.cutAbortTaken then
      t.engine.state = .ended ∧ t.jobs[m].record.phase = .aborted ∧ t.jobs[m].record.cause = some .cutAbortLine ∧
        PendingAll .bandEnded t
    else if (s.links.get .machine).up then
      t.engine.state = .preparing ∧ t.engine.ring = some 0 ∧ t.grid.state = .awaitingIndex ∧
        t.jobs[m].record = { StatusRecord.fresh e.heads with phase := .current }
    else
      t.engine.state = .ended ∧ t.jobs[m].record.phase = .stopped ∧ t.jobs[m].record.cause = some .linkLost ∧
        PendingAll .bandEnded t

section
variable {s : State} {m : Fin 64} {e : Descriptor}

theorem preAbort_nextRing {i : Fin 64} (slot : s.engine.slot = some i) :
    (preAbort (postDueStall s)).jobs[i].record.nextRing = s.jobs[i].record.nextRing := by
  have jobs : (postDueStall s).jobs = s.jobs := by simp
  have marked : (preAbort (postDueStall s)).jobs[i].record = (markPartial (postDueStall s)).jobs[i].record := rfl
  rw [marked, markPartial_record (by rw [postDueStall_engine]; exact slot), jobs]
  split <;> rfl

theorem abort_of_lifted {c : EndCause} (band : s.band = some e) (slot : s.engine.slot = some m)
    (runs : s.engine.state.abortable = true) (lifted : ∀ h, e.heads.get h = true → (s.heads.get h).state = .lifted) :
    (abort c none s).engine.slot = some m ∧ (abort c none s).jobs[m].record.nextRing = s.jobs[m].record.nextRing ∧
      (abort c none s).engine.state = .ended ∧ (abort c none s).jobs[m].record.phase = .aborted ∧
      (abort c none s).jobs[m].record.cause = some c ∧ PendingAll .bandEnded (abort c none s) := by
  have fin : Finished .aborted (some c) none m e _ (abort c none s) := abort_finished band slot runs
  have rest : e.atRest (abort c none s) = true := atRest_of_lifted fun h used => by
    have same : (postDueStall s).heads = s.heads := by simp
    have before : ((preAbort (postDueStall s)).heads.get h).state = .lifted := by
      rw [preAbort_head, same]
      split <;> exact lifted h used
    rw [fin.heads]
    exact liftSet_lifted before
  have outcome := fin.outcome
  rw [if_pos rest] at outcome
  obtain ⟨ended, phase, -, posted⟩ := outcome
  exact ⟨(abort_slot c none s).trans slot, fin.nextRing.trans (preAbort_nextRing slot), ended, phase, fin.cause, posted⟩

theorem stopBand_of_lifted {c : StopCause} (band : s.band = some e) (slot : s.engine.slot = some m)
    (runs : s.engine.state.abortable = true) (lifted : ∀ h, e.heads.get h = true → (s.heads.get h).state = .lifted) :
    (stopBand c s).engine.slot = some m ∧ (stopBand c s).jobs[m].record.nextRing = s.jobs[m].record.nextRing ∧
      (stopBand c s).engine.state = .ended ∧ (stopBand c s).jobs[m].record.phase = .stopped ∧
      (stopBand c s).jobs[m].record.cause = some c.endCause ∧ PendingAll .bandEnded (stopBand c s) := by
  have fin : Finished .stopped (some c.endCause) none m e s (stopBand c s) := finished band slot (isCurrent_of_abortable runs)
  have rest : e.atRest (stopBand c s) = true := atRest_of_lifted fun h used => by
    rw [fin.heads]
    exact liftSet_lifted (lifted h used)
  have outcome := fin.outcome
  rw [if_pos rest] at outcome
  obtain ⟨ended, phase, -, posted⟩ := outcome
  exact ⟨(stopBand_slot c s).trans slot, fin.nextRing, ended, phase, fin.cause, posted⟩

theorem chain_continued {i : Fin 64} (other : m ≠ i)
    (desc : (endCurrency s).jobs[m].desc = some e) (fit : (endCurrency s).qualifies m = true)
    (lifted : ∀ h, e.heads.get h = true → (s.heads.get h).state = .lifted) :
    Continued m e s (chain m s) ∧ (chain m s).store = promoted s.store ∧
      (chain m s).jobs[i] = (endCurrency s).jobs[i] := by
  obtain ⟨band, there, state, ring, grid, record, store, heads, -, -⟩ := chained_facts desc
  have runs : (chained m e s).engine.state.abortable = true := by rw [state]; rfl
  have still : ∀ h, e.heads.get h = true → ((chained m e s).heads.get h).state = .lifted := fun h used => by
    rw [heads]
    exact lifted h used
  have next : (chained m e s).jobs[m].record.nextRing = 0 := by rw [record]; rfl
  have kept : (chained m e s).jobs[i] = (endCurrency s).jobs[i] := chained_other (Ne.symm other)
  have settles {t : State} (is : t.store = (chained m e s).store ∨ t.store = promoted (chained m e s).store) :
      t.store = promoted s.store := by
    rw [store, promoted_promoted] at is
    exact is.elim id id
  have goes := (chain_continues desc fit).trans (enterPreparing_chained desc lifted)
  unfold Continued
  by_cases taken : s.cutAbortTaken = true
  · obtain ⟨slot', ring', ended, phase, cause, posted⟩ := abort_of_lifted (c := .cutAbortLine) band there runs still
    simp only [if_pos taken] at goes ⊢
    rw [goes]
    exact ⟨⟨slot', ring'.trans next, ended, phase, cause, posted⟩, settles (abort_store _ _ _),
      (abort_other _ _ there (Ne.symm other)).trans kept⟩
  by_cases up : (s.links.get .machine).up = true
  · have jobs : (prepareActions e (chained m e s)).jobs = (chained m e s).jobs := by simp
    have sameGrid : (prepareActions e (chained m e s)).grid = (chained m e s).grid := by simp
    have sameStore : (prepareActions e (chained m e s)).store = (chained m e s).store := by simp
    obtain ⟨_, _, _, engine⟩ := placeCarriage_engine e (lowered e (chained m e s))
    rw [← prepareActions_eq, lowered_engine] at engine
    simp only [if_neg taken, if_pos up] at goes ⊢
    rw [goes, jobs, engine, sameGrid, sameStore]
    exact ⟨⟨there, next, state, ring, grid, record⟩, store, kept⟩
  · obtain ⟨slot', ring', ended, phase, cause, posted⟩ := stopBand_of_lifted (c := .linkLost) band there runs still
    simp only [if_neg taken, if_neg up] at goes ⊢
    rw [goes]
    exact ⟨⟨slot', ring'.trans next, ended, phase, cause, posted⟩, settles (stopBand_store _ _),
      (stopBand_other _ there (Ne.symm other)).trans kept⟩

end

/-! ### A band that leaves ENDING -/

/-- `y` differs from `x` in nothing that the end of the band in slot `i` reads or leaves beside its record. -/
structure Leads (i : Fin 64) (x y : State) : Prop where
  store : y.store = x.store
  job : ∀ m : Fin 64, m ≠ i → y.jobs[m] = x.jobs[m]
  mounted : y.engine.mounted = x.engine.mounted
  heads : ∀ h, (y.heads.get h).state = (x.heads.get h).state
  cutAbort : y.sup.cutAbort = x.sup.cutAbort
  up : (y.links.get .machine).up = (x.links.get .machine).up

theorem headsFitAndLifted_congr {x y : State} {e : Descriptor} (store : y.store = x.store)
    (heads : ∀ h, (y.heads.get h).state = (x.heads.get h).state) : HeadsFitAndLifted e y ↔ HeadsFitAndLifted e x := by
  unfold HeadsFitAndLifted State.params
  simp only [store, heads]

theorem curvesSet_congr {x y : State} {e : Descriptor} (store : y.store = x.store) : CurvesSet e y ↔ CurvesSet e x := by
  unfold CurvesSet
  simp only [store]

/-- A band in ENDING whose heads are at rest leaves it (R54, R88, R145). -/
theorem leaveEnding_left {s x : State} {d : Descriptor} {i : Fin 64} {o : BandOutcome} (ending : s.engine.state = .ending)
    (band : s.band = some d) (slot : s.engine.slot = some i) (outcome : s.jobs[i].record.outcome = some o)
    (rest : d.atRest s = true) (leads : Leads i x s) : BandLeft o i d x (leaveEnding s) := by
  obtain ⟨plain, chains⟩ := leaveEnding_rest ending band slot outcome rest
  have record := (endCurrency_record slot).trans (StatusRecord.endRun_outcome outcome)
  have store' : (endCurrency s).store = (x.withStore (promoted x.store)).store := by
    rw [endCurrency_store, leads.store]
    rfl
  have heads' (h : HeadId) : ((endCurrency s).heads.get h).state = ((x.withStore (promoted x.store)).heads.get h).state :=
    (congrArg (fun p : PerHead HeadUnit => (p.get h).state) (by simp)).trans (leads.heads h)
  have fits (e : Descriptor) : HeadsFitAndLifted e (endCurrency s) ↔ HeadsFitAndLifted e (x.withStore (promoted x.store)) :=
    headsFitAndLifted_congr store' heads'
  have curves (e : Descriptor) : CurvesSet e (endCurrency s) ↔ CurvesSet e (x.withStore (promoted x.store)) :=
    curvesSet_congr store'
  have mounted : (endCurrency s).engine.mounted = x.engine.mounted := by rw [endCurrency_engine, leads.mounted]
  have job {m : Fin 64} (other : m ≠ i) : (endCurrency s).jobs[m] = x.jobs[m] :=
    (endCurrency_other slot other).trans (leads.job m other)
  have taken : s.cutAbortTaken = x.cutAbortTaken := by rw [State.cutAbortTaken, leads.cutAbort]; rfl
  have away {m : Fin 64} (fit : (endCurrency s).qualifies m = true) (complete : o = .complete) : m ≠ i := by
    rintro rfl
    obtain ⟨_, _, phase, _⟩ := qualifies_iff.mp fit
    rw [record, complete] at phase
    cases phase
  have left : (leaveEnding s).jobs[i].record.phase = o.phase ∧ (leaveEnding s).jobs[i].record.outcome = none ∧
      (leaveEnding s).store = promoted x.store := by
    rw [← leads.store]
    by_cases chain_ : o = .complete ∧ ∃ m, d.nextSlot = some m
    · obtain ⟨complete, m, next⟩ := chain_
      rw [chains m complete next]
      cases fit : (endCurrency s).qualifies m with
      | false =>
        obtain ⟨phase, gone, store, -⟩ := enterEnded_facts .chainStopped slot outcome
        rw [chain_stops fit]
        exact ⟨phase, gone, store⟩
      | true =>
        obtain ⟨e, desc, -, -, lifted, -⟩ := qualifies_iff.mp fit
        obtain ⟨-, store, same⟩ := chain_continued (away fit complete) desc fit fun h used => by
          rw [← endCurrency_heads]
          exact (lifted h used).2
        rw [same, record]
        exact ⟨rfl, rfl, store⟩
    · have ends := plain (by
        by_contra both
        push Not at both
        exact chain_ ⟨both.1, Option.ne_none_iff_exists'.mp both.2⟩)
      obtain ⟨phase, gone, store, -⟩ := enterEnded_facts .bandEnded slot outcome
      rw [ends]
      exact ⟨phase, gone, store⟩
  obtain ⟨phase, gone, store⟩ := left
  refine ⟨phase, gone, store, fun alone => ?_, fun m complete next other => ⟨fun e desc fresh there heads set => ?_, fun unfit => ?_⟩⟩
  · obtain ⟨-, -, -, ended, slot', ring, staging, posted⟩ := enterEnded_facts .bandEnded slot outcome
    rw [plain alone]
    exact ⟨ended, slot', ring, staging, posted⟩
  · have desc' : (endCurrency s).jobs[m].desc = some e := by rw [job other]; exact desc
    have fit : (endCurrency s).qualifies m = true := qualifies_iff.mpr
      ⟨e, desc', by rw [job other]; exact fresh, by rw [mounted]; exact there, (fits e).mpr heads, (curves e).mpr set⟩
    have lifted : ∀ h, e.heads.get h = true → (s.heads.get h).state = .lifted := fun h used =>
      (leads.heads h).trans (heads h used).2
    obtain ⟨continued, -⟩ := chain_continued other desc' fit lifted
    unfold Continued at continued
    rw [chains m complete next]
    rw [taken, leads.up] at continued
    exact continued
  · have stops : (endCurrency s).qualifies m = false := by
      refine Bool.eq_false_iff.mpr fun fit => ?_
      obtain ⟨e, desc, fresh, there, heads, set⟩ := qualifies_iff.mp fit
      rw [job other] at desc fresh
      rw [mounted] at there
      rcases unfit with none_ | run | ⟨e', desc', wrong⟩
      · rw [none_] at desc
        cases desc
      · exact run fresh
      · obtain rfl : e' = e := Option.some.inj (desc'.symm.trans desc)
        rcases wrong with strange | busy | unset
        · exact strange there
        · exact busy ((fits e').mp heads)
        · exact unset ((curves e').mp set)
    obtain ⟨-, -, -, ended, slot', ring, -, posted⟩ := enterEnded_facts .chainStopped slot outcome
    rw [chains m complete next, chain_stops stops]
    exact ⟨ended, slot', ring, posted⟩

theorem BandLeft.after {o : BandOutcome} {i : Fin 64} {d : Descriptor} {x t u : State} (left : BandLeft o i d x t)
    (after : After t u) : BandLeft o i d x u := by
  obtain ⟨same, pending⟩ := after
  unfold BandLeft at left ⊢
  rw [same.jobs, same.engine, same.grid, same.store, same.staging]
  obtain ⟨phase, outcome, store, plain, chains⟩ := left
  refine ⟨phase, outcome, store, fun alone => ?_, fun m complete next other => ⟨fun e desc fresh there heads set => ?_, fun unfit => ?_⟩⟩
  · obtain ⟨ended, slot, ring, staging, posted⟩ := plain alone
    exact ⟨ended, slot, ring, staging, pending _ posted⟩
  · obtain ⟨slot, ring, goes⟩ := (chains m complete next other).1 e desc fresh there heads set
    refine ⟨slot, ring, ?_⟩
    by_cases taken : x.cutAbortTaken = true
    · rw [if_pos taken] at goes ⊢
      obtain ⟨ended, phase, cause, posted⟩ := goes
      exact ⟨ended, phase, cause, pending _ posted⟩
    rw [if_neg taken] at goes ⊢
    by_cases up : (x.links.get .machine).up = true
    · rw [if_pos up] at goes ⊢
      exact goes
    · rw [if_neg up] at goes ⊢
      obtain ⟨ended, phase, cause, posted⟩ := goes
      exact ⟨ended, phase, cause, pending _ posted⟩
  · obtain ⟨ended, slot, ring, posted⟩ := (chains m complete next other).2 unfit
    exact ⟨ended, slot, ring, pending _ posted⟩

end Sys2Proof.Machine

end

section
/-! PROOFS. ENDING ends when the last head comes to rest, by its lift, a fault or a clearing (O41). -/

namespace Sys2Proof.Machine

/-! ### A head that has come to a state -/

/-- From `s` to `y` head `h` has come to state `v`, and nothing that the band's end reads has changed beside. -/
structure HeadCame (h : HeadId) (v : HeadState) (s y : State) : Prop where
  engine : y.engine = s.engine
  jobs : y.jobs = s.jobs
  store : y.store = s.store
  staging : y.staging = s.staging
  grid : y.grid = s.grid
  cutAbort : y.sup.cutAbort = s.sup.cutAbort
  up : (y.links.get .machine).up = (s.links.get .machine).up
  head : (y.heads.get h).state = v
  others : ∀ k, k ≠ h → (y.heads.get k).state = (s.heads.get k).state

section
variable {h : HeadId} {v : HeadState} {s y : State}

theorem HeadCame.leads (came : HeadCame h v s y) (i : Fin 64) :
    Leads i (s.withHeads (s.heads.set h { s.heads.get h with state := v })) y where
  store := came.store
  job m _ := by rw [came.jobs]; rfl
  mounted := by rw [came.engine]; rfl
  heads k := by
    rw [State.withHeads_heads, PerHead.get_set]
    split
    · next is => rw [is]; exact came.head
    · next other => exact came.others k other
  cutAbort := came.cutAbort
  up := came.up

theorem HeadCame.band (came : HeadCame h v s y) : y.band = s.band := (SameBand.of_eq came.engine came.jobs).band

theorem HeadCame.waits (came : HeadCame h v s y) {t : State} (same : SameBlocks y t) :
    (t.heads.get h).state = v ∧
      t.engine = s.engine ∧ t.jobs = s.jobs ∧ t.store = s.store ∧ t.staging = s.staging ∧ t.grid = s.grid := by
  rw [same.heads]
  exact ⟨came.head, same.engine.trans came.engine, same.jobs.trans came.jobs, same.store.trans came.store,
    same.staging.trans came.staging, same.grid.trans came.grid⟩

/-- The heads of the set are at rest when the head that came is, and the others were. -/
theorem HeadCame.atRest (came : HeadCame h v s y) {d : Descriptor} (rests : v.atRest = true) :
    d.atRest y = true ↔ ∀ k, k ≠ h → d.heads.get k = true → (s.heads.get k).state.atRest = true := by
  rw [Descriptor.atRest, List.all_eq_true]
  refine ⟨fun all k other used => ?_, fun others k _ => ?_⟩
  · have at_k := all k (by cases k <;> decide)
    rw [came.others k other] at at_k
    simpa [used] using at_k
  · by_cases is : k = h
    · rw [is, came.head, rests, Bool.or_true]
    · rw [came.others k is]
      cases used : d.heads.get k with
      | false => rfl
      | true => simp [others k is used]

/-- A head in the set that has come to a state that is no rest keeps the band in ENDING. -/
theorem HeadCame.busy (came : HeadCame h v s y) {d : Descriptor} (used : d.heads.get h = true) (moves : v.atRest = false) :
    d.atRest y = false := by
  rw [Descriptor.atRest, List.all_eq_false]
  exact ⟨h, by cases h <;> decide, by rw [came.head, used, moves]; decide⟩

end

/-! ### A FAULTED head stays FAULTED while the band ends -/

section
variable {s : State} {h : HeadId} (faulted : (s.heads.get h).state = .faulted)
include faulted

theorem liftSet_faulted : ((liftSet s).heads.get h).state = .faulted := by
  rw [liftSet_head]
  split
  · rw [HeadUnit.lift, faulted]
    exact faulted
  · exact faulted

theorem lowered_faulted (d : Descriptor) : ((lowered d s).heads.get h).state = .faulted := by
  unfold lowered
  split
  · exact faulted
  · simp only [State.modEngine_heads, lowerSet, State.withHeads_heads, PerHead.get_mapH, HeadUnit.lower_eq]
    split
    · simp [loweredHead, faulted]
    · exact faulted

theorem abort_faulted (c : EndCause) (f : Option HeadId) : ((abort c f s).heads.get h).state = .faulted := by
  by_cases runs : s.engine.state.abortable = true
  · have same : (postDueStall s).heads = s.heads := by simp
    rw [abort_heads c f runs]
    refine liftSet_faulted ?_
    rw [preAbort_head, same]
    split <;> exact faulted
  · rw [abort_of_rest (Bool.eq_false_iff.mpr runs)]
    exact faulted

theorem stopBand_faulted (c : StopCause) : ((stopBand c s).heads.get h).state = .faulted := by
  have entry : ((toEnding .stopped (some c.endCause) none s).heads.get h).state = .faulted := by
    rw [toEnding_heads]
    exact liftSet_faulted faulted
  unfold stopBand leaveEndingPlain
  split
  · rw [(enterEnded_keeps _ _).2.2.2.2.1]
    exact entry
  · exact entry

theorem enterPreparing_faulted (chained : Bool) : ((enterPreparing chained s).heads.get h).state = .faulted := by
  have still : ((s.modEngine fun g => { g with state := .preparing, hold := none }).heads.get h).state = .faulted := faulted
  unfold enterPreparing
  dsimp only
  generalize s.modEngine _ = t at still ⊢
  repeat' split
  · exact abort_faulted still _ _
  · exact abort_faulted still _ _
  · exact stopBand_faulted still _
  · rw [prepareActions_eq, (placeCarriage_keeps _ _).2.2.2.2.2.1]
    exact lowered_faulted still _
  · exact still

theorem leaveEnding_faulted : ((leaveEnding s).heads.get h).state = .faulted := by
  have ended (e : EventKind) : ((enterEnded e s).heads.get h).state = .faulted := by
    rw [(enterEnded_keeps _ _).2.2.2.2.1]
    exact faulted
  unfold leaveEnding
  split
  · split
    · split
      · unfold chain
        dsimp only
        split
        · refine enterPreparing_faulted ?_ _
          have same (d : Descriptor) (m : Fin 64) : (awaitIndex (armSlot m d true (endCurrency s))).heads = s.heads := by simp
          rw [same]
          exact faulted
        · exact ended .chainStopped
      · exact ended _
    · exact ended _
  · exact faulted

end

/-! ### The three ways to rest (R64, R69, R70) -/

/-- What the band of `s` in ENDING comes to when head `h` has come to a state of rest in `y`, and `t` follows. -/
theorem HeadCame.ends {h : HeadId} {v : HeadState} {s y t : State} {o : BandOutcome} {i : Fin 64} {d : Descriptor}
    (came : HeadCame h v s y) (ending : s.engine.state = .ending) (band : s.band = some d) (slot : s.engine.slot = some i)
    (outcome : s.jobs[i].record.outcome = some o) (rests : v.atRest = true) (after : After (leaveEnding y) t) :
    ((∀ k, k ≠ h → d.heads.get k = true → (s.heads.get k).state.atRest = true) →
      BandLeft o i d (s.withHeads (s.heads.set h { s.heads.get h with state := v })) t) ∧
    (¬(∀ k, k ≠ h → d.heads.get k = true → (s.heads.get k).state.atRest = true) →
      (t.heads.get h).state = v ∧
        t.engine = s.engine ∧ t.jobs = s.jobs ∧ t.store = s.store ∧ t.staging = s.staging ∧ t.grid = s.grid) := by
  have ending' : y.engine.state = .ending := by rw [came.engine]; exact ending
  have slot' : y.engine.slot = some i := by rw [came.engine]; exact slot
  have outcome' : y.jobs[i].record.outcome = some o := by rw [came.jobs]; exact outcome
  have band' := came.band.trans band
  refine ⟨fun others => ?_, fun busy => ?_⟩
  · exact BandLeft.after (leaveEnding_left ending' band' slot' outcome' ((came.atRest rests).mpr others) (came.leads i)) after
  · have waits : d.atRest y = false := Bool.eq_false_iff.mpr fun all => busy ((came.atRest rests).mp all)
    rw [leaveEnding_waiting band' waits] at after
    exact came.waits after.same

theorem headMoved_ending {h : HeadId} {s : State} (used : s.headInUse h = true) (ending : s.engine.state = .ending) :
    headMoved h s = leaveEnding s := by
  rw [headMoved, if_pos used, if_pos ending]

theorem HeadUnit.endLift_state {u : HeadUnit} (request : u.lowerRequest = false) (now : Nat) (p : HeadParams) :
    u.endLift now p = { u with state := .lifted, timeout := none } := by
  rw [HeadUnit.endLift, if_neg (by rw [request]; decide)]

/-- The landed sense of a LIFTING head goes off (R64). -/
theorem landedSense_lifts {s : State} {h : HeadId} (outside : s.inMasterReset = false) (ending : s.engine.state = .ending)
    (used : s.headInUse h = true) (lifting : (s.heads.get h).state = .lifting) (landed : (s.heads.get h).landed = true)
    (request : (s.heads.get h).lowerRequest = false) :
    ∃ y, HeadCame h .lifted s y ∧ exec (.landedSenseChange h false) s = .next (settle (leaveEnding y)) := by
  have sensed := modHead_head h (fun x => { x with landed := false }) (s.withPins { s.pins with landed := s.pins.landed.set h false })
  have at_h : (s.sensed h false).heads.get h = { s.heads.get h with landed := false } := sensed
  refine ⟨(s.sensed h false).modHead h (HeadUnit.endLift s.now (s.params h)), ?_, ?_⟩
  · refine ⟨rfl, rfl, rfl, rfl, rfl, rfl, rfl, ?_, fun k other => ?_⟩
    · rw [modHead_head, at_h, HeadUnit.endLift_state (by exact request)]
    · simp only [State.modHead_heads, PerHead.get_set_ne _ _ other, State.sensed, State.withPins_heads]
  · have off : senseOff h (s.sensed h false) = leaveEnding ((s.sensed h false).modHead h (HeadUnit.endLift s.now (s.params h))) := by
      have state : ((s.sensed h false).heads.get h).state = .lifting := by rw [at_h]; exact lifting
      unfold senseOff
      rw [state]
      exact headMoved_ending used ending
    have changes : landedSenseChange h false s = settle (senseOff h (s.sensed h false)) := by
      rw [landedSenseChange_eq, outside, landed]
      rfl
    exact congrArg Host.Outcome.next (changes.trans (congrArg settle off))

theorem postAll_up (e : EventKind) (s : State) (l : LinkId) : ((postAll e s).links.get l).up = (s.links.get l).up := by
  simp only [postAll, State.withLinks_links, PerLink.get_mapL]
  exact (LinkUnit.post_keeps e _).1

/-- The head faults, and HEAD_FAULT is posted (R66). -/
theorem HeadCame.fault {h : HeadId} {v : HeadState} {s x : State} (came : HeadCame h v s x) (c : HeadCause) :
    HeadCame h .faulted s (postAll .headFault (x.modHead h (HeadUnit.fault c))) where
  engine := came.engine
  jobs := came.jobs
  store := came.store
  staging := came.staging
  grid := came.grid
  cutAbort := came.cutAbort
  up := (postAll_up _ _ _).trans came.up
  head := by
    have at_h := modHead_head h (HeadUnit.fault c) x
    exact congrArg HeadUnit.state at_h
  others k other := by
    have at_k : (postAll .headFault (x.modHead h (HeadUnit.fault c))).heads.get k = x.heads.get k := PerHead.get_set_ne _ _ other
    rw [at_k]
    exact came.others k other

theorem faultHead_ending {h : HeadId} {c : HeadCause} {s : State} (used : s.headInUse h = true) (ending : s.engine.state = .ending) :
    faultHead h c s = leaveEnding (postAll .headFault (s.modHead h (HeadUnit.fault c))) := by
  unfold faultHead reportFault
  rw [if_pos (by exact used), if_pos (by exact ending)]

theorem passTime_cutAbort (dt : Nat) (s : State) : (passTime dt s).sup.cutAbort = s.sup.cutAbort := by
  unfold passTime
  rw [State.modSup_sup, State.withNow_sup]
  cases s.sup.active <;> rfl

theorem HeadCame.timed (h : HeadId) (a : Nat) (s : State) : HeadCame h (s.heads.get h).state s (passTimeTo a s) :=
  ⟨rfl, rfl, rfl, rfl, rfl, passTime_cutAbort _ s, rfl, rfl, fun _ _ => rfl⟩

theorem HeadCame.ported {h : HeadId} {s : State} {f : HeadUnit → HeadUnit} (same : (f (s.heads.get h)).state = (s.heads.get h).state)
    (p : Pins) : HeadCame h (s.heads.get h).state s ((s.withPins p).modHead h f) := by
  refine ⟨rfl, rfl, rfl, rfl, rfl, rfl, rfl, ?_, fun k other => ?_⟩
  · exact (congrArg HeadUnit.state (modHead_head h f (s.withPins p))).trans same
  · exact congrArg HeadUnit.state (PerHead.get_set_ne _ _ other)

/-- The head is cleared by a request taken on link `l` (R70, check 4). -/
theorem HeadCame.cleared {l : LinkId} {h : HeadId} {s : State} :
    HeadCame h (if (s.heads.get h).landed then .lifting else .lifted) s
      ((markTaken l s).modHead h (HeadUnit.clear s.now (s.params h))) := by
  refine ⟨rfl, rfl, rfl, rfl, rfl, rfl, markTaken_up l .machine s, ?_, fun k other => ?_⟩
  · exact (congrArg HeadUnit.state (modHead_head h _ (markTaken l s))).trans (HeadUnit.clear_state _ _ _)
  · exact congrArg HeadUnit.state (PerHead.get_set_ne _ _ other)

/-- A fault reaches the part as a head that enters FAULTED (R62, R64, R65, R67). -/
theorem exec_faults {s : State} {h : HeadId} {c : Instr} {cause : HeadCause} (outside : s.inMasterReset = false)
    (faults : Faults s h c cause) :
    ∃ x, HeadCame h (s.heads.get h).state s x ∧ exec c s = .next (settle (faultHead h cause x)) := by
  unfold Faults at faults
  split at faults
  · obtain ⟨rfl, rfl, clear, fitted, sound⟩ := faults
    next k =>
    have came : HeadCame k (s.heads.get k).state s (s.amped k true) := .ported rfl _
    have on : ampOn k (s.amped k true) = faultHead k .ampFault (s.amped k true) := by
      unfold ampOn
      rw [came.head]
      cases state : (s.heads.get k).state with
      | offline => exact absurd state fitted
      | faulted => exact absurd state sound
      | lifted => rfl
      | lowering => rfl
      | engaged => rfl
      | lifting => rfl
    have changes : ampFaultChange k true s = settle (ampOn k (s.amped k true)) := by
      rw [ampFaultChange_eq, outside, clear]
      rfl
    exact ⟨s.amped k true, came, congrArg Host.Outcome.next (changes.trans (congrArg settle on))⟩
  · obtain ⟨rfl, rfl, landed, engaged⟩ := faults
    next k =>
    have came : HeadCame k (s.heads.get k).state s (s.sensed k false) := .ported rfl _
    have off : senseOff k (s.sensed k false) = faultHead k .lostContact (s.sensed k false) := by
      unfold senseOff
      rw [came.head, engaged]
    have changes : landedSenseChange k false s = settle (senseOff k (s.sensed k false)) := by
      rw [landedSenseChange_eq, outside, landed]
      rfl
    exact ⟨s.sensed k false, came, congrArg Host.Outcome.next (changes.trans (congrArg settle off))⟩
  · obtain ⟨rfl, lowering, a, timeout⟩ := faults
    next k =>
    have expires : lowerTimeoutExpiry k s = faultHead k .landTimeout (passTimeTo a s) := by
      unfold lowerTimeoutExpiry
      rw [lowering, timeout]
    exact ⟨passTimeTo a s, .timed k a s, (exec_line (c := .lowerTimeoutExpiry k) (fun _ => rfl) outside).trans
      (congrArg (fun x => Host.Outcome.next (settle x)) expires)⟩
  · obtain ⟨rfl, lifting, a, timeout⟩ := faults
    next k =>
    have expires : liftTimeoutExpiry k s = faultHead k .liftTimeout (passTimeTo a s) := by
      unfold liftTimeoutExpiry
      rw [lifting, timeout]
    exact ⟨passTimeTo a s, .timed k a s, (exec_line (c := .liftTimeoutExpiry k) (fun _ => rfl) outside).trans
      (congrArg (fun x => Host.Outcome.next (settle x)) expires)⟩
  · exact faults.elim

/-- Settles O41. -/
theorem endingEndsAtRest : Obligations.EndingEndsAtRest := by
  intro s i d h o outside ending band slot outcome inSet
  have used : s.headInUse h = true := (headInUse_of_band band h).trans inSet
  refine ⟨fun lifting landed request => ?_, fun c cause faults => ?_, fun head ready names faulted amp => ?_⟩
  · obtain ⟨y, came, run⟩ := landedSense_lifts outside ending used lifting landed request
    exact ⟨_, run, came.ends ending band slot outcome rfl (.settle _)⟩
  · obtain ⟨x, came, run⟩ := exec_faults outside faults
    have faulted := came.fault cause
    have usedx : x.headInUse h = true := (headInUse_of_band (came.band.trans band) h).trans inSet
    have endingx : x.engine.state = .ending := by rw [came.engine]; exact ending
    have goes := faultHead_ending (c := cause) usedx endingx
    rw [goes] at run
    obtain ⟨leaves, waits⟩ := faulted.ends ending band slot outcome rfl (.settle _)
    refine ⟨_, run, ?_, leaves, fun busy => (waits busy).2⟩
    rw [(settle_keeps _).2.2.2.2.2.1]
    exact leaveEnding_faulted faulted.head
  · have clears := HeadCame.cleared (l := .machine) (s := s) (h := h)
    have answers : clearHeadFault (some head.toNat) (markTaken .machine s) =
        acceptMoving (headMoved h ((markTaken .machine s).modHead h (HeadUnit.clear s.now (s.params h)))) := by
      rw [names]
      exact clearHeadFault_of_head.trans ((if_neg (not_not.mpr faulted)).trans (if_neg (Bool.eq_false_iff.mp amp)))
    obtain ⟨t, run, replied, after, -⟩ := exec_moved (c := .clearHeadFault .machine head) rfl ready rfl (fun _ => rfl) answers
      (headMoved_modHead_moves (.clear _ _ faulted))
    have leaves := headMoved_ending (s := (markTaken .machine s).modHead h (HeadUnit.clear s.now (s.params h))) used ending
    rw [leaves] at after
    refine ⟨t, run, replied, fun landed => ?_, fun off => ?_⟩
    · rw [if_pos landed] at clears
      rw [leaveEnding_waiting (clears.band.trans band) (clears.busy inSet rfl)] at after
      exact clears.waits after.same
    · rw [if_neg (Bool.eq_false_iff.mp off)] at clears
      exact clears.ends ending band slot outcome rfl after

end Sys2Proof.Machine

end

section
/-! PROOFS. Changes at the head ports that are no fault and end no band (O21). -/

namespace Sys2Proof.Machine

/-! ### The head's own part of a change of its landed sense (R58, R62, R64, R65, R68) -/

/-- The part with head `h` as a change of its landed sense leaves it, before the engine hears of it. -/
def sensedTo (h : HeadId) (on : Bool) (s : State) : State :=
  (s.withPins { s.pins with landed := s.pins.landed.set h on }).withHeads
    (s.heads.set h (sensedHead s.now (s.params h) on (s.heads.get h)))

/-- The state a head comes to when the engine hears of the change of its landed sense, and none when it does not. -/
def heardState (on : Bool) (u : HeadUnit) : Option HeadState :=
  match u.state, on with
  | .lowering, true => some .engaged
  | .lifted, true => some .lifting
  | .lifting, false => some (if u.lowerRequest then .lowering else .lifted)
  | _, _ => none

theorem heardState_engaged {on : Bool} {u : HeadUnit} (heard : heardState on u = some .engaged) : u.state = .lowering := by
  unfold heardState at heard
  split at heard
  · assumption
  · cases heard
  · split at heard <;> cases heard
  · cases heard

theorem heardState_rests {on : Bool} {u : HeadUnit} {v : HeadState} (heard : heardState on u = some v)
    (rests : v.atRest = true) : u.state = .lifting ∧ on = false ∧ u.lowerRequest = false := by
  unfold heardState at heard
  split at heard
  · cases heard; cases rests
  · cases heard; cases rests
  · next state =>
    split at heard
    · cases heard; cases rests
    · next request => exact ⟨state, rfl, Bool.eq_false_iff.mpr request⟩
  · cases heard

/-- What the head and the engine do on the change of a landed sense that is no lost contact. -/
def sense (h : HeadId) (on : Bool) (s : State) : State :=
  if on then senseOn h (s.sensed h on) else senseOff h (s.sensed h on)

theorem sensed_modHead (h : HeadId) (on : Bool) (f : HeadUnit → HeadUnit) (s : State) : (s.sensed h on).modHead h f =
    (s.withPins { s.pins with landed := s.pins.landed.set h on }).withHeads
      (s.heads.set h (f { s.heads.get h with landed := on })) := by
  unfold State.sensed
  rw [State.modHead_modHead]
  rfl

theorem sense_heard {h : HeadId} {on : Bool} {s : State} {v : HeadState} (heard : heardState on (s.heads.get h) = some v) :
    sense h on s = headMoved h (sensedTo h on s) ∧ ((sensedTo h on s).heads.get h).state = v := by
  have at_h : (s.sensed h on).heads.get h = { s.heads.get h with landed := on } := modHead_head h _ _
  have after : (sensedTo h on s).heads.get h = sensedHead s.now (s.params h) on (s.heads.get h) := PerHead.get_set_self _ _ _
  rw [after]
  unfold heardState at heard
  unfold sense sensedTo sensedHead senseOn senseOff
  simp only [at_h, sensed_modHead]
  cases on with
  | true =>
    cases state : (s.heads.get h).state <;> rw [state] at heard <;> cases heard
    · exact ⟨rfl, rfl⟩
    · exact ⟨rfl, rfl⟩
  | false =>
    cases state : (s.heads.get h).state <;> rw [state] at heard <;> cases heard
    cases (s.heads.get h).lowerRequest <;> exact ⟨rfl, rfl⟩

theorem sensedHead_unheard {on : Bool} {u : HeadUnit} (unheard : heardState on u = none) (now : Nat) (p : HeadParams) :
    sensedHead now p on u = { u with landed := on } := by
  obtain ⟨state, cause, request, timeout, landed, amp, drive, stylus⟩ := u
  cases on <;> cases state <;> cases unheard <;> rfl

/-- A change that the engine does not hear of is recorded, and nothing more. -/
theorem sense_unheard {h : HeadId} {on : Bool} {s : State} (unheard : heardState on (s.heads.get h) = none)
    (held : ¬((s.heads.get h).state = .engaged ∧ on = false)) :
    sense h on s = sensedTo h on s ∧ ((s.heads.get h).state = .lowering → on = false) := by
  have at_h : (s.sensed h on).heads.get h = { s.heads.get h with landed := on } := modHead_head h _ _
  have recorded : sensedTo h on s = s.sensed h on := by
    rw [sensedTo, sensedHead_unheard unheard]
    rfl
  unfold heardState at unheard
  unfold sense senseOn senseOff
  rw [recorded, at_h]
  cases on with
  | true =>
    cases state : (s.heads.get h).state <;> rw [state] at unheard <;> cases unheard
    all_goals exact ⟨rfl, nofun⟩
  | false =>
    cases state : (s.heads.get h).state <;> rw [state] at unheard <;> cases unheard
    case engaged.refl => exact absurd ⟨state, rfl⟩ held
    all_goals exact ⟨rfl, fun _ => rfl⟩

/-! ### What the engine does on hearing of it (R131, R144) -/

/-- A head that has come to a state of no rest, or to rest in a band not ENDING, starts the settle count in PREPARING when
every head of the set is ENGAGED, and does nothing else. -/
theorem headMoved_facts {h : HeadId} {y : State}
    (waits : ¬(y.engine.state = .ending ∧ y.headInUse h = true ∧ (y.heads.get h).state.atRest = true)) :
    (headMoved h y).heads = y.heads ∧ (headMoved h y).jobs = y.jobs ∧ (headMoved h y).staging = y.staging ∧
      (headMoved h y).store = y.store ∧ (headMoved h y).cells = y.cells ∧ (headMoved h y).grid = y.grid ∧
      (headMoved h y).custody = y.custody ∧ (headMoved h y).engine =
        { y.engine with
          settleCount :=
            if y.engine.state = .preparing ∧ y.engine.settleCount = none ∧ y.headInUse h = true ∧
                (y.band.map fun d => d.kind) ≠ some .dryPass ∧ y.setEngaged = true
            then some 0 else y.engine.settleCount } := by
  cases used : y.headInUse h with
  | false =>
    rw [headMoved, used]
    exact ⟨rfl, rfl, rfl, rfl, rfl, rfl, rfl, by simp⟩
  | true =>
    obtain ⟨d, band, inSet⟩ : ∃ d, y.band = some d ∧ d.heads.get h = true := by
      unfold State.headInUse at used
      cases band : y.band with
      | none => rw [band] at used; cases used
      | some d => rw [band] at used; exact ⟨d, rfl, used⟩
    by_cases ending : y.engine.state = .ending
    · have busy : d.atRest y = false := by
        rw [Descriptor.atRest, List.all_eq_false]
        refine ⟨h, by cases h <;> decide, ?_⟩
        cases rests : (y.heads.get h).state.atRest with
        | true => exact absurd ⟨ending, used, rests⟩ waits
        | false => rw [inSet]; decide
      rw [headMoved_ending used ending, leaveEnding_waiting band busy]
      exact ⟨rfl, rfl, rfl, rfl, rfl, rfl, rfl, by rw [if_neg fun both => by rw [ending] at both; cases both.1]⟩
    by_cases preparing : y.engine.state = .preparing
    · have goes : headMoved h y = headsReady y := by
        rw [headMoved, if_pos used, if_neg ending, if_pos preparing]
      rw [goes]
      refine ⟨by simp, by simp, by simp, by simp, by simp, by simp, by simp, ?_⟩
      unfold headsReady
      simp only [band, Option.map_some, ne_eq, Option.some.injEq, true_and]
      by_cases ready : ¬d.kind = .dryPass ∧ y.setEngaged = true ∧ y.engine.settleCount = none
      · rw [if_pos ready, if_pos ⟨preparing, ready.2.2, ready.1, ready.2.1⟩]
        rfl
      · rw [if_neg ready, if_neg fun both => ready ⟨both.2.2.1, both.2.2.2, both.2.1⟩]
    · have goes : headMoved h y = y := by
        rw [headMoved, if_pos used, if_neg ending, if_neg preparing]
      rw [goes]
      exact ⟨rfl, rfl, rfl, rfl, rfl, rfl, rfl, by rw [if_neg fun both => preparing both.1]⟩

theorem setEngaged_congr {t y : State} (heads : t.heads = y.heads) (inUse : t.headInUse = y.headInUse) :
    t.setEngaged = y.setEngaged := by
  unfold State.setEngaged
  rw [heads, inUse]

theorem landedSenseChange_changes {h : HeadId} {on : Bool} {s : State} (outside : s.inMasterReset = false)
    (changes : (s.heads.get h).landed ≠ on) : landedSenseChange h on s = settle (sense h on s) := by
  rw [landedSenseChange_eq, if_neg]
  · rfl
  · simp [outside, changes]

theorem landedSenseChange_recorded {h : HeadId} {on : Bool} {s : State}
    (none_ : s.inMasterReset = true ∨ (s.heads.get h).landed = on) :
    landedSenseChange h on s = s.withPins { s.pins with landed := s.pins.landed.set h on } := by
  rw [landedSenseChange_eq, if_pos]
  simpa using none_

/-- A head not in use moves alone (R150). -/
theorem sense_apart {h : HeadId} {on : Bool} {s : State} (held : ¬((s.heads.get h).state = .engaged ∧ on = false))
    (free : s.headInUse h = false) (supervised : Supervised s) :
    settle (sense h on s) = transmitAll (sensedTo h on s) := by
  have alone : sense h on s = sensedTo h on s := by
    cases heard : heardState on (s.heads.get h) with
    | none => exact (sense_unheard heard held).1
    | some v =>
      have still : (sensedTo h on s).headInUse h = false := free
      rw [(sense_heard heard).1, headMoved, still]
      rfl
  have same : (sensedTo h on s).anyLowered = s.anyLowered := anyLowered_congr rfl fun k used => by
    have other : k ≠ h := fun is => by rw [is, free] at used; cases used
    exact congrArg HeadUnit.state (PerHead.get_set_ne _ _ other)
  rw [alone, settle_of_stands]
  rw [same]
  exact supervised.1

/-- What the part comes to after a change of the landed sense that neither loses contact nor completes a lift of a band in
ENDING. -/
theorem sense_facts {h : HeadId} {on : Bool} {s : State} (held : ¬((s.heads.get h).state = .engaged ∧ on = false))
    (waits : ¬(s.engine.state = .ending ∧ s.headInUse h = true ∧ (s.heads.get h).state = .lifting ∧ on = false ∧
      (s.heads.get h).lowerRequest = false)) :
    (sense h on s).heads = (sensedTo h on s).heads ∧ (sense h on s).jobs = s.jobs ∧ (sense h on s).staging = s.staging ∧
      (sense h on s).store = s.store ∧ (sense h on s).cells = s.cells ∧ (sense h on s).grid = s.grid ∧
      (sense h on s).custody = s.custody ∧ (sense h on s).engine =
        { s.engine with
          settleCount :=
            if s.engine.state = .preparing ∧ s.engine.settleCount = none ∧ s.headInUse h = true ∧
                (s.band.map fun d => d.kind) ≠ some .dryPass ∧ (s.heads.get h).state = .lowering ∧
                (sensedTo h on s).setEngaged = true
            then some 0 else s.engine.settleCount } := by
  have sameUse : (sensedTo h on s).headInUse = s.headInUse := rfl
  have engages (used : s.headInUse h = true) (all : (sensedTo h on s).setEngaged = true) :
      ((sensedTo h on s).heads.get h).state = .engaged := by
    by_contra off
    rw [not_setEngaged (s := sensedTo h on s) used off] at all
    cases all
  cases heard : heardState on (s.heads.get h) with
  | none =>
    obtain ⟨alone, lowering⟩ := sense_unheard heard held
    have quiet : ¬(s.engine.state = .preparing ∧ s.engine.settleCount = none ∧ s.headInUse h = true ∧
        (s.band.map fun d => d.kind) ≠ some .dryPass ∧ (s.heads.get h).state = .lowering ∧
        (sensedTo h on s).setEngaged = true) := by
      rintro ⟨-, -, used, -, down, all⟩
      have engaged := engages used all
      have at_h : (sensedTo h on s).heads.get h = sensedHead s.now (s.params h) on (s.heads.get h) := PerHead.get_set_self _ _ _
      rw [at_h, sensedHead_unheard heard, down] at engaged
      cases engaged
    rw [alone, if_neg quiet]
    exact ⟨rfl, rfl, rfl, rfl, rfl, rfl, rfl, rfl⟩
  | some v =>
    obtain ⟨moved, state⟩ := sense_heard heard
    have busy : ¬((sensedTo h on s).engine.state = .ending ∧ (sensedTo h on s).headInUse h = true ∧
        ((sensedTo h on s).heads.get h).state.atRest = true) := by
      rintro ⟨ending, used, rests⟩
      rw [state] at rests
      exact waits ⟨ending, used, heardState_rests heard rests⟩
    obtain ⟨heads, jobs, staging, store, cells, grid, custody, engine⟩ := headMoved_facts busy
    rw [moved]
    refine ⟨heads, jobs, staging, store, cells, grid, custody, engine.trans ?_⟩
    have down (used : s.headInUse h = true) (all : (sensedTo h on s).setEngaged = true) : (s.heads.get h).state = .lowering :=
      heardState_engaged (heard.trans (congrArg some (state.symm.trans (engages used all))))
    refine congrArg (fun n => { s.engine with settleCount := n }) ?_
    refine if_congr ?_ rfl rfl
    constructor
    · rintro ⟨preparing, fresh, used, kind, all⟩
      exact ⟨preparing, fresh, used, kind, down used all, all⟩
    · rintro ⟨preparing, fresh, used, kind, -, all⟩
      exact ⟨preparing, fresh, used, kind, all⟩

theorem amp_unheard {h : HeadId} {on : Bool} {s : State}
    (still : on = false ∨ (s.heads.get h).state = .offline ∨ (s.heads.get h).state = .faulted) :
    (if on then ampOn h (s.amped h on) else s.amped h on) = s.amped h on := by
  have came : HeadCame h (s.heads.get h).state s (s.amped h on) := .ported rfl _
  cases on with
  | false => rfl
  | true =>
    rw [if_pos rfl, ampOn, came.head]
    rcases still with off | state | state
    · cases off
    · rw [state]
    · rw [state]

/-- Settles O21. -/
theorem headPortEvents : Obligations.HeadPortEvents := by
  intro h on s
  refine ⟨fun none_ => congrArg Host.Outcome.next (landedSenseChange_recorded none_), fun outside changes held => ⟨fun free supervised => ?_,
    fun waits => ?_⟩, ⟨fun none_ => ?_, fun outside supervised changes still => ?_⟩, fun outside supervised => ⟨fun idle => ?_, fun idle => ?_⟩⟩
  · exact congrArg Host.Outcome.next ((landedSenseChange_changes outside changes).trans (sense_apart held free supervised))
  · obtain ⟨heads, jobs, staging, store, cells, grid, custody, engine⟩ := sense_facts held waits
    have same : SameBlocks (sense h on s) (settle (sense h on s)) := rfl
    have engaged : (settle (sense h on s)).setEngaged = (sensedTo h on s).setEngaged := by
      refine setEngaged_congr (same.heads.trans heads) (State.headInUse_of_engine ?_ ?_ fun i => ?_)
      · rw [same.engine, engine]
        rfl
      · rw [same.engine, engine]
        rfl
      · rw [same.jobs, jobs]
        rfl
    refine ⟨_, congrArg Host.Outcome.next (landedSenseChange_changes outside changes), heads, ?_, jobs, staging, store, cells,
      grid, custody⟩
    rw [engaged]
    exact same.engine.trans engine
  · refine congrArg Host.Outcome.next ?_
    rw [ampFaultChange_eq, if_pos]
    simpa using none_
  · have recorded : ampFaultChange h on s = settle (s.amped h on) := by
      rw [ampFaultChange_eq, if_neg (by simpa [outside] using changes)]
      exact congrArg settle (amp_unheard still)
    have stands : (s.amped h on).sup.active = (s.amped h on).anyLowered :=
      stands_congr supervised.1 rfl (anyLowered_modHead (s := s.withPins _) rfl)
    exact congrArg Host.Outcome.next (recorded.trans (settle_of_stands stands))
  · have ignored : lowerTimeoutExpiry h s = s := by
      unfold lowerTimeoutExpiry
      split
      · next a _ timeout => exact absurd timeout (idle a)
      · rfl
    rw [exec_line (c := .lowerTimeoutExpiry h) (fun _ => rfl) outside, ignored, settle_of_stands supervised.1]
  · have ignored : liftTimeoutExpiry h s = s := by
      unfold liftTimeoutExpiry
      split
      · next a _ timeout => exact absurd timeout (idle a)
      · rfl
    rw [exec_line (c := .liftTimeoutExpiry h) (fun _ => rfl) outside, ignored, settle_of_stands supervised.1]

end Sys2Proof.Machine

end

section
/-! PROOFS. The steps of the line that make no boundary (O7). -/

namespace Sys2Proof.Machine

/-! ### The position, the time and the stall counter (R2, R10, R151; log entry 2) -/

/-- The stall counter after a step: 0 and the warning ARMED while supervision is ACTIVE (R151). -/
def Supervisor.stepped (u : Supervisor) : Supervisor :=
  { u with stall := if u.active then 0 else u.stall, warnArmed := if u.active then true else u.warnArmed }

/-- The part after the position, the time and the stall counter of a step, before the grid moves. -/
def State.stepped (dir : Direction) (a : Nat) (s : State) : State :=
  ((s.withNow (max s.now a)).withSup s.sup.stepped).withGrid { s.grid with position := movePosition dir s.grid.position }

theorem max_eq_add_sub (m n : Nat) : max m n = m + (n - m) := by omega

theorem passTimeTo_stepStall (a : Nat) (f : Grid → Grid) (s : State) : stepStall ((passTimeTo a s).modGrid f) =
    ((s.withNow (max s.now a)).withSup s.sup.stepped).withGrid (f s.grid) := by
  rw [max_eq_add_sub]
  unfold Supervisor.stepped passTimeTo passTime stepStall
  cases active : s.sup.active
  · simp only [State.modSup, State.modGrid, State.withSup, State.withGrid, State.withNow, active, Bool.false_eq_true, if_false]
    rw [← active]
  · simp [State.modSup, State.modGrid, State.withSup, State.withGrid, State.withNow, active]

theorem stepEvent_eq (dir : Direction) (a : Nat) (s : State) : stepEvent dir a s =
    match dir with
    | .forward => forwardStep (s.stepped dir a)
    | .reverse => if s.sup.active then motionFault .reverseRotation (s.stepped dir a) else s.stepped dir a := by
  unfold stepEvent
  dsimp only
  rw [passTimeTo_stepStall]
  rfl

theorem stepEvent_forward (a : Nat) (s : State) : stepEvent .forward a s = forwardStep (s.stepped .forward a) :=
  stepEvent_eq .forward a s

theorem stepEvent_reverse_idle {s : State} (off : s.sup.active = false) (a : Nat) :
    stepEvent .reverse a s = s.stepped .reverse a :=
  (stepEvent_eq .reverse a s).trans (if_neg (by rw [off]; decide))

/-- Supervision stands after a change of the time, the stall counter and the grid. -/
theorem stepped_stands {s t : State} (supervised : Supervised s) (sup : t.sup = s.sup.stepped)
    (lowered : t.anyLowered = s.anyLowered) : t.sup.active = t.anyLowered := by
  rw [sup, lowered]
  exact supervised.1

/-! ### Steps that make no boundary (R7, R9, R10) -/

/-- The grid with its accumulator moved to `n`, or wrapped at a carry. -/
def State.accumulated (n : Nat) (s : State) : State :=
  s.modGrid fun g => { g with acc := if n < Config.stepsPerRev then n else n - Config.stepsPerRev }

theorem forwardStep_still {s : State} (still : ¬(s.grid.state = .running ∧ s.band.isSome = true)) : forwardStep s = s := by
  unfold forwardStep
  split
  · next d running band => exact absurd ⟨running, by rw [band]; rfl⟩ still
  · rfl

theorem forwardStep_running {s : State} {d : Descriptor} (running : s.grid.state = .running) (band : s.band = some d) :
    forwardStep s = gridStep d s := by
  simp only [forwardStep, running, band]

/-- A step of a RUNNING grid that makes no boundary moves its accumulator alone (R9). -/
theorem gridStep_quiet {d : Descriptor} {s : State}
    (quiet : s.grid.acc + d.nc < Config.stepsPerRev ∨ s.grid.boundaries = d.nc + 1) :
    gridStep d s = s.accumulated (s.grid.acc + d.nc) := by
  unfold State.accumulated
  by_cases below : s.grid.acc + d.nc < Config.stepsPerRev
  · rw [gridStep_of_no_carry below, if_pos below]
  · have past : ¬s.grid.boundaries ≤ d.nc := by
      have full := quiet.resolve_left below
      omega
    rw [gridStep_of_carry below, carryStep, if_neg past, if_neg below]

/-- Settles O7. -/
theorem stepsWithoutBoundary : Obligations.StepsWithoutBoundary := by
  intro dir a s outside supervised back quiet
  have run := exec_line (c := .stepEvent dir a) (f := stepEvent dir a) (fun _ => rfl) outside
  have moved : stepEvent dir a s = ((s.withNow (max s.now a)).withSup s.sup.stepped).withGrid (stepGrid dir s) := by
    cases dir with
    | reverse =>
      rw [stepEvent_reverse_idle (back rfl)]
      rfl
    | forward =>
      rw [stepEvent_forward]
      by_cases running : s.grid.state = .running
      · cases band : s.band with
        | none =>
          rw [forwardStep_still]
          · unfold State.stepped stepGrid
            rw [running, band]
            rfl
          · have none_ : (s.stepped .forward a).band = none := band
            rw [none_]
            exact fun both => by cases both.2
        | some d =>
          have goes := quiet rfl running d band
          rw [forwardStep_running (s := s.stepped .forward a) running band, gridStep_quiet (s := s.stepped .forward a) goes]
          unfold stepGrid
          rw [running, band]
          rfl
      · rw [forwardStep_still (s := s.stepped .forward a) fun both => running both.1]
        unfold State.stepped stepGrid
        cases state : s.grid.state with
        | running => exact absurd state running
        | stopped => rfl
        | awaitingIndex => rfl
  rw [run, moved]
  refine congrArg Host.Outcome.next (settle_of_stands ?_)
  exact stepped_stands supervised rfl rfl

end Sys2Proof.Machine

end

section
/-! PROOFS. The writes of the calibration store and the job table: WRITE_HEAD_PARAMS (O18), WRITE_DESCRIPTOR and
CLEAR_DESCRIPTOR (O27). -/

namespace Sys2Proof.Machine

/-! ### The scan of a body's fields (R45, R47, R83) -/

/-- The checks of a scan, in field order, say of each field that the scan reaches whether it is as `fieldOk` asks; the first
field that is not has a check. -/
structure Scans (checks : List (Nat × Bool)) (fieldOk : Nat → Prop) : Prop where
  sorted : checks.Pairwise fun a b => a.1 < b.1
  agree : ∀ c ∈ checks, (∀ m, m < c.1 → fieldOk m) → (c.2 = true ↔ fieldOk c.1)
  listed : ∀ n, ¬ fieldOk n → (∀ m, m < n → fieldOk m) → ∃ c ∈ checks, c.1 = n

variable {checks : List (Nat × Bool)} {fieldOk : Nat → Prop}

/-- The scan names the first field that offends. -/
theorem Scans.firstOffence_eq_some (scans : Scans checks fieldOk) {n : Nat} (bad : ¬ fieldOk n)
    (before : ∀ m, m < n → fieldOk m) : firstOffence checks = some n := by
  obtain ⟨c, mem, rfl⟩ := scans.listed n bad before
  obtain ⟨earlier, later, split⟩ := List.append_of_mem mem
  have fails : (!c.2) = true := by simpa using (scans.agree c mem before).not.mpr bad
  have pass : ∀ a ∈ earlier, (!!a.2) = true := by
    intro a first
    have sorted := scans.sorted
    rw [split, List.pairwise_append] at sorted
    have less := sorted.2.2 a first c List.mem_cons_self
    have inside : a ∈ checks := by rw [split]; exact List.mem_append_left _ first
    simpa using (scans.agree a inside fun m low => before m (low.trans less)).mpr (before a.1 less)
  have found : checks.find? (fun c => !c.2) = some c :=
    List.find?_eq_some_iff_append.mpr ⟨fails, earlier, later, split, pass⟩
  unfold firstOffence
  rw [found]
  rfl

theorem Scans.firstOffence_eq_none (scans : Scans checks fieldOk) (good : ∀ n, fieldOk n) : firstOffence checks = none :=
  (firstOffence_eq_none_iff checks).mpr fun c mem => (scans.agree c mem fun m _ => good m).mpr (good c.1)

/-! ### WRITE_HEAD_PARAMS (R47 to R50) -/

theorem signed16_toNat (v : BitVec 16) : signed16 v.toNat = v.toInt := by
  unfold signed16
  rw [BitVec.toInt_eq_toNat_cond]
  split <;> split <;> omega

theorem paramsOfFields_scans (p : ParamsBody) : Scans (paramsOfFields p).checks (paramFieldOk p) where
  sorted := by simp [RawParams.checks]
  agree := by
    have rate := p.wearRate.isLt
    refine fun c mem _ => ?_
    revert c
    simp [RawParams.checks, paramsOfFields, inRange, biasOk, signed16_toNat, paramFieldOk]
    omega
  listed := by
    intro n bad _
    have range : 1 ≤ n ∧ n ≤ 8 := by
      unfold paramFieldOk at bad
      split at bad <;> simp_all
    obtain ⟨low, high⟩ := range
    interval_cases n <;> simp [RawParams.checks]

theorem paramsOfFields_build (p : ParamsBody) : (paramsOfFields p).build = p.toParams := by
  have flag : (some p.fitted.toNat == some 1) = decide (p.fitted = 1#8) := by
    rw [Bool.eq_iff_iff]
    simp [BitVec.toNat_eq]
  unfold RawParams.build ParamsBody.toParams paramsOfFields
  dsimp only
  simp only [flag, Option.getD_some, signed16_toNat]

section
variable {l : LinkId} {head : Option Nat} {h : HeadId} {p : RawParams} {s : State}

theorem writeHeadParams_of_no_custody (lacks : s.custody ≠ some l) :
    writeHeadParams l head p s = refuse .noCustody s := if_pos lacks

theorem writeHeadParams_of_no_head (holds : s.custody = some l) (no_head : head.bind HeadId.ofNum = none) :
    writeHeadParams l head p s = refuse (.badField 0) s := by
  unfold writeHeadParams
  rw [if_neg (not_not.mpr holds), no_head]

theorem writeHeadParams_of_bad_field (holds : s.custody = some l) (names : head.bind HeadId.ofNum = some h) {n : Nat}
    (offends : firstOffence p.checks = some n) : writeHeadParams l head p s = refuse (.badField n) s := by
  unfold writeHeadParams
  rw [if_neg (not_not.mpr holds), names]
  dsimp only
  rw [offends]

theorem writeHeadParams_of_good (holds : s.custody = some l) (names : head.bind HeadId.ofNum = some h)
    (sound : firstOffence p.checks = none) : writeHeadParams l head p s =
      if !p.build.fitted && s.headInUse h then refuse .headInUse s
      else (storeParams h p.build s, ⟨.done, dispositionByte (s.headInUse h)⟩) := by
  unfold writeHeadParams
  rw [if_neg (not_not.mpr holds), names]
  dsimp only
  rw [sound]

end

theorem fit_eq_fittedHead (now : Nat) (p : HeadParams) (u : HeadUnit) (fitted : p.fitted = true) :
    u.fit now p = fittedHead now false p u := by
  unfold HeadUnit.fit fittedHead
  rw [fitted]
  rfl

/-- The change of the fitted flag as the head controller takes it, with the fault of an amplifier that is not in order
(R50, R59, R60). -/
theorem applyFitting_eq (h : HeadId) (before after : HeadParams) (s : State) : applyFitting h before after s =
    if before.fitted = false ∧ after.fitted = true ∧ (s.heads.get h).ampFault = true then
      postAll .headFault (s.modHead h (fittedHead s.now before.fitted after))
    else s.modHead h (fittedHead s.now before.fitted after) := by
  have kept : s.modHead h (fun u => u) = s := congrArg s.withHeads (by cases h <;> rfl)
  unfold applyFitting
  cases was : before.fitted <;> cases is : after.fitted
  · refine Eq.trans ?_ (if_neg (by simp)).symm
    refine kept.symm.trans (congrArg (s.modHead h) ?_)
    funext u
    simp [fittedHead, is]
  · have fits : HeadUnit.fit s.now after = fittedHead s.now false after :=
      funext fun u => fit_eq_fittedHead s.now after u is
    simp [fits]
  · refine Eq.trans ?_ (if_neg (by simp)).symm
    refine congrArg (s.modHead h) ?_
    funext u
    simp [fittedHead, is, HeadUnit.unfit]
  · refine Eq.trans ?_ (if_neg (by simp)).symm
    refine kept.symm.trans (congrArg (s.modHead h) ?_)
    funext u
    simp [fittedHead, is]

/-- A WRITE_HEAD_PARAMS whose block leaves `x` is answered DONE with its disposition. -/
theorem exec_writeHeadParams_done {l : LinkId} {head : Byte} {p : ParamsBody} {s x : State} {staged : Bool}
    (ready : Ready l s) (accepted : writeHeadParams l (some head.toNat) (paramsOfFields p) (markTaken l s) =
      (markTaken l x, ⟨.done, dispositionByte staged⟩)) :
    exec (.writeHeadParams l head p) s =
      .next (x.answered l .writeHeadParams [0#8, if staged then 1#8 else 0#8]) := by
  have body : Result.bytes .done ++ everyReply .writeHeadParams x ++ dispositionByte staged =
      [0#8, if staged then 1#8 else 0#8] := by cases staged <;> rfl
  exact congrArg Host.Outcome.next
    ((serve_answered ready rfl accepted).trans (congrArg (State.answered l .writeHeadParams · x) body))

theorem ofNum_of_lt {n : Nat} (low : n < 4) : ∃ h, HeadId.ofNum n = some h := by
  interval_cases n <;> exact ⟨_, rfl⟩

/-- Settles O18: the block's checks in order on the request taken, and its write of the store. -/
theorem writeHeadParamsIsAppliedOrStaged : Obligations.WriteHeadParamsIsAppliedOrStaged := by
  intro l head p s ready
  have scans := paramsOfFields_scans p
  refine ⟨fun lacks => ?_, fun holds high => ?_, fun n holds low bad before => ?_, fun h holds names good => ?_⟩
  · exact exec_refused (r := .noCustody) rfl ready rfl rfl (writeHeadParams_of_no_custody (s := markTaken l s) lacks)
  · exact exec_refused (r := .badField 0) rfl ready rfl rfl
      (writeHeadParams_of_no_head (s := markTaken l s) holds (HeadId.ofNum_of_four_le high))
  · obtain ⟨h, names⟩ := ofNum_of_lt low
    exact exec_refused (r := .badField n) rfl ready rfl rfl
      (writeHeadParams_of_bad_field (s := markTaken l s) (head := some head.toNat) holds names (scans.firstOffence_eq_some bad before))
  · have named : (some head.toNat).bind HeadId.ofNum = some h := by rw [names]; exact HeadId.ofNum_num h
    have runs := writeHeadParams_of_good (s := markTaken l s) holds named (scans.firstOffence_eq_none good)
    rw [paramsOfFields_build] at runs
    have use : (markTaken l s).headInUse h = s.headInUse h := rfl
    rw [use] at runs
    refine ⟨fun off used => ?_, fun on used => ?_, fun free => ?_⟩
    · have unfitted : p.toParams.fitted = false := by simp [ParamsBody.toParams, off]
      rw [if_pos (by rw [unfitted, used]; rfl)] at runs
      exact exec_refused (r := .headInUse) rfl ready rfl rfl runs
    · have fitted : p.toParams.fitted = true := by simp [ParamsBody.toParams, on]
      rw [if_neg (by simp [fitted]), used] at runs
      refine exec_writeHeadParams_done ready (runs.trans (congrArg (·, _) ?_))
      exact if_pos used
    · have flag : p.toParams.fitted = true ↔ p.fitted = 1#8 := by simp [ParamsBody.toParams]
      rw [if_neg (by rw [free]; simp), free] at runs
      refine exec_writeHeadParams_done ready (runs.trans (congrArg (·, _) ?_))
      refine (if_neg (by rw [use, free]; decide)).trans ?_
      rw [applyFitting_eq]
      simp only [flag]
      by_cases faulty : (s.params h).fitted = false ∧ p.fitted = 1#8 ∧ (s.heads.get h).ampFault = true
      · rw [if_pos faulty]
        refine (if_pos faulty).trans (Eq.trans ?_ (postAll_markTaken l .headFault _))
        rfl
      · rw [if_neg faulty]
        exact if_neg faulty

/-! ### The scan of a descriptor (R79, R83) -/

/-- What the limits of Table 5-2 ask of a patch field, by its place after the patch count, for patches that follow others
of length `sum` together. -/
def patchFieldOk (cut sum : Nat) (ps : List (Byte × BitVec 16)) (m : Nat) : Prop :=
  match ps[m / 2]? with
  | none => True
  | some p =>
    if m % 2 = 0 then 1 ≤ p.1.toNat
    else 1 ≤ p.2.toNat ∧ p.2.toNat ≤ 65519 ∧ sum + patchSum (m / 2 + 1) ps ≤ cut

/-- A patch list as the scan reads it. -/
def patchFields (ps : List (Byte × BitVec 16)) : List (Option Nat × Option Nat) :=
  ps.map fun p => (some p.1.toNat, some p.2.toNat)

theorem patchFieldOk_cons (cut sum : Nat) (p : Byte × BitVec 16) (ps : List (Byte × BitVec 16)) (m : Nat) :
    patchFieldOk cut sum (p :: ps) (m + 2) = patchFieldOk cut (sum + p.2.toNat) ps m := by
  have half : (m + 2) / 2 = m / 2 + 1 := by omega
  have parity : (m + 2) % 2 = m % 2 := by omega
  have total : sum + patchSum (m / 2 + 1 + 1) (p :: ps) = sum + p.2.toNat + patchSum (m / 2 + 1) ps := by
    simp [patchSum, Nat.add_assoc]
  unfold patchFieldOk
  rw [half, parity, List.getElem?_cons_succ, total]

theorem patchChecks_from {cut n sum : Nat} {ps : List (Option Nat × Option Nat)} {c : Nat × Bool}
    (mem : c ∈ patchChecks cut n sum ps) : 20 + 2 * n ≤ c.1 := by
  induction ps generalizing n sum with
  | nil => cases mem
  | cons p ps ih =>
    simp only [patchChecks, List.mem_cons] at mem
    obtain rfl | rfl | later := mem
    · exact Nat.le_refl _
    · show 20 + 2 * n ≤ 21 + 2 * n
      omega
    · have := ih later
      omega

theorem patchChecks_sorted (cut n sum : Nat) (ps : List (Option Nat × Option Nat)) :
    (patchChecks cut n sum ps).Pairwise fun a b => a.1 < b.1 := by
  induction ps generalizing n sum with
  | nil => exact List.Pairwise.nil
  | cons p ps ih =>
    simp only [patchChecks, List.pairwise_cons, List.mem_cons, forall_eq_or_imp]
    refine ⟨⟨by omega, fun c mem => ?_⟩, fun c mem => ?_, ih _ _⟩ <;>
    · have := patchChecks_from mem
      omega

theorem patchChecks_agree {cut n sum : Nat} {ps : List (Byte × BitVec 16)} {c : Nat × Bool}
    (mem : c ∈ patchChecks cut n sum (patchFields ps)) :
    c.2 = true ↔ patchFieldOk cut sum ps (c.1 - (20 + 2 * n)) := by
  induction ps generalizing n sum with
  | nil => cases mem
  | cons p ps ih =>
    simp only [patchFields, List.map_cons, patchChecks, List.mem_cons] at mem
    obtain rfl | rfl | later := mem
    · have tone := p.1.isLt
      simp [patchFieldOk, inRange]
      omega
    · have first : 21 + 2 * n - (20 + 2 * n) = 1 := by omega
      simp [patchFieldOk, inRange, patchSum, first, and_assoc]
    · have low := patchChecks_from later
      have next : c.1 - (20 + 2 * n) = c.1 - (20 + 2 * (n + 1)) + 2 := by omega
      rw [next, patchFieldOk_cons]
      exact ih later

theorem patchChecks_listed {cut n sum : Nat} {ps : List (Byte × BitVec 16)} {m : Nat} (bad : ¬ patchFieldOk cut sum ps m) :
    ∃ c ∈ patchChecks cut n sum (patchFields ps), c.1 = 20 + 2 * n + m := by
  induction ps generalizing n sum m with
  | nil => exact absurd trivial bad
  | cons p ps ih =>
    simp only [patchFields, List.map_cons, patchChecks, List.mem_cons]
    match m with
    | 0 => exact ⟨_, .inl rfl, rfl⟩
    | 1 => exact ⟨_, .inr (.inl rfl), by dsimp only; omega⟩
    | m + 2 =>
      rw [patchFieldOk_cons] at bad
      obtain ⟨c, mem, at_⟩ := ih (n := n + 1) bad
      exact ⟨c, .inr (.inr mem), by omega⟩

theorem patchEntries_all (ps : List (Byte × BitVec 16)) :
    patchEntries ps.length (fun p => p.1.toNat) (fun p => p.2.toNat) ps = patchFields ps := by
  refine List.ext_getElem (by simp [patchEntries, patchFields]) fun i low high => ?_
  have inside : i < ps.length := by simpa [patchFields] using high
  simp only [patchEntries, patchFields, List.getElem_map, List.getElem_range, List.getElem?_eq_getElem inside,
    Option.map_some]

theorem headSetOf_inSet {b : Byte} {heads : PerHead Bool} (names : headSetOf b.toNat = some heads) (h : HeadId) :
    heads.get h = inSet b h.num := by
  unfold headSetOf at names
  split at names
  · obtain rfl := Option.some.inj names
    cases h <;> rfl
  · cases names

theorem headSetOf_isSome (b : Byte) : (headSetOf b.toNat).isSome = true ↔ 1 ≤ b.toNat ∧ b.toNat ≤ 15 := by
  unfold headSetOf
  split <;> simp [*]

/-- A curve entry passes as Table 5-2 asks of it, once the head set has passed (R80). -/
theorem curveEntryOk_iff {set curve : Byte} (sound : 1 ≤ set.toNat ∧ set.toNat ≤ 15) (h : HeadId) :
    curveEntryOk (((headSetOf set.toNat).getD (PerHead.pure false)).get h) (some curve.toNat) = true ↔
      curveFieldOk set curve h.num := by
  obtain ⟨heads, names⟩ := Option.isSome_iff_exists.mp ((headSetOf_isSome set).mpr sound)
  rw [names, Option.getD_some, headSetOf_inSet names]
  unfold curveEntryOk curveFieldOk
  split
  · simp [inRange]
  · simp [BitVec.toNat_eq]

theorem inRange_some {lo hi v : Nat} : inRange lo hi (some v) = true ↔ lo ≤ v ∧ v ≤ hi := by simp [inRange]

theorem upTo_iff {hi v : Nat} : inRange 0 hi (some v) = true ↔ v ≤ hi := by simp [inRange]

theorem patchFieldOk_iff (slot : Byte) (d : DescriptorBody) (m : Nat) :
    descriptorFieldOk slot d (22 + m) ↔ patchFieldOk d.cut.toNat 0 d.patches m := by
  rw [Nat.add_comm, patchFieldOk, Nat.zero_add]
  rfl

theorem rawOfFields_patches {d : DescriptorBody} (listed : d.patches.length = d.patchCount.toNat) :
    (rawOfFields d).patches = patchFields d.patches := by
  rw [← patchEntries_all, listed]
  rfl

theorem rawOfFields_scans {slot : Byte} {d : DescriptorBody} (listed : d.patches.length = d.patchCount.toNat) :
    Scans ((rawOfFields d).checks slot.toNat) (descriptorFieldOk slot d) where
  sorted := by
    rw [RawDescriptor.checks, List.pairwise_append]
    refine ⟨by simp, patchChecks_sorted _ _ _ _, fun a first b later => ?_⟩
    have low := patchChecks_from later
    simp only [List.mem_cons, List.not_mem_nil, or_false] at first
    rcases first with rfl | rfl | rfl | rfl | rfl | rfl | rfl | rfl | rfl | rfl | rfl | rfl | rfl | rfl | rfl | rfl |
      rfl | rfl | rfl | rfl | rfl <;> (dsimp only; omega)
  agree := by
    intro c mem before
    rw [RawDescriptor.checks, List.mem_append] at mem
    obtain header | patch := mem
    · simp only [List.mem_cons, List.not_mem_nil, or_false] at header
      have job := d.job.isLt
      have nr := d.nr.isLt
      have nc := d.nc.isLt
      have starve := d.starve.isLt
      rcases header with rfl | rfl | rfl | rfl | rfl | rfl | rfl | rfl | rfl | rfl | rfl | rfl | rfl | rfl | rfl | rfl |
        rfl | rfl | rfl | rfl | rfl
      · exact upTo_iff
      · exact upTo_iff.trans (iff_of_true (by omega) trivial)
      · exact upTo_iff
      · exact headSetOf_isSome d.headSet
      · exact upTo_iff
      · exact inRange_some
      · exact (Bool.and_eq_true_iff.trans (and_congr (inRange_some.trans (and_iff_left (by omega))) decide_eq_true_iff))
      · exact inRange_some.trans (and_iff_left (by omega))
      · exact (Bool.and_eq_true_iff.trans (and_congr inRange_some decide_eq_true_iff)).trans and_assoc
      · exact upTo_iff
      · exact curveEntryOk_iff (before 4 (by dsimp only; omega)) .h0
      · exact curveEntryOk_iff (before 4 (by dsimp only; omega)) .h1
      · exact curveEntryOk_iff (before 4 (by dsimp only; omega)) .h2
      · exact curveEntryOk_iff (before 4 (by dsimp only; omega)) .h3
      · exact upTo_iff
      · exact inRange_some
      · exact inRange_some
      · exact upTo_iff
      · exact inRange_some.trans (and_iff_left (by omega))
      · simp [descriptorFieldOk, rawOfFields, upTo_iff, BitVec.toNat_eq]
      · have test : (rawOfFields d).kind = some 1 ↔ d.kind = 1#8 := by simp [rawOfFields, BitVec.toNat_eq]
        have none_ : ((some d.patchCount.toNat == some 0) = true) ↔ d.patchCount = 0#8 := by simp [BitVec.toNat_eq]
        unfold descriptorFieldOk
        dsimp only
        by_cases kind : d.kind = 1#8
        · rw [if_pos (test.mpr kind), if_pos kind]
          exact inRange_some
        · rw [if_neg (test.not.mpr kind), if_neg kind]
          exact none_
    · rw [rawOfFields_patches listed] at patch
      have low := patchChecks_from patch
      obtain ⟨m, at_⟩ := Nat.exists_eq_add_of_le (show 22 ≤ c.1 from low)
      have agrees := patchChecks_agree patch
      rw [at_] at agrees ⊢
      rw [Nat.add_sub_cancel_left] at agrees
      exact agrees.trans (patchFieldOk_iff slot d m).symm
  listed := by
    intro n bad _
    by_cases header : n < 22
    · have low : 1 ≤ n := Nat.one_le_iff_ne_zero.mpr fun zero => bad (by rw [zero]; exact trivial)
      interval_cases n <;> simp [RawDescriptor.checks]
    · obtain ⟨m, rfl⟩ := Nat.exists_eq_add_of_le (Nat.not_lt.mp header)
      obtain ⟨c, mem, at_⟩ := patchChecks_listed (n := 1) ((patchFieldOk_iff slot d m).not.mp bad)
      refine ⟨c, List.mem_append_right _ ?_, at_⟩
      rw [rawOfFields_patches listed]
      exact mem

/-! ### The descriptor written (R84) -/

theorem curveField_of_ok {d : DescriptorBody} {slot : Byte} (good : ∀ n, descriptorFieldOk slot d n) (h : HeadId) :
    curveFieldOk d.headSet (d.curves.get h) h.num := by
  cases h
  · exact good 11
  · exact good 12
  · exact good 13
  · exact good 14

theorem kind_code {n : Nat} (low : n ≤ 2) : ((BandKind.ofCode n).getD .engrave).code = n := by interval_cases n <;> rfl

theorem policy_code {n : Nat} (low : n ≤ 1) : ((Policy.ofCode n).getD .drop).code = n := by interval_cases n <;> rfl

theorem nextSlot_map {b : Byte} (ok : b.toNat ≤ 63 ∨ b = 255#8) :
    (slotOf (some b.toNat)).map (fun m => m.val) = if b = 255#8 then none else some b.toNat := by
  obtain low | rfl := ok
  · have other : b ≠ 255#8 := fun same => by rw [same] at low; exact absurd low (by decide)
    rw [if_neg other]
    exact congrArg (Option.map fun m : Fin 64 => m.val) (slotOf_fin ⟨b.toNat, by omega⟩)
  · rfl

theorem rawOfFields_sound {slot : Byte} {i : Fin 64} (names : slot.toNat = i.val) {d : DescriptorBody}
    (listed : d.patches.length = d.patchCount.toNat) (good : ∀ n, descriptorFieldOk slot d n) :
    firstOffence ((rawOfFields d).checks i) = none := by
  rw [← names]
  exact (rawOfFields_scans listed).firstOffence_eq_none good

theorem build_heads {slot : Byte} {d : DescriptorBody} (good : ∀ n, descriptorFieldOk slot d n) (h : HeadId) :
    (rawOfFields d).build.heads.get h = inSet d.headSet h.num := by
  obtain ⟨heads, names⟩ := Option.isSome_iff_exists.mp ((headSetOf_isSome d.headSet).mpr (good 4))
  have is : (rawOfFields d).build.heads = heads := by
    show ((some d.headSet.toNat).bind headSetOf).getD (PerHead.pure false) = heads
    rw [Option.bind_some, names]
    rfl
  rw [is, headSetOf_inSet names]

theorem build_curve {slot : Byte} {d : DescriptorBody} (good : ∀ n, descriptorFieldOk slot d n) {h : HeadId}
    (member : (rawOfFields d).build.heads.get h = true) :
    ((rawOfFields d).build.curves.get h).map (fun c => c.val) = some (d.curves.get h).toNat := by
  have ok := curveField_of_ok good h
  rw [curveFieldOk, ← build_heads good, if_pos member] at ok
  have entry : (rawOfFields d).build.curves.get h = curveEntry (some (d.curves.get h).toNat) := by cases h <;> rfl
  rw [entry, curveEntry, dif_pos (by omega)]
  rfl

theorem build_patches {d : DescriptorBody} (listed : d.patches.length = d.patchCount.toNat) :
    (rawOfFields d).build.patches = d.patches.map fun p => ⟨p.1.toNat, p.2.toNat⟩ := by
  show (rawOfFields d).patches.map _ = _
  rw [rawOfFields_patches listed, patchFields, List.map_map]
  rfl

/-! ### WRITE_DESCRIPTOR and CLEAR_DESCRIPTOR (R82 to R85) -/

section
variable {l : LinkId} {slot : Option Nat} {i : Fin 64} {d : RawDescriptor} {s : State}

theorem writeDescriptor_of_no_custody (lacks : s.custody ≠ some l) :
    writeDescriptor l slot d s = refuse .noCustody s := if_pos lacks

theorem clearDescriptor_of_no_custody (lacks : s.custody ≠ some l) :
    clearDescriptor l slot s = refuse .noCustody s := if_pos lacks

theorem writeDescriptor_of_no_slot (holds : s.custody = some l) (no_slot : slotOf slot = none) :
    writeDescriptor l slot d s = refuse (.badField 0) s := by
  rw [writeDescriptor, if_neg (not_not.mpr holds), no_slot]

theorem clearDescriptor_of_no_slot (holds : s.custody = some l) (no_slot : slotOf slot = none) :
    clearDescriptor l slot s = refuse (.badField 0) s := by
  rw [clearDescriptor, if_neg (not_not.mpr holds), no_slot]

theorem writeDescriptor_of_bad_field (holds : s.custody = some l) (names : slotOf slot = some i) {n : Nat}
    (offends : firstOffence (d.checks i) = some n) : writeDescriptor l slot d s = refuse (.badField n) s := by
  rw [writeDescriptor, if_neg (not_not.mpr holds), names]
  dsimp only
  rw [offends]

theorem writeDescriptor_of_good (holds : s.custody = some l) (names : slotOf slot = some i)
    (sound : firstOffence (d.checks i) = none) : writeDescriptor l slot d s =
      if s.slotInUse i then refuse .descriptorInUse s
      else accept (s.modJob i fun _ => ⟨some d.build, StatusRecord.fresh d.build.heads⟩) := by
  rw [writeDescriptor, if_neg (not_not.mpr holds), names]
  dsimp only
  rw [sound]

theorem clearDescriptor_of_slot (holds : s.custody = some l) (names : slotOf slot = some i) : clearDescriptor l slot s =
    if s.slotInUse i then refuse .descriptorInUse s else accept (s.modJob i fun _ => JobSlot.empty) := by
  rw [clearDescriptor, if_neg (not_not.mpr holds), names]

end

/-- Settles O27: the blocks' checks in order on the request taken, and the descriptor of fields that pass. -/
theorem descriptorsAreWrittenAndCleared : Obligations.DescriptorsAreWrittenAndCleared := by
  intro l slot d s ready listed
  have scans := rawOfFields_scans (slot := slot) listed
  refine ⟨fun lacks => ⟨?_, ?_⟩, fun holds high => ⟨?_, ?_⟩, fun i holds names => ?_⟩
  · exact exec_refused (r := .noCustody) rfl ready rfl rfl (writeDescriptor_of_no_custody (s := markTaken l s) lacks)
  · exact exec_refused (r := .noCustody) rfl ready rfl rfl (clearDescriptor_of_no_custody (s := markTaken l s) lacks)
  · exact exec_refused (r := .badField 0) rfl ready rfl rfl
      (writeDescriptor_of_no_slot (s := markTaken l s) holds (slotOf_of_high high))
  · exact exec_refused (r := .badField 0) rfl ready rfl rfl
      (clearDescriptor_of_no_slot (s := markTaken l s) holds (slotOf_of_high high))
  have named : slotOf (some slot.toNat) = some i := by rw [names]; exact slotOf_fin i
  have clears := clearDescriptor_of_slot (s := markTaken l s) holds named
  have use : (markTaken l s).slotInUse i = s.slotInUse i := rfl
  refine ⟨fun n bad before => ?_, fun used => ⟨fun good => ?_, ?_⟩, fun free => ⟨fun good => ?_, ?_⟩⟩
  · refine exec_refused (r := .badField n) rfl ready rfl rfl
      (writeDescriptor_of_bad_field (s := markTaken l s) holds named ?_)
    rw [← names]
    exact scans.firstOffence_eq_some bad before
  · refine exec_refused (r := .descriptorInUse) rfl ready rfl rfl
      ((writeDescriptor_of_good (s := markTaken l s) holds named (rawOfFields_sound names listed good)).trans ?_)
    exact if_pos used
  · exact exec_refused (r := .descriptorInUse) rfl ready rfl rfl (clears.trans (if_pos used))
  · have sound := rawOfFields_sound names listed good
    have written := writeDescriptor_of_good (s := markTaken l s) holds named sound
    rw [if_neg (by rw [use, free]; decide)] at written
    refine ⟨(rawOfFields d).build, RawDescriptor.build_fits (by simp [rawOfFields, patchEntries]) sound,
      kind_code (good 1), rfl, build_heads good, rfl, rfl, rfl, rfl, rfl, rfl, fun h member => build_curve good member,
      policy_code (good 15), rfl, rfl, rfl, rfl, nextSlot_map (good 20).1, build_patches listed, ?_⟩
    exact exec_done (f := writeDescriptor l (some slot.toNat) (rawOfFields d)) rfl ready rfl rfl written
  · rw [if_neg (by rw [use, free]; decide)] at clears
    exact exec_done (f := clearDescriptor l (some slot.toNat)) rfl ready rfl rfl clears

end Sys2Proof.Machine

end

section
/-! PROOFS. The prepress link's ring data: RING_SEGMENT (O30), RING_CLOSE (O31) and DISCARD_RINGS (O32). -/

namespace Sys2Proof.Machine

/-! ### The staging position in a reply (R106, Table 10-10) -/

theorem tonesReceived_eq (t : HeadStaging) : tonesReceived t = t.fillingCount := by
  obtain ⟨a, b, nf⟩ := t
  cases a with
  | filling => rfl
  | empty | ready | cutting => cases b <;> rfl

theorem bytesOf_three (v : Nat) : bytesOf 3 v = be3 v := by simp [bytesOf, be3]

theorem stagingPosition_eq (h : HeadId) (s : State) : stagingPosition h s = positionBytes (s.staging.heads.get h) := by
  unfold stagingPosition positionBytes
  dsimp only
  rw [tonesReceived_eq, bytesOf_two]
  refine congrArg (· ++ _) ?_
  cases (s.staging.heads.get h).nf with
  | none => rfl
  | some n => exact (bytesOf_three n).symm

/-- A ring request that its block answers from `x`, with the result and the head's staging position in `x`. -/
theorem exec_positioned {c : Instr} {k : ReqKind} {f : State → State × Answer} {s x : State} {h : HeadId} {r : Result}
    (runs : exec c s = .next (serve .prepress k f s)) (ready : Ready .prepress s) (permitted : k.permitted .prepress = true)
    (plain : everyReply k x = [])
    (answers : f (markTaken .prepress s) = withPosition h r (markTaken .prepress x)) :
    exec c s = .next (x.answered .prepress k (r.bytes ++ positionBytes (x.staging.heads.get h))) := by
  have position : stagingPosition h (markTaken .prepress x) = positionBytes (x.staging.heads.get h) :=
    stagingPosition_eq h (markTaken .prepress x)
  rw [withPosition, position] at answers
  rw [runs, serve_answered ready permitted answers, plain, List.append_nil]

/-! ### The band that takes rings (R104, check 4) -/

theorem ringBand_eq_some_iff {h : HeadId} {d : Descriptor} {s : State} : s.ringBand h = some d ↔ TakesRings h d s := by
  unfold State.ringBand
  by_cases ending : s.engine.state = .ending
  · simp [ending, TakesRings]
  · rw [if_neg ending]
    constructor
    · intro takes
      split at takes
      · next e band =>
        obtain ⟨current, slot⟩ := State.band_eq_some_iff.mp band
        split at takes
        · next fits =>
          obtain rfl := Option.some.inj takes
          refine ⟨?_, slot, fits⟩
          cases state : s.engine.state <;> simp_all [EngineState.isCurrent]
        · cases takes
      · cases takes
    · rintro ⟨state, slot, fits⟩
      have band : s.band = some d :=
        State.band_eq_some_iff.mpr ⟨by rcases state with state | state | state | state <;> rw [state] <;> rfl, slot⟩
      rw [band]
      exact if_pos fits

theorem ringBand_eq_none {h : HeadId} {s : State} (takes_none : ∀ d, ¬ TakesRings h d s) : s.ringBand h = none :=
  Option.eq_none_iff_forall_ne_some.mpr fun d takes => takes_none d (ringBand_eq_some_iff.mp takes)

/-- A ring request that its block answers from the part with the staging of head `h` changed to `y`. -/
theorem exec_restaged {c : Instr} {k : ReqKind} {f : State → State × Answer} {s : State} {h : HeadId} {r : Result}
    {g : HeadStaging → HeadStaging} {y : HeadStaging}
    (runs : exec c s = .next (serve .prepress k f s)) (ready : Ready .prepress s) (permitted : k.permitted .prepress = true)
    (plain : ∀ x, everyReply k x = []) (becomes : g (s.staging.heads.get h) = y)
    (answers : f (markTaken .prepress s) = withPosition h r (modStaging h g (markTaken .prepress s))) :
    exec c s = .next ((s.withStaging { s.staging with heads := s.staging.heads.set h y }).answered .prepress k
      (r.bytes ++ positionBytes y)) := by
  subst becomes
  have there : (modStaging h g s).staging.heads.get h = g (s.staging.heads.get h) := PerHead.get_set_self ..
  have done := exec_positioned (x := modStaging h g s) runs ready permitted (plain _) answers
  rw [there] at done
  exact done

/-! ### RING_SEGMENT (R104, R105) -/

theorem checkSum_eq (k : Nat) (tones : List Byte) : checkSum k tones = weightedSum k tones := rfl

/-- The running check after a segment that is not empty, whatever it was before (R105). -/
theorem runCheck_eq {tones : List Byte} (some_ : tones ≠ []) (k check : Nat) :
    runCheck k check tones = (check + checkSum k tones) % 65536 := by
  obtain ⟨t, ts, rfl⟩ := List.exists_cons_of_ne_nil some_
  rw [runCheck_cons, runCheck_eq_add_weightedSum (Nat.mod_lt _ (by decide)), checkSum_eq, weightedSum_cons,
    Nat.mod_add_mod, Nat.add_assoc]

theorem store_eq_filledWith {tones : List Byte} (some_ : tones ≠ []) (x : RingSlot) : x.store tones = filledWith tones x := by
  cases x with
  | filling r old check => exact congrArg (RingSlot.filling r (old ++ tones)) (runCheck_eq some_ _ _)
  | empty | ready | cutting => rfl

theorem begin_eq {tones : List Byte} (some_ : tones ≠ []) (ring : Nat) :
    RingSlot.begin ring tones = .filling ring tones (checkSum 0 tones % 65536) := by
  unfold RingSlot.begin RingSlot.store
  dsimp only
  rw [List.nil_append, runCheck_eq some_, List.length_nil, Nat.zero_add]

theorem isEmpty_iff (x : RingSlot) : x.isEmpty = true ↔ x = .empty := by cases x <;> simp [RingSlot.isEmpty]

theorem beginRing_eq {tones : List Byte} (some_ : tones ≠ []) (ring : Nat) (t : HeadStaging) : t.beginRing ring tones =
    if t.slotA = .empty then { t with slotA := .filling ring tones (checkSum 0 tones % 65536) }
    else { t with slotB := .filling ring tones (checkSum 0 tones % 65536) } := by
  unfold HeadStaging.beginRing
  rw [begin_eq some_]
  exact if_congr (isEmpty_iff t.slotA) rfl rfl

section
variable {t : HeadStaging} {n offset count cut : Nat}

theorem segmentRefusal_gap (filling : t.fillingCount = some n) (gap : offset ≠ n) :
    segmentRefusal t offset count cut = some .segmentGap := by
  rw [segmentRefusal, filling]
  exact if_pos gap

theorem segmentRefusal_long (filling : t.fillingCount = some n) (long : cut < n + count) :
    segmentRefusal t n count cut = some .lengthMismatch := by
  rw [segmentRefusal, filling]
  exact (if_neg (fun gap => gap rfl)).trans (if_pos long)

theorem segmentRefusal_fits (filling : t.fillingCount = some n) (fits : n + count ≤ cut) :
    segmentRefusal t n count cut = none := by
  rw [segmentRefusal, filling]
  exact (if_neg (fun gap => gap rfl)).trans (if_neg (Nat.not_lt.mpr fits))

theorem segmentRefusal_full (idle : t.fillingCount = none) (full : t.slotA ≠ .empty ∧ t.slotB ≠ .empty) :
    segmentRefusal t offset count cut = some .slotsFull := by
  rw [segmentRefusal, idle]
  refine if_pos ?_
  simp [HeadStaging.anySlot, Bool.eq_false_iff, (isEmpty_iff _).not, full]

/-- The checks of a segment that begins a ring (R104, checks 8 and 9). -/
theorem segmentRefusal_begin (idle : t.fillingCount = none) (room : t.slotA = .empty ∨ t.slotB = .empty) :
    segmentRefusal t offset count cut =
      if offset ≠ 0 then some .segmentGap else if cut < offset + count then some .lengthMismatch else none := by
  rw [segmentRefusal, idle]
  have found : t.anySlot RingSlot.isEmpty = true :=
    Bool.or_eq_true_iff.mpr (room.imp (isEmpty_iff _).mpr (isEmpty_iff _).mpr)
  exact if_neg (by rw [found]; decide)

end

section
variable {h : HeadId} {r o : Nat} {tones : List Byte} {d : Descriptor} {s : State}

theorem ringSegment_of_head {head ring offset : Option Nat} (names : head.bind HeadId.ofNum = some h) :
    ringSegment head ring offset tones s = segmentFor h ring offset tones s := by rw [ringSegment, names]

theorem segmentFor_of_bad_count (bad : tones.length = 0 ∨ 1024 < tones.length) :
    segmentFor h (some r) (some o) tones s = withPosition h (.badField 3) s := if_pos bad

theorem segmentFor_of_no_band (count : ¬(tones.length = 0 ∨ 1024 < tones.length)) (no_band : s.ringBand h = none) :
    segmentFor h (some r) (some o) tones s = withPosition h .notInBand s := by
  rw [segmentFor, if_neg count, no_band]

theorem segmentFor_of_high (count : ¬(tones.length = 0 ∨ 1024 < tones.length)) (band : s.ringBand h = some d)
    (high : d.nr ≤ r) : segmentFor h (some r) (some o) tones s = withPosition h (.badField 1) s := by
  rw [segmentFor, if_neg count, band]
  exact if_pos high

theorem segmentFor_of_order (count : ¬(tones.length = 0 ∨ 1024 < tones.length)) (band : s.ringBand h = some d)
    (low : r < d.nr) (order : (s.staging.heads.get h).nf ≠ some r) :
    segmentFor h (some r) (some o) tones s = withPosition h .ringOutOfOrder s := by
  rw [segmentFor, if_neg count, band]
  exact (if_neg (Nat.not_le.mpr low)).trans (if_pos order)

/-- A segment of the next-fill ring is refused by its place in the slots, or stored (R104, checks 7 to 9; R105). -/
theorem segmentFor_of_next (count : ¬(tones.length = 0 ∨ 1024 < tones.length)) (band : s.ringBand h = some d)
    (low : r < d.nr) (next : (s.staging.heads.get h).nf = some r) :
    segmentFor h (some r) (some o) tones s =
      match segmentRefusal (s.staging.heads.get h) o tones.length d.cut with
      | some e => withPosition h e s
      | none => withPosition h .done (modStaging h (HeadStaging.storeTones r tones) s) := by
  rw [segmentFor, if_neg count, band]
  exact (if_neg (Nat.not_le.mpr low)).trans (if_neg (not_not.mpr next))

end

/-- Settles O30: the block's checks in order on the request taken, and the tones stored in the head's slots. -/
theorem ringSegmentIsStored : Obligations.RingSegmentIsStored := by
  intro head ring offset tones s ready
  refine ⟨fun high => exec_refused (r := .badField 0) rfl ready rfl rfl ?_, fun h names => ?_⟩
  · rw [ringSegment, Option.bind_some, HeadId.ofNum_of_four_le high]
  have named : (some head.toNat).bind HeadId.ofNum = some h := by rw [names]; exact HeadId.ofNum_num h
  have row := ringSegment_of_head (s := markTaken .prepress s) (ring := some ring.toNat) (offset := some offset.toNat)
    (tones := tones) named
  have refused {e : Result} (answers : segmentFor h (some ring.toNat) (some offset.toNat) tones (markTaken .prepress s) =
      withPosition h e (markTaken .prepress s)) :=
    exec_positioned (c := .ringSegment .prepress head ring offset tones) (x := s) rfl ready rfl rfl (row.trans answers)
  refine ⟨fun bad => refused (segmentFor_of_bad_count bad), fun some_ most => ⟨fun takes_none => ?_, fun d takes => ?_⟩⟩
  · exact refused (segmentFor_of_no_band (by omega) (ringBand_eq_none takes_none))
  have count : ¬(tones.length = 0 ∨ 1024 < tones.length) := by omega
  have filled : tones ≠ [] := List.ne_nil_of_length_pos some_
  have band : (markTaken .prepress s).ringBand h = some d := ringBand_eq_some_iff.mpr takes
  refine ⟨fun high => refused (segmentFor_of_high count band high), fun low => ⟨fun order => ?_, fun next => ?_⟩⟩
  · exact refused (segmentFor_of_order count band low order)
  have place := segmentFor_of_next (o := offset.toNat) count band low next
  have refusal {e : Result}
      (is : segmentRefusal (s.staging.heads.get h) offset.toNat tones.length d.cut = some e) :=
    refused (e := e) (place.trans (by
      have same : segmentRefusal ((markTaken .prepress s).staging.heads.get h) offset.toNat tones.length d.cut = some e := is
      rw [same]))
  have stored {x : HeadStaging} (is : segmentRefusal (s.staging.heads.get h) offset.toNat tones.length d.cut = none)
      (becomes : (s.staging.heads.get h).storeTones ring.toNat tones = x) :=
    exec_restaged (c := .ringSegment .prepress head ring offset tones) (k := .ringSegment) (r := .done)
      rfl ready rfl (fun _ => rfl) becomes (row.trans (place.trans (by
        have same : segmentRefusal ((markTaken .prepress s).staging.heads.get h) offset.toNat tones.length d.cut = none := is
        rw [same])))
  rw [tonesReceived_eq]
  refine ⟨fun n received => ⟨fun gap => ?_, fun at_ long => ?_, fun at_ fits => ?_⟩, fun idle => ⟨fun a b => ?_, fun room =>
    ⟨fun gap => ?_, fun at_ long => ?_, fun at_ fits => ?_⟩⟩⟩
  · exact refusal (segmentRefusal_gap received gap)
  · exact refusal (at_ ▸ segmentRefusal_long received long)
  · refine stored (at_ ▸ segmentRefusal_fits received fits) ?_
    rw [HeadStaging.storeTones, received, ← store_eq_filledWith filled, ← store_eq_filledWith filled]
    rfl
  · exact refusal (segmentRefusal_full idle ⟨a, b⟩)
  · exact refusal ((segmentRefusal_begin idle room).trans (if_pos gap))
  · refine refusal ((segmentRefusal_begin idle room).trans ((if_neg (not_not.mpr at_)).trans (if_pos ?_)))
    rwa [at_, Nat.zero_add]
  · refine stored ((segmentRefusal_begin idle room).trans ((if_neg (not_not.mpr at_)).trans (if_neg ?_))) ?_
    · rwa [at_, Nat.zero_add, Nat.not_lt]
    · rw [HeadStaging.storeTones, idle]
      exact beginRing_eq filled ring.toNat _

/-! ### RING_CLOSE (R108, R109) -/

theorem fillingOf_eq_none {t : HeadStaging} (idle : tonesReceived t = none) : t.fillingOf = none := by
  obtain ⟨a, b, nf⟩ := t
  cases a with
  | filling => cases idle
  | empty | ready | cutting =>
    cases b with
    | filling => cases idle
    | empty | ready | cutting => rfl

/-- A head's one FILLING slot, what a close reads of it and what an operation on FILLING slots makes of the slots. -/
theorem one_filling {t : HeadStaging} {r c : Nat} {tones : List Byte}
    (one : ∀ r tones c r' tones' c', ¬(t.slotA = .filling r tones c ∧ t.slotB = .filling r' tones' c'))
    (filling : t.slotA = .filling r tones c ∨ t.slotB = .filling r tones c) :
    t.fillingOf = some (r, tones.length, c) ∧ t.mapSlots RingSlot.dropFilling = replaceFilling .empty t ∧
      ∀ mark, t.mapSlots (RingSlot.close mark) = replaceFilling (.ready r tones c mark) t := by
  obtain ⟨a, b, nf⟩ := t
  obtain rfl | rfl := filling
  · cases b with
    | filling => exact absurd ⟨rfl, rfl⟩ (one _ _ _ _ _ _)
    | empty | ready | cutting => exact ⟨rfl, rfl, fun _ => rfl⟩
  · cases a with
    | filling => exact absurd ⟨rfl, rfl⟩ (one _ _ _ _ _ _)
    | empty | ready | cutting => exact ⟨rfl, rfl, fun _ => rfl⟩

section
variable {h : HeadId} {r c received running : Nat} {mark : Option Nat} {m : Bool} {d : Descriptor} {s : State}

theorem ringClose_of_head {head ring check : Option Nat} (names : head.bind HeadId.ofNum = some h) :
    ringClose head ring check mark s = closeFor h ring check mark s := by rw [ringClose, names]

theorem closeFor_of_bad_mark (bad : mark.bind yesNo = none) :
    closeFor h (some r) (some c) mark s = withPosition h (.badField 3) s := by
  unfold closeFor
  rw [bad]

theorem closeFor_of_no_band (good : mark.bind yesNo = some m) (no_band : s.ringBand h = none) :
    closeFor h (some r) (some c) mark s = withPosition h .notInBand s := by
  unfold closeFor
  rw [good]
  dsimp only
  rw [no_band]

theorem closeFor_of_high (good : mark.bind yesNo = some m) (band : s.ringBand h = some d) (high : d.nr ≤ r) :
    closeFor h (some r) (some c) mark s = withPosition h (.badField 1) s := by
  unfold closeFor
  rw [good]
  dsimp only
  rw [band]
  exact if_pos high

theorem closeFor_of_idle (good : mark.bind yesNo = some m) (band : s.ringBand h = some d) (low : r < d.nr)
    (idle : (s.staging.heads.get h).fillingOf = none) :
    closeFor h (some r) (some c) mark s = withPosition h .ringOutOfOrder s := by
  unfold closeFor
  rw [good]
  dsimp only
  rw [band]
  refine (if_neg (Nat.not_le.mpr low)).trans ?_
  rw [idle]

/-- The checks of a close against the head's FILLING slot (R108, checks 6 to 8). -/
theorem closeFor_of_filling {fr : Nat} (good : mark.bind yesNo = some m) (band : s.ringBand h = some d) (low : r < d.nr)
    (filling : (s.staging.heads.get h).fillingOf = some (fr, received, running)) :
    closeFor h (some r) (some c) mark s =
      if fr ≠ r then withPosition h .ringOutOfOrder s
      else if received ≠ d.cut then
        withPosition h .lengthMismatch (modStaging h (HeadStaging.mapSlots RingSlot.dropFilling) s)
      else if c ≠ running then
        withPosition h .ringCheckFailed (modStaging h (HeadStaging.mapSlots RingSlot.dropFilling) s)
      else
        withPosition h .done
          (modStaging h (fun t => { t.mapSlots (RingSlot.close m) with nf := t.nf.map fun n => n + 1 }) s) := by
  unfold closeFor
  rw [good]
  dsimp only
  rw [band]
  refine (if_neg (Nat.not_le.mpr low)).trans ?_
  rw [filling]

end

/-- Settles O31: the block's checks in order on the request taken, and the one FILLING slot emptied or made READY. -/
theorem ringCloseMakesReady : Obligations.RingCloseMakesReady := by
  intro head ring check mark s ready
  refine ⟨fun high => exec_refused (r := .badField 0) rfl ready rfl rfl ?_, fun h names one => ?_⟩
  · rw [ringClose, Option.bind_some, HeadId.ofNum_of_four_le high]
  have named : (some head.toNat).bind HeadId.ofNum = some h := by rw [names]; exact HeadId.ofNum_num h
  have row := ringClose_of_head (s := markTaken .prepress s) (ring := some ring.toNat) (check := some check.toNat)
    (mark := some mark.toNat) named
  have refused {e : Result} (answers : closeFor h (some ring.toNat) (some check.toNat) (some mark.toNat)
      (markTaken .prepress s) = withPosition h e (markTaken .prepress s)) :=
    exec_positioned (c := .ringClose .prepress head ring check mark) (x := s) rfl ready rfl rfl (row.trans answers)
  refine ⟨fun high => refused (closeFor_of_bad_mark (yesNo_of_high high)), fun mark_low =>
    ⟨fun takes_none => ?_, fun d takes => ?_⟩⟩
  · exact refused (closeFor_of_no_band (yesNo_byte mark_low) (ringBand_eq_none takes_none))
  have band : (markTaken .prepress s).ringBand h = some d := ringBand_eq_some_iff.mpr takes
  refine ⟨fun high => refused (closeFor_of_high (yesNo_byte mark_low) band high), fun low =>
    ⟨fun idle => refused (closeFor_of_idle (yesNo_byte mark_low) band low (fillingOf_eq_none idle)), ?_⟩⟩
  intro r tones c filling
  obtain ⟨of, drops, closes⟩ := one_filling one filling
  have checks := closeFor_of_filling (s := markTaken .prepress s) (c := check.toNat) (mark := some mark.toNat)
    (yesNo_byte mark_low) band low of
  refine ⟨fun other => ?_, fun same short => ?_, fun same whole wrong => ?_, fun same whole right => ?_⟩
  · exact refused (checks.trans (if_pos other))
  · exact exec_restaged (k := .ringClose) (r := .lengthMismatch) rfl ready rfl (fun _ => rfl) drops
      (row.trans (checks.trans ((if_neg (not_not.mpr same)).trans (if_pos short))))
  · exact exec_restaged (k := .ringClose) (r := .ringCheckFailed) rfl ready rfl (fun _ => rfl) drops
      (row.trans (checks.trans ((if_neg (not_not.mpr same)).trans ((if_neg (not_not.mpr whole)).trans (if_pos wrong)))))
  · refine exec_restaged (k := .ringClose) (r := .done) rfl ready rfl (fun _ => rfl) ?_
      (row.trans (checks.trans ((if_neg (not_not.mpr same)).trans ((if_neg (not_not.mpr whole)).trans
        (if_neg (not_not.mpr right))))))
    exact congrArg (fun y : HeadStaging => { y with nf := (s.staging.heads.get h).nf.map fun n => n + 1 }) (closes _)

/-! ### DISCARD_RINGS (R115) -/

theorem ringCut_eq (x : RingSlot) : ringCut x = x.cuttingRing := by cases x <;> rfl

theorem discard_eq (x : RingSlot) : x.discard = if (ringCut x).isSome then x else .empty := by cases x <;> rfl

theorem HeadStaging.discard_eq (n : Nat) (t : HeadStaging) : t.discard n =
    { slotA := if (ringCut t.slotA).isSome then t.slotA else .empty
      slotB := if (ringCut t.slotB).isSome then t.slotB else .empty
      nf :=
        match ringCut t.slotA, ringCut t.slotB with
        | some r, _ => some (r + 1)
        | none, some r => some (r + 1)
        | none, none => some n } := by
  unfold HeadStaging.discard HeadStaging.mapSlots HeadStaging.cuttingRing
  dsimp only
  rw [Machine.discard_eq, Machine.discard_eq, ← ringCut_eq, ← ringCut_eq]
  refine congrArg _ ?_
  cases ringCut t.slotA <;> cases ringCut t.slotB <;> rfl

/-- Settles O32. -/
theorem discardRingsEmptiesTheHead : Obligations.DiscardRingsEmptiesTheHead := by
  intro head s ready
  refine ⟨fun high => exec_refused (r := .badField 0) rfl ready rfl rfl ?_, fun h names => ?_⟩
  · rw [discardRings, Option.bind_some, HeadId.ofNum_of_four_le high]
  have named : (some head.toNat).bind HeadId.ofNum = some h := by rw [names]; exact HeadId.ofNum_num h
  refine ⟨fun takes_none => ?_, fun d i takes slot => ?_⟩
  · refine exec_positioned (k := .discardRings) (r := .notInBand) rfl ready rfl rfl ?_
    have no_band : (markTaken .prepress s).ringBand h = none := ringBand_eq_none takes_none
    rw [discardRings, named]
    dsimp only
    rw [no_band]
  · refine exec_restaged (k := .discardRings) (r := .done) (g := HeadStaging.discard s.nextRing) rfl ready rfl
      (fun _ => rfl) ?_ ?_
    · rw [nextRing_of_slot slot]
      exact HeadStaging.discard_eq _ _
    · have band : (markTaken .prepress s).ringBand h = some d := ringBand_eq_some_iff.mpr takes
      rw [discardRings, named]
      dsimp only
      rw [band]
      rfl

end Sys2Proof.Machine

end

section
/-! PROOFS. The five reads carry the state (O54). -/

namespace Sys2Proof.Machine

/-! ### The values in a reply (R185) -/

theorem bytesOf_one (v : Nat) : bytesOf 1 v = be1 v := by simp [bytesOf, be1]

theorem bytesOf_four (v : Nat) : bytesOf 4 v = be4 v := by simp [bytesOf, be4]

theorem optionalByte_eq (v : Option Nat) : [optionalByte v] = optByte v := by cases v <;> rfl

theorem flagByte_eq (b : Bool) : flagByte b = BitVec.ofNat 8 (bit b) := by cases b <;> rfl

theorem setByte_eq (p : PerHead Bool) : setByte p = BitVec.ofNat 8 (headSetByte p) := by
  obtain ⟨b0, b1, b2, b3⟩ := p
  revert b0 b1 b2 b3
  decide

theorem ringBytes_eq (v : Option Nat) : ringBytes v = ringByte3 v := by
  cases v with
  | none => rfl
  | some n => exact bytesOf_three n

/-! ### The codes are the places in the chapters' lists (R185) -/

theorem bandKind_code (k : BandKind) : placeIn [.engrave, .testCut, .dryPass] k = k.code := by cases k <;> rfl

theorem policy_place (p : Policy) : placeIn [.drop, .raise] p = p.code := by cases p <;> rfl

theorem phase_code (p : Phase) : placeIn [.neverRun, .current, .stopped, .aborted, .complete] p = p.code := by
  cases p <;> rfl

theorem outcome_code (o : BandOutcome) : placeIn [.stopped, .aborted, .complete] o + 2 = o.phase.code := by cases o <;> rfl

theorem endCause_code (c : EndCause) : placeIn [.operatorStop, .linkLost, .operatorAbort, .cutAbortLine, .motionStall,
    .reverseRotation, .indexSlip, .headFault, .landTimeout, .positionMismatch, .carriageTimeout] c = c.code := by
  cases c <;> rfl

theorem headId_code (h : HeadId) : placeIn [.h0, .h1, .h2, .h3] h = h.num := by cases h <;> rfl

theorem headState_code (x : HeadState) : headStateByte x = BitVec.ofNat 8 x.code := by cases x <;> rfl

theorem headCause_code (c : HeadCause) : placeIn [.landTimeout, .liftTimeout, .ampFault, .lostContact] c = c.code := by
  cases c <;> rfl

theorem engineState_code (x : EngineState) :
    placeIn [.idle, .armed, .preparing, .cutting, .held, .ending, .ended] x = x.code := by cases x <;> rfl

theorem holdReason_code (r : HoldReason) : placeIn [.stopMark, .pauseRequest, .starved, .speed] r = r.code := by
  cases r <;> rfl

theorem linkId_code (l : LinkId) : placeIn [.machine, .prepress, .gauge] l = l.num := by cases l <;> rfl

/-! ### READ_DESCRIPTOR (R97, Table 10-5) -/

theorem descriptorReply_eq (j : JobSlot) : descriptorReply j = 0#8 :: j.descriptorBytes := by
  unfold descriptorReply JobSlot.descriptorBytes
  cases j.desc with
  | none => rfl
  | some d =>
    simp only [Descriptor.bytes, bytesOf_one, bytesOf_two, bytesOf_four, ← optionalByte_eq, setByte_eq, bandKind_code,
      policy_place, be1, List.append_assoc, List.cons_append, List.nil_append, HeadId.all, List.flatMap_cons,
      List.flatMap_nil, PerHead.get]

theorem descriptorReply_length {j : JobSlot} {d : Descriptor} (desc : j.desc = some d) :
    (descriptorReply j).length = 35 + 3 * d.patches.length := by
  have patches : (d.patches.flatMap fun p => bytesOf 1 p.tone ++ bytesOf 2 p.length).length = 3 * d.patches.length := by
    rw [List.length_flatMap]
    simp [bytesOf, Nat.mul_comm]
  unfold descriptorReply
  rw [desc]
  simp only [List.length_append, patches]
  simp [bytesOf]

/-! ### READ_BAND_STATUS (R98, Table 10-6) -/

theorem summaryFlag_eq (r : StatusRecord) : summaryFlag r = r.summary := by
  have positive (n : Nat) : (n != 0) = decide (0 < n) := by cases n <;> rfl
  unfold summaryFlag StatusRecord.summary
  simp only [positive]
  rfl

theorem statusReply_eq (j : JobSlot) : statusReply j = 0#8 :: j.statusBytes := by
  unfold statusReply JobSlot.statusBytes
  simp only [bytesOf_two, bytesOf_four, ← optionalByte_eq, flagByte_eq, setByte_eq, phase_code, outcome_code,
    endCause_code, headId_code, summaryFlag_eq, HeadCounts.bytes, be1, List.append_assoc, List.cons_append,
    List.nil_append]
  cases j.desc <;> rfl

/-- A list of which each entry of a filter gives `n` bytes and the others none. -/
theorem length_flatMap_filter {α : Type} {f : α → List Byte} {p : α → Bool} {n : Nat}
    (each : ∀ x, (f x).length = if p x then n else 0) (xs : List α) : (xs.flatMap f).length = n * (xs.filter p).length := by
  induction xs with
  | nil => rfl
  | cons x xs ih =>
    rw [List.flatMap_cons, List.length_append, each, ih, List.filter_cons]
    split
    · rw [List.length_cons, Nat.mul_add, Nat.mul_one, Nat.add_comm]
    · rw [Nat.zero_add]

theorem statusReply_length (j : JobSlot) : (statusReply j).length =
    22 + 12 * ([HeadId.h0, .h1, .h2, .h3].filter fun h => (j.record.counts.get h).isSome).length := by
  unfold statusReply
  rw [List.length_append, length_flatMap_filter (n := 12) (p := fun h => (j.record.counts.get h).isSome)]
  · simp [bytesOf]
  · intro h
    cases j.record.counts.get h <;> simp [bytesOf]

/-! ### READ_CURVE (R55, Table 10-10) -/

theorem curveBytes_eq (k : Curve) : curveBytes k = (List.range 17).flatMap fun n => bytesOf 2 (k.toList.getD n 0) := by
  have listed : (List.range 17).map (fun n => k.toList.getD n 0) = k.toList := by
    refine List.ext_getElem (by simp) fun n _ high => ?_
    rw [Vector.length_toList] at high
    simp [high]
  calc curveBytes k = ((List.range 17).map fun n => k.toList.getD n 0).flatMap be2 := by rw [listed]; rfl
    _ = (List.range 17).flatMap fun n => bytesOf 2 (k.toList.getD n 0) := by simp only [List.flatMap_map, bytesOf_two]

theorem curveReply_eq (c : Fin 16) (s : State) : curveReplyBody c s = 0#8 :: curveReply c s := by
  unfold curveReplyBody curveReply
  simp only [flagByte_eq, be1, List.cons_append, List.nil_append, ← curveBytes_eq]
  cases s.store.curves[c].active <;> cases s.store.curves[c].pending <;> rfl

/-! ### READ_HEAD (R56, R75, Table 10-10) -/

theorem biasBytes_eq (b : Int) : be2 (BitVec.ofInt 16 b).toNat = biasBytes b := by
  rw [biasBytes, BitVec.toNat_ofInt]
  rfl

theorem paramsBytes_eq (p : HeadParams) : paramsBytes p = p.bytes := by
  simp only [paramsBytes, HeadParams.bytes, biasBytes_eq, bytesOf_one, bytesOf_two, flagByte_eq, be1, List.append_assoc,
    List.cons_append, List.nil_append]

theorem headReply_eq (h : HeadId) (s : State) : headReplyBody h s = 0#8 :: headReply h s := by
  unfold headReplyBody headReply
  simp only [← optionalByte_eq, flagByte_eq, headId_code, headState_code, headCause_code, bytesOf_four, paramsBytes_eq, be1,
    List.append_assoc, List.cons_append, List.nil_append]
  cases (s.store.params.get h).pending <;> rfl

/-! ### READ_ENGINE (R122, R149, R183, Table 10-7) -/

theorem slotBytes_eq (x : RingSlot) : slotBytes x = x.bytes := by
  cases x <;> simp [slotBytes, RingSlot.bytes, RingSlot.code, bytesOf_two, flagByte_eq, be1, be2]

theorem engineReply_eq (s : State) : engineReplyBody s = 0#8 :: engineReply s := by
  unfold engineReplyBody engineReply
  simp only [← optionalByte_eq, engineState_code, holdReason_code, linkId_code, headState_code, bytesOf_four, slotBytes_eq,
    ringBytes_eq, headBlock, be1, List.append_assoc, List.cons_append, List.nil_append]
  cases s.custody <;> rfl

theorem slotBytes_length (x : RingSlot) : (slotBytes x).length = 6 := by cases x <;> simp [slotBytes, bytesOf]

theorem ringBytes_length (v : Option Nat) : (ringBytes v).length = 3 := by cases v <;> simp [ringBytes, bytesOf]

theorem engineReply_length (s : State) : (engineReplyBody s).length = 80 := by
  simp [engineReplyBody, slotBytes_length, ringBytes_length, bytesOf]

/-! ### The reads -/

/-- A read that its link may send is answered DONE with what it carries, and changes nothing. -/
theorem exec_read {c : Instr} {l : LinkId} {k : ReqKind} {f : State → State × Answer} {s : State} {carries body : List Byte}
    (runs : exec c s = .next (serve l k f s)) (ready : Ready l s) (permitted : k.permitted l = true)
    (plain : everyReply k s = []) (reads : f (markTaken l s) = (markTaken l s, ⟨.done, carries⟩))
    (is : body = 0#8 :: carries) : exec c s = .next (s.answered l k body) := by
  rw [runs, serve_answered ready permitted reads, plain, is]
  rfl

/-- Settles O54. -/
theorem readsCarryTheState : Obligations.ReadsCarryTheState := by
  intro l n s ready
  refine ⟨fun high => ⟨?_, ?_⟩, fun i names => ⟨?_, fun d desc => descriptorReply_length desc, ?_, statusReply_length _⟩,
    fun high => ?_, fun c names => ?_, fun high => ?_, fun h names => ?_, ?_, engineReply_length s⟩
  · refine exec_refused (r := .badField 0) rfl ready rfl rfl ?_
    rw [readDescriptor, slotOf_of_high high]
  · refine exec_refused (r := .badField 0) rfl ready rfl rfl ?_
    rw [readBandStatus, slotOf_of_high high]
  · refine exec_read (k := .readDescriptor) rfl ready rfl rfl ?_ (descriptorReply_eq _)
    rw [readDescriptor, names, slotOf_fin]
    rfl
  · refine exec_read (k := .readBandStatus) rfl ready rfl rfl ?_ (statusReply_eq _)
    rw [readBandStatus, names, slotOf_fin]
    rfl
  · refine exec_refused (r := .badField 0) rfl ready rfl rfl ?_
    rw [readCurve, curveOf_of_le high]
  · refine exec_read (k := .readCurve) rfl ready rfl rfl ?_ (curveReply_eq c s)
    rw [readCurve, names, curveOf_val]
    rfl
  · refine exec_refused (r := .badField 0) rfl ready rfl rfl ?_
    rw [readHead, Option.bind_some, HeadId.ofNum_of_four_le high]
  · refine exec_read (k := .readHead) rfl ready rfl rfl ?_ (headReply_eq h s)
    rw [readHead, names, Option.bind_some, HeadId.ofNum_num]
    rfl
  · exact exec_read (k := .readEngine) rfl ready rfl rfl rfl (engineReply_eq s)

end Sys2Proof.Machine

end

section
/-! PROOFS. Frames: the check, and the reading of a request's fields (O52). -/

namespace Sys2Proof.Machine

/-! ### The check is taken bit by bit (R176) -/

/-- One step of the byte fold, on a register that holds the bits to come at its top: the top bit is taken and the others
move up. -/
theorem crcBit_xor (r w : BitVec 16) : crcBit (r ^^^ w) = checkRegister r w.msb ^^^ (w <<< 1) := by
  have top : (r ^^^ w).msb = (r.getLsbD 15 ^^ w.msb) := by simp [BitVec.msb_eq_getLsbD_last]
  unfold crcBit checkRegister
  rw [top, BitVec.shiftLeft_xor_distrib]
  split
  · rw [BitVec.xor_assoc, BitVec.xor_assoc, BitVec.xor_comm (w <<< 1)]
  · rfl

/-- The bits of a byte in the order in which the check takes them. -/
def bitsOf (b : Byte) : List Bool := [7, 6, 5, 4, 3, 2, 1, 0].map fun n => b.getLsbD n

theorem crcByte_eq (r : BitVec 16) (b : Byte) : crcByte r b = (bitsOf b).foldl checkRegister r := by
  have top (n : Nat) (low : n < 8) : ((b.zeroExtend 16 <<< 8) <<< n).msb = b.getLsbD (7 - n) := by
    rw [BitVec.msb_eq_getLsbD_last]
    interval_cases n <;> simp
  have gone : (b.zeroExtend 16 <<< 8) <<< 8 = 0#16 := by
    rw [← BitVec.shiftLeft_add]
    exact BitVec.shiftLeft_eq_zero (by decide)
  have first := top 0 (by decide)
  rw [BitVec.shiftLeft_zero] at first
  unfold crcByte
  simp only [crcBit_xor, ← BitVec.shiftLeft_add (b.zeroExtend 16 <<< 8), Nat.reduceAdd, gone, BitVec.xor_zero, first,
    top 1 (by decide), top 2 (by decide), top 3 (by decide), top 4 (by decide), top 5 (by decide), top 6 (by decide),
    top 7 (by decide)]
  rfl

theorem frameCheck_eq (kind : Byte) (body : List Byte) :
    frameCheck kind body = (checkedBits kind body).foldl checkRegister 0xFFFF#16 := by
  have bytes (xs : List Byte) (r : BitVec 16) : xs.foldl crcByte r = (xs.flatMap bitsOf).foldl checkRegister r := by
    induction xs generalizing r with
    | nil => rfl
    | cons x xs ih => rw [List.foldl_cons, List.flatMap_cons, List.foldl_append, crcByte_eq, ih]
  unfold frameCheck crc16 checkedBits
  rw [bytes, bytesOf_two]
  rfl

/-! ### The kinds and their bytes (Table 10-8) -/

theorem kindByte_eq (k : ReqKind) : k.code = kindByte k := by cases k <;> rfl

theorem ofCode_kindByte (k : ReqKind) : ReqKind.ofCode (kindByte k) = some k := by cases k <;> rfl

/-! ### The fields of a body (R177, R185) -/

theorem toNat_be1 (v : Byte) : be1 v.toNat = [v] := by simp [be1]

/-- The value of two bytes, read back. -/
theorem join_two (v : BitVec 16) : v.toNat / 256 % 256 * 256 + v.toNat % 256 = v.toNat := by
  have range := v.isLt
  omega

/-- The value of four bytes, read back. -/
theorem join_four (v : BitVec 32) : (v.toNat / 16777216 % 256 * 256 + v.toNat / 65536 % 256) * 65536 +
    (v.toNat / 256 % 256 * 256 + v.toNat % 256) = v.toNat := by
  have range := v.isLt
  omega

theorem u8_cons_zero (a : Byte) (b : List Byte) : u8 (a :: b) 0 = some a.toNat := rfl

@[simp] theorem u16_be2 (v : BitVec 16) (b : List Byte) : u16 (be2 v.toNat ++ b) 0 = some v.toNat := by
  simp [u16, be2, join_two]

@[simp] theorem u32_be4 (v : BitVec 32) (b : List Byte) : u32 (be4 v.toNat ++ b) 0 = some v.toNat := by
  simp [u32, u16, be4, join_four]

theorem u8_append (p b : List Byte) (i : Nat) : u8 (p ++ b) (p.length + i) = u8 b i := by
  unfold u8
  rw [List.getElem?_append_right (Nat.le_add_right ..), Nat.add_sub_cancel_left]

theorem u16_append (p b : List Byte) (i : Nat) : u16 (p ++ b) (p.length + i) = u16 b i := by
  unfold u16
  rw [Nat.add_assoc, List.getElem?_append_right (Nat.le_add_right ..), List.getElem?_append_right (Nat.le_add_right ..),
    Nat.add_sub_cancel_left, Nat.add_sub_cancel_left]

theorem u32_append (p b : List Byte) (i : Nat) : u32 (p ++ b) (p.length + i) = u32 b i := by
  simp [u32, u16_append, Nat.add_assoc]

theorem be1_length (n : Nat) : (be1 n).length = 1 := rfl

theorem be2_length (n : Nat) : (be2 n).length = 2 := rfl

theorem be4_length (n : Nat) : (be4 n).length = 4 := rfl

section
variable (b : List Byte) (i n : Nat)

@[simp] theorem u8_be1 (v : Byte) : u8 (be1 v.toNat ++ b) 0 = some v.toNat := by simp [be1, u8]

@[simp] theorem u8_after_be1 : u8 (be1 n ++ b) (i + 1) = u8 b i := by
  rw [Nat.add_comm]
  exact u8_append (be1 n) b i

@[simp] theorem u8_after_be2 : u8 (be2 n ++ b) (i + 2) = u8 b i := by
  rw [Nat.add_comm]
  exact u8_append (be2 n) b i

@[simp] theorem u8_after_be4 : u8 (be4 n ++ b) (i + 4) = u8 b i := by
  rw [Nat.add_comm]
  exact u8_append (be4 n) b i

@[simp] theorem u16_after_be1 : u16 (be1 n ++ b) (i + 1) = u16 b i := by
  rw [Nat.add_comm]
  exact u16_append (be1 n) b i

@[simp] theorem u16_after_be2 : u16 (be2 n ++ b) (i + 2) = u16 b i := by
  rw [Nat.add_comm]
  exact u16_append (be2 n) b i

@[simp] theorem u16_after_be4 : u16 (be4 n ++ b) (i + 4) = u16 b i := by
  rw [Nat.add_comm]
  exact u16_append (be4 n) b i

@[simp] theorem u32_after_be1 : u32 (be1 n ++ b) (i + 1) = u32 b i := by
  rw [Nat.add_comm]
  exact u32_append (be1 n) b i

@[simp] theorem u32_after_be2 : u32 (be2 n ++ b) (i + 2) = u32 b i := by
  rw [Nat.add_comm]
  exact u32_append (be2 n) b i

@[simp] theorem u32_after_be4 : u32 (be4 n ++ b) (i + 4) = u32 b i := by
  rw [Nat.add_comm]
  exact u32_append (be4 n) b i

end

theorem mountCylinder_of_no_identity {form : Byte} (other : form ≠ 1#8) (job separation job' separation' : Option Nat) :
    mountCylinder (some form.toNat) job separation = mountCylinder (some form.toNat) job' separation' := by
  have ne : form.toNat ≠ 1 := fun same => other (BitVec.eq_of_toNat_eq same)
  funext s
  unfold mountCylinder
  match form.toNat, ne with
  | 0, _ => rfl
  | n + 2, _ => rfl

/-- The two-byte entries of a list, read back (Table 10-9). -/
theorem u16_list (vs : List (BitVec 16)) (more : List Byte) {n : Nat} (low : n < vs.length) :
    u16 ((vs.flatMap fun v => be2 v.toNat) ++ more) (2 * n) = some vs[n].toNat := by
  induction vs generalizing n with
  | nil => cases low
  | cons v vs ih =>
    rw [List.flatMap_cons, List.append_assoc]
    match n with
    | 0 => exact u16_be2 v _
    | n + 1 =>
      have at_ : 2 * (n + 1) = (be2 v.toNat).length + 2 * n := by simp [be2]; omega
      rw [at_, u16_append]
      exact ih (Nat.lt_of_succ_lt_succ low)

/-- The bytes of a patch list (Table 10-5). -/
def patchBytes (ps : List (Byte × BitVec 16)) : List Byte := ps.flatMap fun p => be1 p.1.toNat ++ be2 p.2.toNat

theorem patchBytes_length (ps : List (Byte × BitVec 16)) : (patchBytes ps).length = 3 * ps.length := by
  induction ps with
  | nil => rfl
  | cons p ps ih =>
    have next : (patchBytes (p :: ps)).length = 3 + (patchBytes ps).length := by
      simp [patchBytes, be1, be2]
      omega
    rw [next, ih, List.length_cons]
    omega

/-- The entries of a patch list, read back (Table 10-5). -/
theorem patch_read (ps : List (Byte × BitVec 16)) (more : List Byte) {n : Nat} (low : n < ps.length) :
    u8 (patchBytes ps ++ more) (3 * n) = some ps[n].1.toNat ∧ u16 (patchBytes ps ++ more) (3 * n + 1) = some ps[n].2.toNat := by
  induction ps generalizing n with
  | nil => cases low
  | cons p ps ih =>
    have next : patchBytes (p :: ps) ++ more = (be1 p.1.toNat ++ be2 p.2.toNat) ++ (patchBytes ps ++ more) := by
      simp [patchBytes]
    rw [next]
    match n with
    | 0 =>
      refine ⟨by simp [be1, u8], ?_⟩
      rw [List.append_assoc]
      exact (u16_append (be1 p.1.toNat) _ 0).trans (u16_be2 p.2 _)
    | n + 1 =>
      have at_ : 3 * (n + 1) = (be1 p.1.toNat ++ be2 p.2.toNat).length + 3 * n := by simp [be1, be2]; omega
      rw [at_, u8_append, Nat.add_assoc, u16_append]
      exact ih (Nat.lt_of_succ_lt_succ low)

/-- The bytes of a descriptor's fields from its slot to its patch count (Table 10-5). -/
def descriptorHeader (slot : Byte) (d : DescriptorBody) : List Byte :=
  be1 slot.toNat ++ be1 d.kind.toNat ++ be4 d.job.toNat ++ be1 d.separation.toNat ++ be1 d.headSet.toNat ++
    be4 d.x0.toNat ++ be2 d.pitch.toNat ++ be2 d.nr.toNat ++ be2 d.nc.toNat ++ be2 d.cut.toNat ++
    be1 d.stagger.toNat ++ be1 d.curves.h0.toNat ++ be1 d.curves.h1.toNat ++ be1 d.curves.h2.toNat ++
    be1 d.curves.h3.toNat ++ be1 d.policy.toNat ++ be2 d.texp.toNat ++ be1 d.speedTol.toNat ++
    be2 d.posTol.toNat ++ be1 d.starve.toNat ++ be1 d.nextSlot.toNat ++ be1 d.patchCount.toNat

theorem descriptorHeader_length (slot : Byte) (d : DescriptorBody) : (descriptorHeader slot d).length = 34 := by
  unfold descriptorHeader
  simp only [List.length_append, be1_length, be2_length, be4_length]

theorem rawOfBytes_eq {d : DescriptorBody} (listed : d.patches.length = d.patchCount.toNat) (slot : Byte)
    (more : List Byte) : rawOfBytes (descriptorHeader slot d ++ (patchBytes d.patches ++ more)) = rawOfFields d := by
  have patches : ((List.range d.patchCount.toNat).map fun n =>
      (u8 (descriptorHeader slot d ++ (patchBytes d.patches ++ more)) (34 + 3 * n),
        u16 (descriptorHeader slot d ++ (patchBytes d.patches ++ more)) (35 + 3 * n))) = patchFields d.patches := by
    refine List.ext_getElem (by simp [patchFields, listed]) fun n low high => ?_
    have inside : n < d.patches.length := by simpa [patchFields] using high
    obtain ⟨tone, length⟩ := patch_read d.patches more inside
    have at_ : 35 + 3 * n = 34 + (3 * n + 1) := by omega
    have first := u8_append (descriptorHeader slot d) (patchBytes d.patches ++ more) (3 * n)
    have second := u16_append (descriptorHeader slot d) (patchBytes d.patches ++ more) (3 * n + 1)
    rw [descriptorHeader_length] at first second
    rw [List.getElem_map, List.getElem_range, at_, first, second, tone, length]
    simp [patchFields]
  have count : u8 (descriptorHeader slot d ++ (patchBytes d.patches ++ more)) 33 = some d.patchCount.toNat := by
    unfold descriptorHeader
    simp only [List.append_assoc, u8_be1, u8_after_be1, u8_after_be2, u8_after_be4]
  unfold rawOfBytes
  rw [count, Option.getD_some, patches, ← rawOfFields_patches listed]
  unfold descriptorHeader
  simp only [List.append_assoc, u8_be1, u8_after_be1, u8_after_be2, u8_after_be4, u16_be2, u16_after_be1,
    u16_after_be2, u16_after_be4, u32_be4, u32_after_be1, u32_after_be4]
  rfl

theorem descriptorHeader_slot (slot : Byte) (d : DescriptorBody) (b : List Byte) :
    u8 (descriptorHeader slot d ++ b) 0 = some slot.toNat := by
  unfold descriptorHeader
  simp only [List.append_assoc, u8_be1]

theorem asFrame_writeDescriptor (l : LinkId) (slot : Byte) (d : DescriptorBody) :
    (Instr.writeDescriptor l slot d).asFrame =
      some (l, .writeDescriptor, descriptorHeader slot d ++ patchBytes d.patches) := by
  unfold Instr.asFrame descriptorHeader patchBytes
  rfl

theorem paramsOfBytes_eq (head : Byte) (p : ParamsBody) (more : List Byte) :
    paramsOfBytes (be1 head.toNat ++ be1 p.fitted.toNat ++ be2 p.gain.toNat ++ be2 p.bias.toNat ++ be1 p.dmin.toNat ++
      be1 p.wearRate.toNat ++ be1 p.wearCap.toNat ++ be2 p.lowerMs.toNat ++ be2 p.liftMs.toNat ++ more) =
      paramsOfFields p := by
  unfold paramsOfBytes
  simp only [List.append_assoc, u8_be1, u8_after_be1, u8_after_be2, u16_be2, u16_after_be1, u16_after_be2]
  rfl

theorem knots_read (curve : Byte) (knots : Vector (BitVec 16) 17) (more : List Byte) :
    (Vector.ofFn fun n : Fin 17 => u16 (be1 curve.toNat ++ ((knots.toList.flatMap fun k => be2 k.toNat) ++ more))
      (1 + 2 * n.val)) = knots.map fun k => some k.toNat := by
  refine Vector.ext fun n low => ?_
  rw [Vector.getElem_ofFn, Nat.add_comm, u16_after_be1, u16_list knots.toList more (by simpa using low)]
  simp

/-! ### A frame's fields are the row's (R177) -/

theorem descriptor_fieldsEnd (l : LinkId) (slot : Byte) (d : DescriptorBody) :
    fieldsEnd (.writeDescriptor l slot d) (fieldSizes (.writeDescriptor l slot d)).length = 34 + 3 * d.patches.length := by
  unfold fieldsEnd fieldSizes
  rw [List.take_length, List.sum_append]
  refine congrArg (34 + ·) ?_
  induction d.patches with
  | nil => rfl
  | cons p ps ih =>
    rw [List.flatMap_cons, List.sum_append, ih, List.length_cons]
    show 3 + _ = _
    omega

theorem curve_fieldsEnd (l : LinkId) (curve : Byte) (knots : Vector (BitVec 16) 17) :
    fieldsEnd (.writeCurve l curve knots) (fieldSizes (.writeCurve l curve knots)).length = 35 := rfl

theorem knots_length (vs : List (BitVec 16)) : (vs.flatMap fun v => be2 v.toNat).length = 2 * vs.length := by
  rw [List.length_flatMap]
  simp [be2_length, Nat.mul_comm]

/-- A request row is its block's answer to the frame's body, and to every body that starts with the same fields (R177). -/
theorem exec_eq_handler {c : Instr} {l : LinkId} {k : ReqKind} {body : List Byte} (sized : c.wellFormed = true)
    (frame : c.asFrame = some (l, k, body)) (more : List Byte)
    (whole : k = .relayNote ∨ k = .ringSegment → more = body.drop (fieldsEnd c (fieldSizes c).length)) (s : State) :
    exec c s = .next (serve l k (handler l k (body.take (fieldsEnd c (fieldSizes c).length) ++ more)) s) := by
  cases c
  case writeDescriptor _ slot d =>
    rw [asFrame_writeDescriptor] at frame
    cases frame
    refine congrArg (fun f => Host.Outcome.next (serve _ .writeDescriptor f s)) ?_
    obtain ⟨count, -⟩ := Bool.and_eq_true_iff.mp sized
    have listed : d.patches.length = d.patchCount.toNat := eq_of_beq count
    have length : (descriptorHeader slot d ++ patchBytes d.patches).length = 34 + 3 * d.patches.length := by
      rw [List.length_append, descriptorHeader_length, patchBytes_length]
    rw [descriptor_fieldsEnd, List.take_of_length_le (Nat.le_of_eq length), List.append_assoc]
    show _ = writeDescriptor l (u8 (descriptorHeader slot d ++ (patchBytes d.patches ++ more)) 0)
      (rawOfBytes (descriptorHeader slot d ++ (patchBytes d.patches ++ more)))
    rw [rawOfBytes_eq listed, descriptorHeader_slot]
  all_goals cases frame
  case disarm | startBand | pauseBand | resumeBand | stopAtSeam | stopAtOnce | ackEnd | claimCustody | releaseCustody |
      seizeCustody | readEngine | readEvents | fetchRelay => rfl
  case armBand | setStallLimit | clearHeadFault | passCustody | clearDescriptor | setStylusCount | readDescriptor |
      readBandStatus | readCurve | readHead | setNoticeMask | ringClose | discardRings =>
    refine congrArg (fun f => Host.Outcome.next (serve _ _ f s)) ?_
    simp [handler, fieldsEnd, fieldSizes, be1, be2, be4, u8, u32, u16, join_two, join_four]
  case mountCylinder form job separation =>
    refine congrArg (fun f => Host.Outcome.next (serve _ .mountCylinder f s)) ?_
    by_cases identity : form = 1#8
    · have fields : fieldsEnd (.mountCylinder l form job separation)
          (fieldSizes (.mountCylinder l form job separation)).length = 6 := by simp [fieldsEnd, fieldSizes, identity]
      rw [fields]
      simp [handler, be1, be4, u8, u32, u16, join_four]
    · have fields : fieldsEnd (.mountCylinder l form job separation)
          (fieldSizes (.mountCylinder l form job separation)).length = 1 := by simp [fieldsEnd, fieldSizes, identity]
      rw [fields]
      refine (mountCylinder_of_no_identity identity _ _ _ _).trans (congrArg (fun f => mountCylinder f _ _) ?_)
      simp [be1, u8]
  case writeCurve curve knots =>
    refine congrArg (fun f => Host.Outcome.next (serve _ .writeCurve f s)) ?_
    have length : (be1 curve.toNat ++ knots.toList.flatMap fun k => be2 k.toNat).length = 35 := by
      rw [List.length_append, knots_length, Vector.length_toList, be1_length]
    rw [curve_fieldsEnd, List.take_of_length_le (Nat.le_of_eq length), List.append_assoc]
    refine congrArg₂ (writeCurve l) (u8_be1 _ _).symm (knots_read curve knots more).symm
  case writeHeadParams head p =>
    refine congrArg (fun f => Host.Outcome.next (serve _ .writeHeadParams f s)) ?_
    rw [List.take_of_length_le (Nat.le_refl 13)]
    refine congrArg₂ (writeHeadParams l) ?_ (paramsOfBytes_eq head p more).symm
    simp only [List.append_assoc, u8_be1]
  case relayNote target bytes =>
    obtain rfl : more = bytes := whole (.inl rfl)
    refine congrArg (fun f => Host.Outcome.next (serve _ .relayNote f s)) ?_
    simp [handler, fieldsEnd, fieldSizes, be1, u8]
  case ringSegment head ring offset tones =>
    obtain rfl : more = tones := whole (.inr rfl)
    refine congrArg (fun f => Host.Outcome.next (serve _ .ringSegment f s)) ?_
    simp [handler, fieldsEnd, fieldSizes, be1, be2, u8, u16, join_two]

/-- A body that a request row stands for is one that the receiver takes (R176). -/
theorem body_length_le {c : Instr} {l : LinkId} {k : ReqKind} {body : List Byte} (sized : c.wellFormed = true)
    (frame : c.asFrame = some (l, k, body)) : body.length ≤ 1100 := by
  cases c
  case writeDescriptor _ slot d =>
    rw [asFrame_writeDescriptor] at frame
    cases frame
    obtain ⟨-, fits⟩ := Bool.and_eq_true_iff.mp sized
    rw [List.length_append, descriptorHeader_length, patchBytes_length]
    exact of_decide_eq_true fits
  all_goals cases frame
  case writeCurve curve knots =>
    rw [List.length_append, knots_length, Vector.length_toList, be1_length]
    decide
  case relayNote target bytes =>
    rw [List.length_append]
    exact of_decide_eq_true sized
  case ringSegment head ring offset tones =>
    rw [List.length_append]
    exact of_decide_eq_true sized
  all_goals simp [be1, be2, be4]

/-- A frame with the right check is a request of its kind, served with its body (R176, R177). -/
theorem exec_intact_frame {kind : Byte} {body : List Byte} (low : body.length ≤ 1100) {k : ReqKind}
    (names : ReqKind.ofCode kind = some k) (l : LinkId) (s : State) :
    exec (.frameReceived l kind body (frameCheck kind body)) s = .next (serve l k (handler l k body) s) := by
  refine congrArg Host.Outcome.next ?_
  have intact : frameReceived l kind body (frameCheck kind body) s = serve l k (handler l k body) s := by
    have clean : (Config.maxBody < body.length || frameCheck kind body ≠ frameCheck kind body) = false := by
      have fits : ¬ Config.maxBody < body.length := Nat.not_lt.mpr low
      simp [fits]
    unfold frameReceived serve route
    rw [clean, names]
    rfl
  by_cases inside : s.inMasterReset = true
  · exact (if_pos inside).trans (serve_of_reset inside l k _).symm
  · exact (if_neg inside).trans intact

/-- Settles O52: the row's fields are read back from the frame's body, whatever follows them. -/
theorem framesCarryRequests : Obligations.FramesCarryRequests := by
  refine ⟨frameCheck_eq, fun c l k body s sized frame => ?_⟩
  have low := body_length_le sized frame
  have answers := exec_eq_handler sized frame (body.drop (fieldsEnd c (fieldSizes c).length)) (fun _ => rfl) s
  rw [List.take_append_drop] at answers
  refine ⟨low, ofCode_kindByte k, kindByte_eq k, _, answers,
    exec_intact_frame low (ofCode_kindByte k) l s, fun more note segment room => ?_⟩
  have longer := exec_eq_handler sized frame more (fun list => absurd list (not_or.mpr ⟨note, segment⟩)) s
  rw [answers] at longer
  refine (exec_intact_frame ?_ (ofCode_kindByte k) l s).trans longer.symm
  rw [List.length_append]
  have short : (body.take (fieldsEnd c (fieldSizes c).length)).length ≤ fieldsEnd c (fieldSizes c).length :=
    List.length_take_le ..
  omega

end Sys2Proof.Machine

end

section
/-! PROOFS. Frames that do not do what a request row does (O53). -/

namespace Sys2Proof.Machine

/-! ### The receiver (R176) -/

/-- What the receiver makes of the bytes after a start byte, where `hunt` is what it makes of the bytes after a frame. -/
def receiveBody (l : LinkId) (hunt : List Byte → List Instr) : List Byte → List Instr
  | n1 :: n0 :: more =>
    if 1100 < n1.toNat * 256 + n0.toNat then .bodyLengthImpossible l :: hunt more
    else
      match more with
      | kind :: after =>
        match after.drop (n1.toNat * 256 + n0.toNat) with
        | c1 :: c0 :: next => .frameReceived l kind (after.take (n1.toNat * 256 + n0.toNat)) (c1 ++ c0) :: hunt next
        | _ => []
      | [] => []
  | _ => []

theorem receiveFrom_cons (l : LinkId) (fuel : Nat) (b : Byte) (rest : List Byte) :
    receiveFrom l (fuel + 1) (b :: rest) =
      if b ≠ 0xA5#8 then receiveFrom l fuel rest else receiveBody l (receiveFrom l fuel) rest := by
  refine if_congr Iff.rfl rfl ?_
  unfold receiveBody
  rfl

/-- The bytes after a frame are fewer than those it was read from. -/
theorem receiveBody_congr (l : LinkId) {hunt hunt' : List Byte → List Instr} {bytes : List Byte}
    (same : ∀ xs, xs.length ≤ bytes.length → hunt xs = hunt' xs) : receiveBody l hunt bytes = receiveBody l hunt' bytes := by
  match bytes, same with
  | [], _ => rfl
  | [_], _ => rfl
  | n1 :: n0 :: more, same =>
    unfold receiveBody
    have rest := same more (by simp only [List.length_cons]; omega)
    refine if_congr Iff.rfl (congrArg _ rest) ?_
    cases more with
    | nil => rfl
    | cons kind after =>
      dsimp only
      have short : (after.drop (n1.toNat * 256 + n0.toNat)).length ≤ after.length := by simp
      match after.drop (n1.toNat * 256 + n0.toNat), short with
      | [], _ => rfl
      | [_], _ => rfl
      | c1 :: c0 :: next, short =>
        simp only [List.length_cons] at short same
        exact congrArg _ (same next (by omega))

/-- Any fuel that is enough reads the same. -/
theorem receiveFrom_eq (l : LinkId) {bytes : List Byte} {fuel : Nat} (enough : bytes.length ≤ fuel) :
    receiveFrom l fuel bytes = receive l bytes := by
  induction fuel using Nat.strong_induction_on generalizing bytes with
  | _ fuel ih =>
    match bytes, fuel with
    | [], 0 => rfl
    | [], fuel + 1 => rfl
    | b :: rest, fuel + 1 =>
      have low : rest.length ≤ fuel := Nat.le_of_succ_le_succ enough
      have fewer {xs : List Byte} (few : xs.length ≤ rest.length) :
          receiveFrom l fuel xs = receiveFrom l rest.length xs := by
        rw [ih fuel (Nat.lt_succ_self _) (few.trans low)]
        by_cases all : rest.length = fuel
        · rw [all, ih fuel (Nat.lt_succ_self _) (few.trans low)]
        · exact (ih rest.length (by omega) few).symm
      rw [receive, List.length_cons, receiveFrom_cons, receiveFrom_cons]
      exact if_congr Iff.rfl (fewer (Nat.le_refl _)) (receiveBody_congr l fun xs few => fewer few)

theorem receive_cons (l : LinkId) (b : Byte) (rest : List Byte) :
    receive l (b :: rest) = if b ≠ 0xA5#8 then receive l rest else receiveBody l (receive l) rest := by
  rw [receive, List.length_cons, receiveFrom_cons]
  exact if_congr Iff.rfl rfl (receiveBody_congr l fun xs few => receiveFrom_eq l few)

theorem receive_start (l : LinkId) (rest : List Byte) : receive l (0xA5#8 :: rest) = receiveBody l (receive l) rest := by
  rw [receive_cons, if_neg (not_not.mpr rfl)]

/-- The receiver's readings of O53. -/
theorem receiver_reads (l : LinkId) (b hi lo kind c1 c0 : Byte) (body rest : List Byte) :
    receive l [] = [] ∧ receive l [0xA5#8] = [] ∧ receive l [0xA5#8, hi] = [] ∧
    (b ≠ 0xA5#8 → receive l (b :: rest) = receive l rest) ∧
    (1100 < hi.toNat * 256 + lo.toNat →
      receive l (0xA5#8 :: hi :: lo :: rest) = .bodyLengthImpossible l :: receive l rest) ∧
    (hi.toNat * 256 + lo.toNat ≤ 1100 → receive l [0xA5#8, hi, lo] = [] ∧
      (body.length = hi.toNat * 256 + lo.toNat →
        receive l (0xA5#8 :: hi :: lo :: kind :: (body ++ c1 :: c0 :: rest)) =
          .frameReceived l kind body (c1 ++ c0) :: receive l rest) ∧
      (body.length < hi.toNat * 256 + lo.toNat + 2 → receive l (0xA5#8 :: hi :: lo :: kind :: body) = [])) := by
  refine ⟨rfl, receive_start l _, receive_start l _, fun other => ?_, fun high => ?_, fun low => ?_⟩
  · rw [receive_cons, if_pos other]
  · rw [receive_start]
    exact if_pos high
  have fits : ¬ 1100 < hi.toNat * 256 + lo.toNat := Nat.not_lt.mpr low
  refine ⟨(receive_start l _).trans (if_neg fits), fun whole => ?_, fun short => ?_⟩
  · refine (receive_start l _).trans ((if_neg fits).trans ?_)
    rw [← whole, List.drop_left, List.take_left]
  · refine (receive_start l _).trans ((if_neg fits).trans ?_)
    have few : (body.drop (hi.toNat * 256 + lo.toNat)).length < 2 := by rw [List.length_drop]; omega
    match body.drop (hi.toNat * 256 + lo.toNat), few with
    | [], _ => rfl
    | [_], _ => rfl

/-! ### Frames discarded, not taken or refused (R176 to R178) -/

section
variable {l : LinkId} {kind : Byte} {body : List Byte} {check : BitVec 16} {k : ReqKind} {s : State} {f : State → State × Answer}

theorem frameReceived_wrong (outside : s.inMasterReset = false) (wrong : check ≠ frameCheck kind body) :
    exec (.frameReceived l kind body check) s = .next (transmitAll (postTo l .linkError s)) := by
  have bad : (Config.maxBody < body.length || check ≠ frameCheck kind body) = true := by simp [wrong]
  exact congrArg Host.Outcome.next ((if_neg (by rw [outside]; decide)).trans (if_pos bad))

theorem bodyLengthImpossible_error (outside : s.inMasterReset = false) :
    exec (.bodyLengthImpossible l) s = .next (transmitAll (postTo l .linkError s)) :=
  congrArg Host.Outcome.next (if_neg (by rw [outside]; decide))

/-- An intact frame is taken, whatever its kind (R177). -/
theorem frameReceived_taken (outside : s.inMasterReset = false) (low : body.length ≤ 1100) :
    exec (.frameReceived l kind body (frameCheck kind body)) s = .next (takeRequest l (route l kind body) s) := by
  have fits : ¬ Config.maxBody < body.length := Nat.not_lt.mpr low
  have clean : ¬ (Config.maxBody < body.length || frameCheck kind body ≠ frameCheck kind body) = true := by simp [fits]
  exact congrArg Host.Outcome.next ((if_neg (by rw [outside]; decide)).trans (if_neg clean))

theorem takeRequest_down (down : (s.links.get l).up = false) (g : State → State) : takeRequest l g s = s := by
  simp [takeRequest, down]

theorem takeRequest_pending (outside : s.inMasterReset = false) (up : (s.links.get l).up = true)
    (pending : (s.links.get l).replyPending = true) (g : State → State) :
    takeRequest l g s = transmitAll (postTo l .linkError s) := by
  simp [takeRequest, outside, up, pending]

theorem takeRequest_ready (ready : Ready l s) (g : State → State) : takeRequest l g s = transmitAll (g (markTaken l s)) := by
  simp only [takeRequest, ready.1, ready.2.1, ready.2.2, Bool.not_true, Bool.or_self, Bool.false_eq_true, if_false]
  rfl

theorem everyReply_eq (k : ReqKind) (s : State) : everyReply k s = carriedAlways k s := by
  cases k
  case claimCustody | releaseCustody | passCustody | seizeCustody =>
    unfold everyReply carriedAlways holderByte
    cases s.custody <;> rfl
  case setStallLimit => exact (bytesOf_two _).symm
  all_goals rfl

theorem mayNotSend_iff (l : LinkId) (k : ReqKind) : MayNotSend l k ↔ k.permitted l = false := by
  unfold MayNotSend
  cases k <;> simp [ReqKind.permitted]

/-- A request kind that its link may not send is answered NOT_PERMITTED, and changes nothing (R178). -/
theorem serve_not_permitted (ready : Ready l s) (barred : k.permitted l = false) :
    serve l k f s = s.answered l k (3#8 :: carriedAlways k s) := by
  rw [serve_ready ready, answer, barred, if_neg (by decide), everyReply_markTaken, everyReply_eq, reply_markTaken]
  simp [State.answered, Result.plain, Result.bytes, Result.code, be1]

/-- A request that its block refuses is answered with the refusal and what every reply of the kind carries. -/
theorem serve_refused_carrying {r : Result} (ready : Ready l s) (permitted : k.permitted l = true)
    (refused : f (markTaken l s) = refuse r (markTaken l s)) : serve l k f s = s.answered l k (r.bytes ++ carriedAlways k s) := by
  rw [serve_answered ready permitted refused, everyReply_eq]
  simp [Result.plain]

/-- A block's checks on custody and state come before its fields, whatever they are (R45, R47, R71, R82, R85, R125, R126,
R167). -/
theorem handler_beforeFields {r : Byte} (first : beforeFields k l s = some r) (b : List Byte) :
    ∃ e : Result, e.bytes = [r] ∧ ∀ t : State, t.custody = s.custody → t.engine = s.engine →
      handler l k b t = refuse e t := by
  cases k
  case mountCylinder =>
    dsimp only [beforeFields] at first
    split at first
    · cases first
    · next busy =>
      cases first
      exact ⟨.busy, rfl, fun t _ engine => if_pos (by rwa [engine])⟩
  case armBand =>
    dsimp only [beforeFields] at first
    split at first
    · next lacks =>
      cases first
      exact ⟨.noCustody, rfl, fun t custody _ => if_pos (by rwa [custody])⟩
    · next holds =>
      split at first
      · cases first
      · next busy =>
        cases first
        exact ⟨.busy, rfl, fun t custody engine =>
          (if_neg (by rwa [custody])).trans (if_pos (by rwa [engine]))⟩
  case passCustody | writeDescriptor | clearDescriptor | writeCurve | writeHeadParams | setStylusCount =>
    dsimp only [beforeFields] at first
    split at first
    · cases first
    · next lacks =>
      cases first
      exact ⟨.noCustody, rfl, fun t custody _ => if_pos (by rwa [custody])⟩
  all_goals cases first

theorem ofCode_eq_none {kind : Byte} (other : kind.toNat = 0 ∨ 32 < kind.toNat) : ReqKind.ofCode kind = none := by
  refine List.find?_eq_none.mpr fun k _ same => ?_
  have range : 1 ≤ k.code.toNat ∧ k.code.toNat ≤ 32 := by cases k <;> decide
  rw [eq_of_beq same] at range
  omega

end

end Sys2Proof.Machine

end

section
/-! PROOFS. Bodies that end before a field is complete (R177; O53). -/

namespace Sys2Proof.Machine

/-! ### The fields of a body cut short -/

theorem u8_take (b : List Byte) (len i : Nat) : u8 (b.take len) i = if i < len then u8 b i else none := by
  unfold u8
  rw [List.getElem?_take]
  split <;> rfl

theorem u16_take (b : List Byte) (len i : Nat) : u16 (b.take len) i = if i + 1 < len then u16 b i else none := by
  unfold u16
  rw [List.getElem?_take, List.getElem?_take]
  by_cases both : i + 1 < len
  · rw [if_pos both, if_pos (show i < len by omega), if_pos both]
  · rw [if_neg both, if_neg both]
    split <;> simp_all

theorem u32_take (b : List Byte) (len i : Nat) : u32 (b.take len) i = if i + 3 < len then u32 b i else none := by
  unfold u32
  rw [u16_take, u16_take, Nat.add_assoc]
  by_cases all : i + (2 + 1) < len
  · rw [if_pos all, if_pos (show i + 1 < len by omega), if_pos all]
  · rw [if_neg all, if_neg all]
    split <;> simp_all

/-- A body of `len` bytes ends before field `cut` of command `c` is complete, and `bad` is the first field that offends or
is not complete. -/
structure Truncated (c : Instr) (len cut bad : Nat) : Prop where
  inside : cut < (fieldSizes c).length
  reaches : fieldsEnd c cut ≤ len
  ends : len < fieldsEnd c (cut + 1)
  first : bad ≤ cut
  before : ∀ n, n < bad → FieldPasses c n
  offends : bad = cut ∨ ¬ FieldPasses c bad

/-- The block of a request refuses a body `b`, naming field `n` (R177). -/
def RefusesField (l : LinkId) (k : ReqKind) (b : List Byte) (n : Nat) (s : State) : Prop :=
  handler l k b s = refuse (.badField n) s

theorem Truncated.at_zero {c : Instr} {len cut bad n : Nat} (short : Truncated c len cut bad) (one : fieldSizes c = [n]) :
    bad = 0 ∧ len < n := by
  obtain ⟨inside, -, ends, first, -, -⟩ := short
  rw [one] at inside
  have zero : cut = 0 := by simpa using inside
  rw [zero] at first ends
  refine ⟨Nat.le_zero.mp first, ?_⟩
  simpa [fieldsEnd, one] using ends

section
variable {l : LinkId} {len cut bad : Nat} {s : State}

theorem take_zero {len : Nat} (none_ : len < 1) (b : List Byte) : b.take len = [] := by
  obtain rfl : len = 0 := Nat.lt_one_iff.mp none_
  rfl

theorem custody_of_first {r : Byte} (first : (if s.custody = some l then none else some r) = none) : s.custody = some l := by
  by_contra lacks
  rw [if_neg lacks] at first
  cases first

theorem idle_of_first {r : Byte} (first : (if s.engine.state = .idle then none else some r) = none) :
    s.engine.state = .idle := by
  by_contra busy
  rw [if_neg busy] at first
  cases first

/-- A byte that the body still holds is read from it. -/
theorem u8_cut {len : Nat} (low : 0 < len) (v : Byte) (rest : List Byte) :
    u8 ((be1 v.toNat ++ rest).take len) 0 = some v.toNat := by rw [u8_take, u8_be1, if_pos low]

theorem u8_beyond {len i : Nat} (b : List Byte) (high : len ≤ i) : u8 (b.take len) i = none := by
  rw [u8_take, if_neg (Nat.not_lt.mpr high)]

theorem u16_beyond {len i : Nat} (b : List Byte) (high : len ≤ i + 1) : u16 (b.take len) i = none := by
  rw [u16_take, if_neg (Nat.not_lt.mpr high)]

theorem u32_beyond {len i : Nat} (b : List Byte) (high : len ≤ i + 3) : u32 (b.take len) i = none := by
  rw [u32_take, if_neg (Nat.not_lt.mpr high)]

/-- The requests of one field. -/
theorem refuses_one_field {c : Instr} {k : ReqKind} {full : List Byte} {n : Nat} (frame : c.asFrame = some (l, k, full))
    (short : Truncated c len cut bad) (one : fieldSizes c = [n]) (first : beforeFields k l s = none)
    (plain : k ≠ .mountCylinder) : RefusesField l k (full.take len) bad s := by
  obtain ⟨rfl, low⟩ := short.at_zero one
  cases c
  case relayNote | clearHeadFault | readDescriptor | readBandStatus | readCurve | readHead | discardRings =>
    cases frame
    cases one
    rw [take_zero low]
    rfl
  case clearDescriptor | passCustody =>
    cases frame
    cases one
    rw [take_zero low]
    exact if_neg (not_not.mpr (custody_of_first first))
  case setStallLimit l ms =>
    cases frame
    cases one
    exact congrArg (fun v => setStallLimit v s) (u16_beyond _ (by omega))
  case setNoticeMask l mask =>
    cases frame
    cases one
    exact congrArg (fun v => setNoticeMask l v s) (u16_beyond _ (by omega))
  case mountCylinder =>
    cases frame
    exact absurd rfl plain
  case writeDescriptor => simp [fieldSizes] at one
  all_goals cases one

/-- SET_STYLUS_COUNT cut short (R71). -/
theorem setStylusCount_truncated {head : Byte} {count : BitVec 32} (holds : s.custody = some l)
    (short : Truncated (.setStylusCount l head count) len cut bad) :
    RefusesField l .setStylusCount ((be1 head.toNat ++ be4 count.toNat).take len) bad s := by
  obtain ⟨inside, reaches, ends, first, before, offends⟩ := short
  simp only [fieldSizes, List.length_cons, List.length_nil] at inside
  interval_cases cut
  · obtain rfl : bad = 0 := Nat.le_zero.mp first
    rw [take_zero ends]
    exact if_neg (not_not.mpr holds)
  · have read := u8_cut reaches head (be4 count.toNat)
    have lacks := u32_beyond (be1 head.toNat ++ be4 count.toNat) (show len ≤ 1 + 3 from Nat.le_of_lt_succ ends)
    show setStylusCount l (u8 _ 0) (u32 _ 1) s = _
    rw [read, lacks]
    refine (if_neg (not_not.mpr holds)).trans ?_
    interval_cases bad
    · have high : 4 ≤ head.toNat := Nat.not_lt.mp (offends.resolve_left (by decide))
      rw [Option.bind_some, HeadId.ofNum_of_four_le high]
    · obtain ⟨h, names⟩ := ofNum_of_lt (before 0 (by decide))
      rw [Option.bind_some, names]

/-- ARM_BAND cut short (R126). -/
theorem armBand_truncated {slot restart : Byte} (holds : s.custody = some l) (idle : s.engine.state = .idle)
    (short : Truncated (.armBand l slot restart) len cut bad) :
    RefusesField l .armBand ((be1 slot.toNat ++ be1 restart.toNat).take len) bad s := by
  obtain ⟨inside, reaches, ends, first, before, offends⟩ := short
  simp only [fieldSizes, List.length_cons, List.length_nil] at inside
  have checks (x y : Option Nat) : armBand l x y s =
      match slotOf x, y.bind yesNo with
      | none, _ => refuse (.badField 0) s
      | some _, none => refuse (.badField 1) s
      | some i, some r => armChecked i r s :=
    (if_neg (not_not.mpr holds)).trans (if_neg (not_not.mpr idle))
  interval_cases cut
  · obtain rfl : bad = 0 := Nat.le_zero.mp first
    rw [take_zero ends]
    exact checks none none
  · have read := u8_cut reaches slot (be1 restart.toNat)
    have lacks := u8_beyond (be1 slot.toNat ++ be1 restart.toNat) (show len ≤ 1 from Nat.le_of_lt_succ ends)
    show armBand l (u8 _ 0) (u8 _ 1) s = _
    rw [read, lacks, checks]
    interval_cases bad
    · have high : 64 ≤ slot.toNat := Nat.not_lt.mp (offends.resolve_left (by decide))
      rw [slotOf_of_high high]
    · have low : slot.toNat < 64 := before 0 (by decide)
      have names : slotOf (some slot.toNat) = some ⟨slot.toNat, low⟩ := slotOf_fin ⟨slot.toNat, low⟩
      rw [names]
      rfl

section
variable (idle : s.engine.state = .idle)
include idle

theorem mountCylinder_no_form (job separation : Option Nat) :
    mountCylinder none job separation s = refuse (.badField 0) s := if_neg (not_not.mpr idle)

theorem mountCylinder_no_job (separation : Option Nat) :
    mountCylinder (some 1) none separation s = refuse (.badField 1) s := if_neg (not_not.mpr idle)

theorem mountCylinder_no_separation (job : Nat) :
    mountCylinder (some 1) (some job) none s = refuse (.badField 2) s := if_neg (not_not.mpr idle)

end

/-- MOUNT_CYLINDER cut short (R125). -/
theorem mountCylinder_truncated {form separation : Byte} {job : BitVec 32} (idle : s.engine.state = .idle)
    (short : Truncated (.mountCylinder l form job separation) len cut bad) :
    RefusesField l .mountCylinder ((be1 form.toNat ++ be4 job.toNat ++ be1 separation.toNat).take len) bad s := by
  obtain ⟨inside, reaches, ends, first, before, offends⟩ := short
  obtain rfl : bad = cut := offends.resolve_right fun fails => fails trivial
  by_cases identity : form = 1#8
  · subst identity
    have sizes : fieldSizes (.mountCylinder l 1#8 job separation) = [1, 4, 1] := rfl
    simp only [fieldsEnd, sizes] at inside reaches ends
    simp only [List.length_cons, List.length_nil] at inside
    rw [List.append_assoc]
    interval_cases bad
    · rw [take_zero ends]
      exact mountCylinder_no_form idle none none
    · have read := u8_cut reaches 1#8 (be4 job.toNat ++ be1 separation.toNat)
      have lacks := u32_beyond (i := 1) (be1 (1#8).toNat ++ (be4 job.toNat ++ be1 separation.toNat)) (Nat.le_of_lt_succ ends)
      show mountCylinder (u8 _ 0) (u32 _ 1) (u8 _ 5) s = _
      rw [read, lacks]
      exact mountCylinder_no_job idle _
    · have read := u8_cut (Nat.lt_of_lt_of_le (by decide) reaches) 1#8 (be4 job.toNat ++ be1 separation.toNat)
      have number : u32 ((be1 (1#8).toNat ++ (be4 job.toNat ++ be1 separation.toNat)).take len) 1 = some job.toNat := by
        rw [u32_take, if_pos (show 1 + 3 < len from reaches), u32_after_be1, u32_be4]
      have lacks := u8_beyond (i := 5) (be1 (1#8).toNat ++ (be4 job.toNat ++ be1 separation.toNat)) (Nat.le_of_lt_succ ends)
      show mountCylinder (u8 _ 0) (u32 _ 1) (u8 _ 5) s = _
      rw [read, number, lacks]
      exact mountCylinder_no_separation idle _
  · have sizes : fieldSizes (.mountCylinder l form job separation) = [1] := if_neg identity
    simp only [fieldsEnd, sizes] at inside reaches ends
    simp only [List.length_cons, List.length_nil] at inside
    obtain rfl : bad = 0 := by omega
    rw [take_zero ends]
    exact mountCylinder_no_form idle none none

theorem HeadId.exists_num {n : Nat} (low : n < 4) : ∃ h : HeadId, n = h.num := by
  match n, low with
  | 0, _ => exact ⟨.h0, rfl⟩
  | 1, _ => exact ⟨.h1, rfl⟩
  | 2, _ => exact ⟨.h2, rfl⟩
  | 3, _ => exact ⟨.h3, rfl⟩

/-- The head number of a ring request cut short is read and names a head exactly when a later field is the first that
offends. -/
theorem ring_head {c : Instr} {head : Byte} {sizes : List Nat} {rest : List Byte}
    (short : Truncated c len cut bad) (fields : fieldSizes c = 1 :: sizes)
    (passes : ∀ n, FieldPasses c n ↔ (n = 0 → head.toNat < 4)) :
    (bad = 0 ∧ (u8 ((be1 head.toNat ++ rest).take len) 0).bind HeadId.ofNum = none) ∨
      (0 < bad ∧ bad = cut ∧ ∃ h, head.toNat = h.num ∧
        (u8 ((be1 head.toNat ++ rest).take len) 0).bind HeadId.ofNum = some h) := by
  obtain ⟨inside, reaches, ends, first, before, offends⟩ := short
  have held (some_ : 0 < cut) : 0 < len := by
    obtain ⟨m, rfl⟩ : ∃ m, cut = m + 1 := Nat.exists_eq_succ_of_ne_zero (Nat.ne_of_gt some_)
    have : fieldsEnd c (m + 1) = 1 + (sizes.take m).sum := by simp [fieldsEnd, fields]
    omega
  rcases Nat.eq_zero_or_pos bad with rfl | pos
  · refine .inl ⟨rfl, ?_⟩
    rcases Nat.eq_zero_or_pos cut with rfl | cut_pos
    · have few : len < 1 := by simpa [fieldsEnd, fields] using ends
      rw [take_zero few]
      rfl
    · have fails := offends.resolve_left (Nat.ne_of_lt cut_pos)
      rw [passes] at fails
      have high : 4 ≤ head.toNat := Nat.not_lt.mp fun low => fails fun _ => low
      rw [u8_cut (held cut_pos), Option.bind_some, HeadId.ofNum_of_four_le high]
  · have at_ : bad = cut := offends.resolve_right fun fails => fails ((passes bad).mpr fun zero => absurd zero (Nat.ne_of_gt pos))
    obtain ⟨h, names⟩ := HeadId.exists_num ((passes 0).mp (before 0 pos) rfl)
    refine .inr ⟨pos, at_, h, names, ?_⟩
    rw [u8_cut (held (at_ ▸ pos)), Option.bind_some, names, HeadId.ofNum_num]

/-- RING_SEGMENT cut short (R104; log entry 7). -/
theorem ringSegment_truncated {head : Byte} {ring offset : BitVec 16} {tones : List Byte}
    (short : Truncated (.ringSegment l head ring offset tones) len cut bad) :
    (bad = 0 ∧ RefusesField l .ringSegment ((be1 head.toNat ++ be2 ring.toNat ++ be2 offset.toNat ++ tones).take len) 0 s) ∨
      (0 < bad ∧ ∃ h, head.toNat = h.num ∧
        handler l .ringSegment ((be1 head.toNat ++ be2 ring.toNat ++ be2 offset.toNat ++ tones).take len) s =
          withPosition h (.badField bad) s) := by
  have which := ring_head (head := head) (rest := be2 ring.toNat ++ (be2 offset.toNat ++ tones)) short rfl (fun _ => Iff.rfl)
  obtain ⟨inside, reaches, ends, -, -, -⟩ := short
  rw [List.append_assoc, List.append_assoc]
  refine which.imp (fun ⟨zero, lacks⟩ => ⟨zero, ?_⟩) fun ⟨pos, at_, h, named, read⟩ => ⟨pos, h, named, ?_⟩
  · show ringSegment (u8 _ 0) (u16 _ 1) (u16 _ 3) _ s = _
    rw [ringSegment, lacks]
  · show ringSegment (u8 _ 0) (u16 _ 1) (u16 _ 3) _ s = _
    rw [ringSegment_of_head read]
    subst at_
    simp only [fieldSizes, List.length_cons, List.length_nil] at inside
    interval_cases bad
    · rw [u16_beyond (i := 1) _ (show len ≤ 2 from Nat.le_of_lt_succ ends)]
      rfl
    · have ring_ : u16 ((be1 head.toNat ++ (be2 ring.toNat ++ (be2 offset.toNat ++ tones))).take len) 1 = some ring.toNat := by
        rw [u16_take, if_pos (show 1 + 1 < len from reaches), u16_after_be1, u16_be2]
      rw [ring_, u16_beyond (i := 3) _ (show len ≤ 4 from Nat.le_of_lt_succ ends)]
      rfl

/-- RING_CLOSE cut short (R108; log entry 7). -/
theorem ringClose_truncated {head mark : Byte} {ring check : BitVec 16}
    (short : Truncated (.ringClose l head ring check mark) len cut bad) :
    (bad = 0 ∧
      RefusesField l .ringClose ((be1 head.toNat ++ be2 ring.toNat ++ be2 check.toNat ++ be1 mark.toNat).take len) 0 s) ∨
      (0 < bad ∧ ∃ h, head.toNat = h.num ∧
        handler l .ringClose ((be1 head.toNat ++ be2 ring.toNat ++ be2 check.toNat ++ be1 mark.toNat).take len) s =
          withPosition h (.badField bad) s) := by
  have which := ring_head (head := head) (rest := be2 ring.toNat ++ (be2 check.toNat ++ be1 mark.toNat)) short rfl
    (fun _ => Iff.rfl)
  obtain ⟨inside, reaches, ends, -, -, -⟩ := short
  rw [List.append_assoc, List.append_assoc]
  refine which.imp (fun ⟨zero, lacks⟩ => ⟨zero, ?_⟩) fun ⟨pos, at_, h, named, read⟩ => ⟨pos, h, named, ?_⟩
  · show ringClose (u8 _ 0) (u16 _ 1) (u16 _ 3) (u8 _ 5) s = _
    rw [ringClose, lacks]
  · show ringClose (u8 _ 0) (u16 _ 1) (u16 _ 3) (u8 _ 5) s = _
    rw [ringClose_of_head read]
    subst at_
    have ring_ (low : 1 + 1 < len) :
        u16 ((be1 head.toNat ++ (be2 ring.toNat ++ (be2 check.toNat ++ be1 mark.toNat))).take len) 1 = some ring.toNat := by
      rw [u16_take, if_pos low, u16_after_be1, u16_be2]
    simp only [fieldSizes, List.length_cons, List.length_nil] at inside
    interval_cases bad
    · rw [u16_beyond (i := 1) _ (show len ≤ 2 from Nat.le_of_lt_succ ends)]
      rfl
    · rw [ring_ reaches, u16_beyond (i := 3) _ (show len ≤ 4 from Nat.le_of_lt_succ ends)]
      rfl
    · have held : 5 ≤ len := reaches
      have check_ : u16 ((be1 head.toNat ++ (be2 ring.toNat ++ (be2 check.toNat ++ be1 mark.toNat))).take len) 3 =
          some check.toNat := by
        rw [u16_take, if_pos (by omega), u16_after_be1, u16_after_be2, u16_be2]
      rw [ring_ (by omega), check_, u8_beyond (i := 5) _ (show len ≤ 5 from Nat.le_of_lt_succ ends)]
      rfl

end

end Sys2Proof.Machine

end

section
/-! PROOFS. Written curves, parameter sets and descriptors that end before a field is complete (R177; O53). -/

namespace Sys2Proof.Machine

section
variable {c : Instr} {l : LinkId} {len cut bad : Nat} {s : State}

theorem fieldsEnd_mono (c : Instr) {m n : Nat} (le : m ≤ n) : fieldsEnd c m ≤ fieldsEnd c n := by
  obtain ⟨k, rfl⟩ := Nat.exists_eq_add_of_le le
  unfold fieldsEnd
  rw [List.take_add, List.sum_append]
  exact Nat.le_add_right _ _

/-- The body holds exactly the fields before the one that it cuts short. -/
theorem Truncated.holds_iff (short : Truncated c len cut bad) (n : Nat) : fieldsEnd c (n + 1) ≤ len ↔ n < cut := by
  constructor
  · intro held
    by_contra beyond
    have := fieldsEnd_mono c (show cut + 1 ≤ n + 1 by omega)
    have := short.ends
    omega
  · intro below
    exact (fieldsEnd_mono c below).trans short.reaches

/-- The value of field `n` in a body that is cut short at field `cut`. -/
def kept (cut n : Nat) (v : Nat) : Option Nat := if n < cut then some v else none

theorem kept_of_lt {n : Nat} (below : n < cut) (v : Nat) : kept cut n v = some v := if_pos below

theorem Truncated.u8_kept (short : Truncated c len cut bad) {b : List Byte} {i n v : Nat}
    (ends : fieldsEnd c (n + 1) = i + 1) (read : u8 b i = some v) : u8 (b.take len) i = kept cut n v := by
  rw [u8_take, read]
  refine if_congr ?_ rfl rfl
  rw [← short.holds_iff, ends, Nat.succ_le_iff]

theorem Truncated.u16_kept (short : Truncated c len cut bad) {b : List Byte} {i n v : Nat}
    (ends : fieldsEnd c (n + 1) = i + 2) (read : u16 b i = some v) : u16 (b.take len) i = kept cut n v := by
  rw [u16_take, read]
  refine if_congr ?_ rfl rfl
  rw [← short.holds_iff, ends]
  omega

theorem Truncated.u32_kept (short : Truncated c len cut bad) {b : List Byte} {i n v : Nat}
    (ends : fieldsEnd c (n + 1) = i + 4) (read : u32 b i = some v) : u32 (b.take len) i = kept cut n v := by
  rw [u32_take, read]
  refine if_congr ?_ rfl rfl
  rw [← short.holds_iff, ends]
  omega

/-- A check of one field that fails where the field is missing. -/
theorem kept_check {f : Option Nat → Bool} (missing : f none = false) (n v : Nat) :
    f (kept cut n v) = true ↔ n < cut ∧ f (some v) = true := by
  unfold kept
  split <;> simp [*]

/-- What a scan asks of the fields of a body cut short: that they are there, and what the block asks of them. Field 0 is
checked before the scan. -/
def ScanPasses (cut : Nat) (fieldOk : Nat → Prop) (n : Nat) : Prop := n = 0 ∨ (n < cut ∧ fieldOk n)

theorem scanPasses_iff {fieldOk : Nat → Prop} {n : Nat} (pos : 0 < n) :
    ScanPasses cut fieldOk n ↔ n < cut ∧ fieldOk n :=
  or_iff_right (Nat.ne_of_gt pos)

/-- A check of a body cut short at field `cut`, against the whole body's check of the field: once the scan reaches it, the
field passes when it is there and the whole body's passes. -/
def CutCheck (cut : Nat) (a b : Nat × Bool) : Prop :=
  a.1 = b.1 ∧ ((∀ m, 0 < m → m < a.1 → m < cut) → (a.2 = true ↔ a.1 < cut ∧ b.2 = true))

theorem CutCheck.of_field {f : Option Nat → Bool} (missing : f none = false) (n v : Nat) :
    CutCheck cut (n, f (kept cut n v)) (n, f (some v)) :=
  ⟨rfl, fun _ => kept_check missing n v⟩

theorem CutCheck.numbers {checks whole : List (Nat × Bool)} (same : List.Forall₂ (CutCheck cut) checks whole) :
    checks.map (fun c => c.1) = whole.map fun c => c.1 := by
  induction same with
  | nil => rfl
  | cons first _ ih => rw [List.map_cons, List.map_cons, first.1, ih]

theorem CutCheck.partner {checks whole : List (Nat × Bool)} (same : List.Forall₂ (CutCheck cut) checks whole)
    {c : Nat × Bool} (mem : c ∈ checks) : ∃ e ∈ whole, CutCheck cut c e := by
  induction same with
  | nil => cases mem
  | cons first _ ih =>
    rcases List.mem_cons.mp mem with rfl | later
    · exact ⟨_, List.mem_cons_self, first⟩
    · obtain ⟨e, inside, is⟩ := ih later
      exact ⟨e, List.mem_cons_of_mem _ inside, is⟩

/-- The scan of a body cut short goes as the whole body's, up to the field that is not complete. -/
theorem Scans.cut_short {checks part whole : List (Nat × Bool)} {fieldOk : Nat → Prop} (scans : Scans whole fieldOk)
    (sub : part.Sublist whole) (same : List.Forall₂ (CutCheck cut) checks part) (zero : fieldOk 0) (some_ : 0 < cut)
    (numbered : ∀ n, 0 < n → n ≤ cut → n ∈ part.map fun c => c.1) (positive : ∀ c ∈ part, 0 < c.1) :
    Scans checks (ScanPasses cut fieldOk) where
  sorted := by
    have sorted : (checks.map fun c => c.1).Pairwise (· < ·) := by
      rw [CutCheck.numbers same]
      exact List.pairwise_map.mpr (scans.sorted.sublist sub)
    exact List.pairwise_map.mp sorted
  agree := by
    intro c mem before
    obtain ⟨e, inside, number, is⟩ := CutCheck.partner same mem
    have pos : 0 < c.1 := number ▸ positive e inside
    have reached (m : Nat) (some_ : 0 < m) (below : m < c.1) : m < cut ∧ fieldOk m :=
      (scanPasses_iff some_).mp (before m below)
    rw [scanPasses_iff pos, is fun m some_ below => (reached m some_ below).1]
    refine and_congr_right fun _ => (scans.agree e (sub.subset inside) fun m below => ?_).trans (by rw [number])
    rcases Nat.eq_zero_or_pos m with rfl | some_
    · exact zero
    · exact (reached m some_ (number ▸ below)).2
  listed := by
    intro n bad before
    have pos : 0 < n := Nat.pos_of_ne_zero fun none_ => bad (.inl none_)
    have most : n ≤ cut := by
      by_contra past
      exact Nat.lt_irrefl cut ((scanPasses_iff some_).mp (before cut (Nat.not_le.mp past))).1
    have there := numbered n pos most
    rw [← CutCheck.numbers same] at there
    exact List.mem_map.mp there

/-- The scan of a body cut short names the first field that offends or is not complete. -/
theorem Truncated.firstOffence_eq (short : Truncated c len cut bad) {fieldOk : Nat → Prop} (pos : 0 < bad)
    (passes : ∀ n, 0 < n → (FieldPasses c n ↔ fieldOk n)) {checks : List (Nat × Bool)}
    (scans : Scans checks (ScanPasses cut fieldOk)) : firstOffence checks = some bad := by
  refine scans.firstOffence_eq_some ?_ fun m below => ?_
  · rw [scanPasses_iff pos]
    rintro ⟨below, ok⟩
    rcases short.offends with rfl | fails
    · exact Nat.lt_irrefl _ below
    · exact fails ((passes bad pos).mpr ok)
  · rcases Nat.eq_zero_or_pos m with rfl | some_
    · exact .inl rfl
    · exact .inr ⟨Nat.lt_of_lt_of_le below short.first, (passes m some_).mp (short.before m below)⟩

/-! ### WRITE_HEAD_PARAMS cut short (R47) -/

/-- The bytes of a WRITE_HEAD_PARAMS body (Table 10-9). -/
def paramsBody (head : Byte) (p : ParamsBody) : List Byte :=
  be1 head.toNat ++ be1 p.fitted.toNat ++ be2 p.gain.toNat ++ be2 p.bias.toNat ++ be1 p.dmin.toNat ++
    be1 p.wearRate.toNat ++ be1 p.wearCap.toNat ++ be2 p.lowerMs.toNat ++ be2 p.liftMs.toNat

theorem paramsOfBytes_truncated {head : Byte} {p : ParamsBody} (short : Truncated (.writeHeadParams l head p) len cut bad) :
    paramsOfBytes ((paramsBody head p).take len) =
      ⟨kept cut 1 p.fitted.toNat, kept cut 2 p.gain.toNat, kept cut 3 p.bias.toNat, kept cut 4 p.dmin.toNat,
        kept cut 5 p.wearRate.toNat, kept cut 6 p.wearCap.toNat, kept cut 7 p.lowerMs.toNat,
        kept cut 8 p.liftMs.toNat⟩ := by
  have whole := paramsOfBytes_eq head p []
  rw [List.append_nil] at whole
  have read : paramsOfBytes (paramsBody head p) = paramsOfFields p := whole
  unfold paramsOfBytes
  simp only [RawParams.mk.injEq]
  exact ⟨short.u8_kept rfl (congrArg RawParams.fitted read), short.u16_kept rfl (congrArg RawParams.gain read),
    short.u16_kept rfl (congrArg RawParams.bias read), short.u8_kept rfl (congrArg RawParams.dmin read),
    short.u8_kept rfl (congrArg RawParams.wearRate read), short.u8_kept rfl (congrArg RawParams.wearCap read),
    short.u16_kept rfl (congrArg RawParams.lowerMs read), short.u16_kept rfl (congrArg RawParams.liftMs read)⟩

theorem paramsOfBytes_scans {head : Byte} {p : ParamsBody} (some_ : 0 < cut)
    (short : Truncated (.writeHeadParams l head p) len cut bad) :
    Scans (paramsOfBytes ((paramsBody head p).take len)).checks (ScanPasses cut (paramFieldOk p)) := by
  have most : cut < 9 := short.inside
  refine (paramsOfFields_scans p).cut_short (List.Sublist.refl _) ?_ trivial some_ (fun n pos low => ?_) ?_
  · rw [paramsOfBytes_truncated short]
    exact .cons (.of_field rfl 1 _) (.cons (.of_field rfl 2 _) (.cons (.of_field rfl 3 _) (.cons (.of_field rfl 4 _)
      (.cons (.of_field rfl 5 _) (.cons (.of_field rfl 6 _) (.cons (.of_field rfl 7 _) (.cons (.of_field rfl 8 _)
        .nil)))))))
  · have high : n ≤ 8 := by omega
    interval_cases n <;> simp [RawParams.checks]
  · simp [RawParams.checks]

theorem writeHeadParams_truncated {head : Byte} {p : ParamsBody} (holds : s.custody = some l)
    (short : Truncated (.writeHeadParams l head p) len cut bad) :
    RefusesField l .writeHeadParams ((paramsBody head p).take len) bad s := by
  show writeHeadParams l (u8 _ 0) (paramsOfBytes _) s = _
  have passes (n : Nat) (pos : 0 < n) : FieldPasses (.writeHeadParams l head p) n ↔ paramFieldOk p n := by
    unfold FieldPasses
    exact iff_of_eq (if_neg (Nat.ne_of_gt pos))
  have number : u8 ((paramsBody head p).take len) 0 = kept cut 0 head.toNat :=
    short.u8_kept rfl (by simp [paramsBody])
  rw [number]
  rcases Nat.eq_zero_or_pos bad with rfl | pos
  · refine writeHeadParams_of_no_head holds ?_
    rcases Nat.eq_zero_or_pos cut with rfl | some_
    · rfl
    · have high : 4 ≤ head.toNat := Nat.not_lt.mp (short.offends.resolve_left (Nat.ne_of_lt some_))
      rw [kept_of_lt some_, Option.bind_some, HeadId.ofNum_of_four_le high]
  · obtain ⟨h, names⟩ := ofNum_of_lt (short.before 0 pos)
    rw [kept_of_lt (Nat.lt_of_lt_of_le pos short.first)]
    exact writeHeadParams_of_bad_field (head := some head.toNat) holds names
      (short.firstOffence_eq pos passes (paramsOfBytes_scans (Nat.lt_of_lt_of_le pos short.first) short))

/-! ### WRITE_CURVE cut short (R45) -/

/-- The bytes of a WRITE_CURVE body (Table 10-9). -/
def curveBody (curve : Byte) (knots : Vector (BitVec 16) 17) : List Byte :=
  be1 curve.toNat ++ knots.toList.flatMap fun k => be2 k.toNat

theorem curve_fieldsEnd_succ (curve : Byte) (knots : Vector (BitVec 16) 17) {n : Nat} (low : n ≤ 17) :
    fieldsEnd (.writeCurve l curve knots) (n + 1) = 1 + 2 * n := by
  unfold fieldsEnd fieldSizes
  rw [List.take_succ_cons, List.take_replicate, List.sum_cons, List.sum_replicate, Nat.min_eq_left low, smul_eq_mul,
    Nat.mul_comm]

theorem knotOffends_congr {k k' : Vector (Option Nat) 17} {n : Nat} (same : k[n]?.getD none = k'[n]?.getD none)
    (before : k[n - 1]?.getD none = k'[n - 1]?.getD none) : knotOffends k n = knotOffends k' n := by
  unfold knotOffends
  rw [same, before]

theorem knotOffends_missing {k : Vector (Option Nat) 17} {n : Nat} (missing : k[n]?.getD none = none) :
    knotOffends k n = true := by
  unfold knotOffends
  rw [missing]

/-- The knots of a curve cut short. -/
def knotsKept (cut : Nat) (knots : Vector (BitVec 16) 17) : Vector (Option Nat) 17 :=
  Vector.ofFn fun n => kept cut (n.val + 1) knots[n].toNat

theorem knots_truncated {curve : Byte} {knots : Vector (BitVec 16) 17}
    (short : Truncated (.writeCurve l curve knots) len cut bad) :
    (Vector.ofFn fun n : Fin 17 => u16 ((curveBody curve knots).take len) (1 + 2 * n.val)) = knotsKept cut knots := by
  unfold knotsKept
  refine congrArg Vector.ofFn (funext fun n => ?_)
  have whole := knots_read curve knots []
  have ends : fieldsEnd (.writeCurve l curve knots) (n.val + 1 + 1) = 1 + 2 * n.val + 2 := by
    rw [curve_fieldsEnd_succ curve knots n.isLt]
    omega
  refine short.u16_kept ends ?_
  have at_n := congrArg (fun v : Vector (Option Nat) 17 => v[n.val]) whole
  simp only [Vector.getElem_ofFn, Vector.getElem_map, List.append_nil] at at_n
  exact at_n

theorem knotsKept_get {knots : Vector (BitVec 16) 17} {n : Nat} (low : n < 17) :
    (knotsKept cut knots)[n]?.getD none = kept cut (n + 1) knots[n].toNat := by
  simp [knotsKept, low]

/-- The scan of a curve cut short goes as the whole curve's up to the knot that is missing (R45). -/
theorem knotOffends_kept {knots : Vector (BitVec 16) 17} {n : Nat} (low : n < 17) (held : n + 1 < cut) :
    knotOffends (knotsKept cut knots) n = knotOffends (knotFields knots) n := by
  refine knotOffends_congr ?_ ?_
  · rw [knotsKept_get low, kept_of_lt held, knotFields_read knots low]
  · rw [knotsKept_get (by omega), kept_of_lt (by omega), knotFields_read knots (by omega)]

theorem firstBadKnot_truncated {curve : Byte} {knots : Vector (BitVec 16) 17} {n : Nat}
    (short : Truncated (.writeCurve l curve knots) len cut (n + 1)) : firstBadKnot (knotsKept cut knots) = some n := by
  have most : cut < 18 := short.inside
  have first := short.first
  have low : n < 17 := by omega
  unfold firstBadKnot
  rw [List.find?_range_eq_some]
  refine ⟨?_, List.mem_range.mpr low, fun j less => ?_⟩
  · by_cases held : n + 1 < cut
    · have fails := short.offends.resolve_left (Nat.ne_of_lt held)
      have bad : knotBad knots ⟨n, low⟩ := by
        by_contra good
        refine fails fun m at_ => ?_
        have same : m = ⟨n, low⟩ := Fin.ext (Nat.succ.inj at_)
        rw [same]
        exact good
      rw [knotOffends_kept low held]
      exact (knotOffends_iff knots ⟨n, low⟩).mpr bad
    · refine knotOffends_missing ?_
      rw [knotsKept_get low]
      exact if_neg held
  · have good := short.before (j + 1) (by omega) ⟨j, by omega⟩ rfl
    rw [knotOffends_kept (by omega) (by omega)]
    have fine := (knotOffends_iff knots ⟨j, by omega⟩).not.mpr good
    simpa using fine

theorem writeCurve_truncated {curve : Byte} {knots : Vector (BitVec 16) 17} (holds : s.custody = some l)
    (short : Truncated (.writeCurve l curve knots) len cut bad) :
    RefusesField l .writeCurve ((curveBody curve knots).take len) bad s := by
  show writeCurve l (u8 ((curveBody curve knots).take len) 0)
    (Vector.ofFn fun n : Fin 17 => u16 ((curveBody curve knots).take len) (1 + 2 * n.val)) s = _
  have number : u8 ((curveBody curve knots).take len) 0 = kept cut 0 curve.toNat :=
    short.u8_kept (curve_fieldsEnd_succ curve knots (Nat.zero_le _)) (by simp [curveBody])
  rw [number, knots_truncated short]
  match bad, short with
  | 0, short =>
    refine writeCurve_of_bad_curve holds ?_ _
    rcases Nat.eq_zero_or_pos cut with rfl | some_
    · rfl
    · have high : 16 ≤ curve.toNat := Nat.not_lt.mp (short.offends.resolve_left (Nat.ne_of_lt some_))
      rw [kept_of_lt some_, curveOf_of_le high]
  | n + 1, short =>
    have small : curve.toNat < 16 := short.before 0 (Nat.succ_pos n)
    rw [kept_of_lt (Nat.lt_of_lt_of_le (Nat.succ_pos n) short.first)]
    exact writeCurve_of_bad_knot holds (curveOf_val ⟨curve.toNat, small⟩) (firstBadKnot_truncated short)

end

end Sys2Proof.Machine

end

section
/-! PROOFS. Written descriptors that end before a field is complete (R177), and what every frame that is refused comes to
(O53). -/

namespace Sys2Proof.Machine

section
variable {l : LinkId} {slot : Byte} {d : DescriptorBody} {len cut bad : Nat} {s : State}

/-! ### The sizes of a descriptor's fields (Table 10-5) -/

/-- The sizes of the fields of a patch list. -/
def patchSizes (ps : List (Byte × BitVec 16)) : List Nat := ps.flatMap fun _ => [1, 2]

theorem patchSizes_length (ps : List (Byte × BitVec 16)) : (patchSizes ps).length = 2 * ps.length := by
  simp [patchSizes, List.length_flatMap, Nat.mul_comm]

theorem patchSizes_sum {ps : List (Byte × BitVec 16)} {n : Nat} (low : n < ps.length) :
    ((patchSizes ps).take (2 * n + 1)).sum = 3 * n + 1 ∧ ((patchSizes ps).take (2 * n + 2)).sum = 3 * n + 3 := by
  induction ps generalizing n with
  | nil => cases low
  | cons p ps ih =>
    have next : patchSizes (p :: ps) = 1 :: 2 :: patchSizes ps := rfl
    match n with
    | 0 => simp [next]
    | n + 1 =>
      obtain ⟨tone, length⟩ := ih (Nat.lt_of_succ_lt_succ low)
      have at_tone : 2 * (n + 1) + 1 = 2 * n + 1 + 1 + 1 := by omega
      have at_length : 2 * (n + 1) + 2 = 2 * n + 2 + 1 + 1 := by omega
      rw [next, at_tone, at_length]
      simp only [List.take_succ_cons, List.sum_cons, tone, length]
      omega

/-- The sizes of a descriptor's fields from its slot to its patch count. -/
def headerSizes : List Nat := [1, 1, 4, 1, 1, 4, 2, 2, 2, 2, 1, 1, 1, 1, 1, 1, 2, 1, 2, 1, 1, 1]

theorem header_fieldsEnd (l : LinkId) (slot : Byte) (d : DescriptorBody) {n : Nat} (low : n ≤ 22) :
    fieldsEnd (.writeDescriptor l slot d) n = (headerSizes.take n).sum := by
  have sizes : fieldSizes (.writeDescriptor l slot d) = headerSizes ++ patchSizes d.patches := rfl
  unfold fieldsEnd
  rw [sizes, List.take_append_of_le_length low]

theorem patch_fieldsEnd (l : LinkId) (slot : Byte) {d : DescriptorBody} {n : Nat} (low : n < d.patches.length) :
    fieldsEnd (.writeDescriptor l slot d) (22 + 2 * n + 1) = 34 + 3 * n + 1 ∧
      fieldsEnd (.writeDescriptor l slot d) (23 + 2 * n + 1) = 34 + (3 * n + 1) + 2 := by
  obtain ⟨tone, length⟩ := patchSizes_sum low
  have sizes : fieldSizes (.writeDescriptor l slot d) = headerSizes ++ patchSizes d.patches := rfl
  have from_header (k : Nat) : fieldsEnd (.writeDescriptor l slot d) (22 + k) = 34 + ((patchSizes d.patches).take k).sum := by
    unfold fieldsEnd
    rw [sizes, List.take_append, List.take_of_length_le (Nat.le_add_right 22 k), List.sum_append]
    exact congrArg (fun m => 34 + ((patchSizes d.patches).take m).sum) (Nat.add_sub_cancel_left 22 k)
  have second : 23 + 2 * n + 1 = 22 + (2 * n + 2) := by omega
  rw [Nat.add_assoc, from_header, tone, second, from_header, length]
  omega

/-! ### A patch list cut short -/

/-- The entries of a patch list of which `q` fields are there. -/
def patchesKept : Nat → List (Byte × BitVec 16) → List (Option Nat × Option Nat)
  | _, [] => []
  | q, p :: ps => (kept q 0 p.1.toNat, kept q 1 p.2.toNat) :: patchesKept (q - 2) ps

theorem kept_shift (q n v : Nat) : kept (q - 2) n v = kept q (n + 2) v := by
  unfold kept
  exact if_congr (by omega) rfl rfl

theorem patchesKept_get (q : Nat) (ps : List (Byte × BitVec 16)) (n : Nat) :
    (patchesKept q ps)[n]? = (ps[n]?).map fun p => (kept q (2 * n) p.1.toNat, kept q (2 * n + 1) p.2.toNat) := by
  induction ps generalizing q n with
  | nil => rfl
  | cons p ps ih =>
    match n with
    | 0 => rfl
    | n + 1 =>
      rw [patchesKept, List.getElem?_cons_succ, ih, List.getElem?_cons_succ]
      simp only [kept_shift]
      rfl

/-- A check that the scan does not reach. -/
theorem CutCheck.beyond {a b : Nat × Bool} (pos : 0 < cut) (number : a.1 = b.1) (past : cut < a.1) : CutCheck cut a b :=
  ⟨number, fun reached => absurd (reached cut pos past) (Nat.lt_irrefl cut)⟩

theorem patchChecks_beyond (limit : Nat) (pos : 0 < cut) {es es' : List (Option Nat × Option Nat)} {n : Nat} (sum sum' : Nat)
    (same : es.length = es'.length) (past : cut < 20 + 2 * n) :
    List.Forall₂ (CutCheck cut) (patchChecks limit n sum es) (patchChecks limit n sum' es') := by
  induction es generalizing es' n sum sum' with
  | nil =>
    obtain rfl := List.eq_nil_of_length_eq_zero same.symm
    exact .nil
  | cons e es ih =>
    obtain ⟨e', es', rfl⟩ := List.exists_cons_of_length_eq_add_one same.symm
    exact .cons (.beyond pos rfl past) (.cons (.beyond pos rfl (by dsimp only; omega))
      (ih _ _ (Nat.succ.inj same) (by omega)))

theorem patchesKept_length (q : Nat) (ps : List (Byte × BitVec 16)) : (patchesKept q ps).length = ps.length := by
  induction ps generalizing q with
  | nil => rfl
  | cons p ps ih => exact congrArg Nat.succ (ih _)

theorem kept_from {q m : Nat} (from_ : m + q = cut) (n v : Nat) : kept q n v = kept cut (m + n) v :=
  if_congr (by omega) rfl rfl

/-- The checks of a patch list cut short, against the whole list's (R83). -/
theorem patchChecks_cut (limit : Nat) {q n : Nat} (sum : Nat) (ps : List (Byte × BitVec 16)) (from_ : 20 + 2 * n + q = cut) :
    List.Forall₂ (CutCheck cut) (patchChecks limit n sum (patchesKept q ps)) (patchChecks limit n sum (patchFields ps)) := by
  induction ps generalizing q n sum with
  | nil => exact .nil
  | cons p ps ih =>
    refine .cons ?_ (.cons ?_ ?_)
    · dsimp only
      rw [kept_from from_]
      exact .of_field rfl (20 + 2 * n) _
    · dsimp only
      rw [kept_from from_, show 20 + 2 * n + 1 = 21 + 2 * n by omega]
      exact .of_field (f := fun v => inRange 1 65519 v && decide (sum + v.getD 0 ≤ limit)) rfl (21 + 2 * n) _
    · dsimp only
      by_cases whole : 1 < q
      · rw [kept_of_lt whole]
        exact ih _ (by omega)
      · refine patchChecks_beyond limit (by omega) _ _ ?_ (by omega)
        rw [patchesKept_length]
        exact (List.length_map _).symm

/-! ### The descriptor cut short -/

/-- The fields of a descriptor cut short at field `cut`. -/
def rawKept (cut : Nat) (d : DescriptorBody) : RawDescriptor where
  kind := kept cut 1 d.kind.toNat
  job := kept cut 2 d.job.toNat
  separation := kept cut 3 d.separation.toNat
  headSet := kept cut 4 d.headSet.toNat
  x0 := kept cut 5 d.x0.toNat
  pitch := kept cut 6 d.pitch.toNat
  nr := kept cut 7 d.nr.toNat
  nc := kept cut 8 d.nc.toNat
  cut := kept cut 9 d.cut.toNat
  stagger := kept cut 10 d.stagger.toNat
  curves := ⟨kept cut 11 d.curves.h0.toNat, kept cut 12 d.curves.h1.toNat, kept cut 13 d.curves.h2.toNat,
    kept cut 14 d.curves.h3.toNat⟩
  policy := kept cut 15 d.policy.toNat
  texp := kept cut 16 d.texp.toNat
  speedTol := kept cut 17 d.speedTol.toNat
  posTol := kept cut 18 d.posTol.toNat
  starve := kept cut 19 d.starve.toNat
  nextSlot := kept cut 20 d.nextSlot.toNat
  patchCount := kept cut 21 d.patchCount.toNat
  patches := if 21 < cut then patchesKept (cut - 22) d.patches else []

section
variable {b : List Byte} (read : rawOfBytes b = rawOfFields d) (short : Truncated (.writeDescriptor l slot d) len cut bad)
include read short

/-- The patch entries of a body cut short (R83). -/
theorem patches_truncated (listed : d.patches.length = d.patchCount.toNat) :
    ((List.range ((kept cut 21 d.patchCount.toNat).getD 0)).map fun n =>
      (u8 (b.take len) (34 + 3 * n), u16 (b.take len) (35 + 3 * n))) =
      if 21 < cut then patchesKept (cut - 22) d.patches else [] := by
  by_cases held : 21 < cut
  · rw [if_pos held, kept_of_lt held, Option.getD_some]
    have count : u8 b 33 = some d.patchCount.toNat := congrArg RawDescriptor.patchCount read
    have whole : ((List.range ((u8 b 33).getD 0)).map fun n => (u8 b (34 + 3 * n), u16 b (35 + 3 * n))) =
        patchFields d.patches := (congrArg RawDescriptor.patches read).trans (rawOfFields_patches listed)
    rw [count, Option.getD_some] at whole
    refine List.ext_getElem (by simp [patchesKept_length, listed]) fun n low high => ?_
    have inside : n < d.patches.length := by rwa [patchesKept_length] at high
    have entry : (u8 b (34 + 3 * n), u16 b (35 + 3 * n)) = (some d.patches[n].1.toNat, some d.patches[n].2.toNat) := by
      have at_n := congrArg (fun xs => xs[n]?) whole
      simpa [patchFields, inside, ← listed] using at_n
    obtain ⟨tone, length⟩ := Prod.mk.inj entry
    obtain ⟨tone_ends, length_ends⟩ := patch_fieldsEnd l slot inside
    have is := patchesKept_get (cut - 22) d.patches n
    rw [List.getElem?_eq_getElem high, List.getElem?_eq_getElem inside, Option.map_some] at is
    have shift : 35 + 3 * n = 34 + (3 * n + 1) := by omega
    rw [Option.some.inj is, List.getElem_map, List.getElem_range, short.u8_kept tone_ends tone,
      short.u16_kept (n := 23 + 2 * n) (by rw [length_ends]; omega) length]
    have from_ : 22 + (cut - 22) = cut := by omega
    rw [kept_from from_, kept_from from_, show 22 + (2 * n + 1) = 23 + 2 * n by omega]
  · have none_ : kept cut 21 d.patchCount.toNat = none := if_neg held
    rw [none_, if_neg held]
    rfl

theorem rawOfBytes_truncated (listed : d.patches.length = d.patchCount.toNat) : rawOfBytes (b.take len) = rawKept cut d := by
  have ends {n m : Nat} (low : n + 1 ≤ 22) (sum : (headerSizes.take (n + 1)).sum = m) :
      fieldsEnd (.writeDescriptor l slot d) (n + 1) = m := (header_fieldsEnd l slot d low).trans sum
  have count := short.u8_kept (ends (n := 21) (by decide) rfl) (congrArg RawDescriptor.patchCount read)
  unfold rawOfBytes rawKept
  rw [count, patches_truncated read short listed]
  simp only [RawDescriptor.mk.injEq, PerHead.mk.injEq]
  exact ⟨short.u8_kept (ends (by decide) rfl) (congrArg RawDescriptor.kind read),
    short.u32_kept (ends (by decide) rfl) (congrArg RawDescriptor.job read),
    short.u8_kept (ends (by decide) rfl) (congrArg RawDescriptor.separation read),
    short.u8_kept (ends (by decide) rfl) (congrArg RawDescriptor.headSet read),
    short.u32_kept (ends (by decide) rfl) (congrArg RawDescriptor.x0 read),
    short.u16_kept (ends (by decide) rfl) (congrArg RawDescriptor.pitch read),
    short.u16_kept (ends (by decide) rfl) (congrArg RawDescriptor.nr read),
    short.u16_kept (ends (by decide) rfl) (congrArg RawDescriptor.nc read),
    short.u16_kept (ends (by decide) rfl) (congrArg RawDescriptor.cut read),
    short.u8_kept (ends (by decide) rfl) (congrArg RawDescriptor.stagger read),
    ⟨short.u8_kept (ends (by decide) rfl) (congrArg (fun r => r.curves.h0) read),
      short.u8_kept (ends (by decide) rfl) (congrArg (fun r => r.curves.h1) read),
      short.u8_kept (ends (by decide) rfl) (congrArg (fun r => r.curves.h2) read),
      short.u8_kept (ends (by decide) rfl) (congrArg (fun r => r.curves.h3) read)⟩,
    short.u8_kept (ends (by decide) rfl) (congrArg RawDescriptor.policy read),
    short.u16_kept (ends (by decide) rfl) (congrArg RawDescriptor.texp read),
    short.u8_kept (ends (by decide) rfl) (congrArg RawDescriptor.speedTol read),
    short.u16_kept (ends (by decide) rfl) (congrArg RawDescriptor.posTol read),
    short.u8_kept (ends (by decide) rfl) (congrArg RawDescriptor.starve read),
    short.u8_kept (ends (by decide) rfl) (congrArg RawDescriptor.nextSlot read), trivial, trivial⟩

end

/-! ### The scan of a descriptor cut short (R83) -/

/-- The checks of a descriptor's fields before its patches. -/
def RawDescriptor.header (slot : Nat) (r : RawDescriptor) : List (Nat × Bool) := (r.checks slot).take 21

theorem RawDescriptor.checks_eq (slot : Nat) (r : RawDescriptor) :
    r.checks slot = r.header slot ++ patchChecks (r.cut.getD 0) 1 0 r.patches := rfl

/-- A check that also looks at fields before its own, which are there once the scan reaches it. -/
theorem CutCheck.of_earlier {n v : Nat} {x : Bool} {f : Option Nat → Bool} (missing : f none = false)
    (same : (∀ m, 0 < m → m < n → ∀ w, kept cut m w = some w) → x = f (kept cut n v)) :
    CutCheck cut (n, x) (n, f (some v)) := by
  refine ⟨rfl, fun reached => ?_⟩
  rw [same fun m pos below w => kept_of_lt (reached m pos below) w]
  exact kept_check missing n v

theorem curveEntryOk_missing (used : Bool) : curveEntryOk used none = false := by cases used <;> rfl

/-- The check of a curve entry of a descriptor cut short. -/
theorem CutCheck.curve (pick : PerHead Bool → Bool) {n : Nat} (after : 4 < n) (set v : Byte) :
    CutCheck cut (n, curveEntryOk (pick (((kept cut 4 set.toNat).bind headSetOf).getD (PerHead.pure false))) (kept cut n v.toNat))
      (n, curveEntryOk (pick (((some set.toNat).bind headSetOf).getD (PerHead.pure false))) (some v.toNat)) :=
  .of_earlier (curveEntryOk_missing _) fun earlier => by rw [earlier 4 (by decide) after]

theorem header_cut (slot cut : Nat) (d : DescriptorBody) :
    List.Forall₂ (CutCheck cut) ((rawKept cut d).header slot) ((rawOfFields d).header slot) := by
  refine .cons (.of_field rfl 1 _) (.cons (.of_field rfl 2 _) (.cons (.of_field rfl 3 _) (.cons
    (.of_field (f := fun v => (v.bind headSetOf).isSome) rfl 4 _) (.cons (.of_field rfl 5 _) (.cons (.of_field rfl 6 _)
    (.cons ?radial (.cons (.of_field rfl 8 _) (.cons ?length (.cons (.of_field rfl 10 _)
    (.cons (.curve (fun p => p.h0) (by decide) _ _) (.cons (.curve (fun p => p.h1) (by decide) _ _)
    (.cons (.curve (fun p => p.h2) (by decide) _ _) (.cons (.curve (fun p => p.h3) (by decide) _ _)
    (.cons (.of_field rfl 15 _) (.cons (.of_field rfl 16 _) (.cons (.of_field rfl 17 _) (.cons (.of_field rfl 18 _)
    (.cons (.of_field rfl 19 _) (.cons ?next (.cons ?patches .nil))))))))))))))))))))
  case radial =>
    refine .of_earlier (n := 7) (v := d.nr.toNat) (f := fun v => inRange 1 65535 v &&
      decide ((some d.x0.toNat).getD 0 + (v.getD 0 - 1) * (some d.pitch.toNat).getD 0 ≤ 40000000)) rfl fun earlier => ?_
    rw [← earlier 5 (by decide) (by decide), ← earlier 6 (by decide) (by decide)]
    rfl
  case length =>
    exact .of_earlier (n := 9) (v := d.cut.toNat) (f := fun v => inRange 1 65519 v &&
      decide (v.getD 0 + 16 ≤ (some d.nc.toNat).getD 0)) rfl fun earlier => by
        rw [← earlier 8 (by decide) (by decide)]
        rfl
  case next =>
    exact .of_field (f := fun v => (inRange 0 63 v || v == some 255) && v != some slot) rfl 20 _
  case patches =>
    refine .of_earlier (n := 21) (v := d.patchCount.toNat)
      (f := fun v => if some d.kind.toNat = some 1 then inRange 1 16 v else v == some 0) ?_ fun earlier => ?_
    · exact ite_self false
    · rw [← earlier 1 (by decide) (by decide) d.kind.toNat]
      rfl

theorem header_numbers (slot : Nat) (r : RawDescriptor) :
    (r.header slot).map (fun c => c.1) = [1, 2, 3, 4, 5, 6, 7, 8, 9, 10, 11, 12, 13, 14, 15, 16, 17, 18, 19, 20, 21] := rfl

theorem patchChecks_numbered (limit sum : Nat) {n m : Nat} {es : List (Option Nat × Option Nat)} (low : m < 2 * es.length) :
    20 + 2 * n + m ∈ (patchChecks limit n sum es).map fun c => c.1 := by
  induction es generalizing n sum m with
  | nil => exact absurd low (Nat.not_lt_zero m)
  | cons e es ih =>
    rw [List.length_cons] at low
    simp only [patchChecks, List.map_cons, List.mem_cons]
    match m with
    | 0 => exact .inl rfl
    | 1 => exact .inr (.inl (by omega))
    | m + 2 =>
      have at_ : 20 + 2 * n + (m + 2) = 20 + 2 * (n + 1) + m := by omega
      rw [at_]
      exact .inr (.inr (ih _ (by omega)))

theorem rawKept_scans (listed : d.patches.length = d.patchCount.toNat) (some_ : 0 < cut)
    (inside : cut < 22 + 2 * d.patches.length) :
    Scans ((rawKept cut d).checks slot.toNat) (ScanPasses cut (descriptorFieldOk slot d)) := by
  have whole := rawOfFields_scans (slot := slot) listed
  have header := header_cut slot.toNat cut d
  have positive (c : Nat × Bool) (mem : c ∈ (rawOfFields d).header slot.toNat) : 0 < c.1 := by
    have number := List.mem_map_of_mem (f := fun c : Nat × Bool => c.1) mem
    rw [header_numbers] at number
    exact (by decide : ∀ n ∈ [1, 2, 3, 4, 5, 6, 7, 8, 9, 10, 11, 12, 13, 14, 15, 16, 17, 18, 19, 20, 21], 0 < n) _ number
  have numbered (n : Nat) (pos : 0 < n) (low : n ≤ 21) :
      n ∈ ((rawOfFields d).header slot.toNat).map fun c => c.1 := by
    rw [header_numbers]
    interval_cases n <;> decide
  by_cases held : 21 < cut
  · have patches : List.Forall₂ (CutCheck cut)
        (patchChecks ((rawKept cut d).cut.getD 0) 1 0 (rawKept cut d).patches)
        (patchChecks ((rawOfFields d).cut.getD 0) 1 0 (rawOfFields d).patches) := by
      have limit : (rawKept cut d).cut.getD 0 = (rawOfFields d).cut.getD 0 :=
        congrArg (fun v => v.getD 0) (kept_of_lt (n := 9) (by omega) d.cut.toNat)
      have listed_ : (rawKept cut d).patches = patchesKept (cut - 22) d.patches := if_pos held
      rw [limit, listed_, rawOfFields_patches listed]
      exact patchChecks_cut _ 0 d.patches (by omega)
    rw [RawDescriptor.checks_eq]
    refine whole.cut_short (List.Sublist.refl _) (List.rel_append header patches) trivial some_ (fun n pos low => ?_)
      fun c mem => ?_
    · rw [RawDescriptor.checks_eq, List.map_append]
      by_cases first : n ≤ 21
      · exact List.mem_append_left _ (numbered n pos first)
      · obtain ⟨m, rfl⟩ := Nat.exists_eq_add_of_le (show 22 ≤ n by omega)
        refine List.mem_append_right _ ?_
        rw [rawOfFields_patches listed]
        exact patchChecks_numbered _ 0 (n := 1) (by rw [patchFields, List.length_map]; omega)
    · rcases List.mem_append.mp mem with first | patch
      · exact positive c first
      · have := patchChecks_from patch
        omega
  · have part : (rawKept cut d).checks slot.toNat = (rawKept cut d).header slot.toNat := by
      have none_ : (rawKept cut d).patches = [] := if_neg held
      rw [RawDescriptor.checks_eq, none_]
      exact List.append_nil _
    rw [part]
    refine whole.cut_short (part := (rawOfFields d).header slot.toNat) ?_ header trivial some_
      (fun n pos low => numbered n pos (by omega)) positive
    rw [RawDescriptor.checks_eq]
    exact List.sublist_append_left _ _

theorem descriptor_fields (l : LinkId) (slot : Byte) (d : DescriptorBody) :
    (fieldSizes (.writeDescriptor l slot d)).length = 22 + 2 * d.patches.length := by
  have sizes : fieldSizes (.writeDescriptor l slot d) = headerSizes ++ patchSizes d.patches := rfl
  rw [sizes, List.length_append, patchSizes_length]
  rfl

/-- WRITE_DESCRIPTOR cut short (R83). -/
theorem writeDescriptor_truncated (holds : s.custody = some l) (listed : d.patches.length = d.patchCount.toNat)
    (short : Truncated (.writeDescriptor l slot d) len cut bad) :
    RefusesField l .writeDescriptor ((descriptorHeader slot d ++ patchBytes d.patches).take len) bad s := by
  have read := rawOfBytes_eq listed slot []
  rw [List.append_nil] at read
  have passes (n : Nat) (pos : 0 < n) : FieldPasses (.writeDescriptor l slot d) n ↔ descriptorFieldOk slot d n := by
    unfold FieldPasses
    exact iff_of_eq (if_neg (Nat.ne_of_gt pos))
  show writeDescriptor l (u8 ((descriptorHeader slot d ++ patchBytes d.patches).take len) 0)
    (rawOfBytes ((descriptorHeader slot d ++ patchBytes d.patches).take len)) s = _
  rw [short.u8_kept (header_fieldsEnd l slot d (n := 1) (by decide)) (descriptorHeader_slot slot d _),
    rawOfBytes_truncated read short listed]
  rcases Nat.eq_zero_or_pos bad with rfl | pos
  · refine writeDescriptor_of_no_slot holds ?_
    rcases Nat.eq_zero_or_pos cut with rfl | some_
    · rfl
    · have high : 64 ≤ slot.toNat := Nat.not_lt.mp (short.offends.resolve_left (Nat.ne_of_lt some_))
      rw [kept_of_lt some_, slotOf_of_high high]
  · have some_ : 0 < cut := Nat.lt_of_lt_of_le pos short.first
    have low : slot.toNat < 64 := short.before 0 pos
    have inside := short.inside
    rw [descriptor_fields] at inside
    rw [kept_of_lt some_]
    exact writeDescriptor_of_bad_field (i := ⟨slot.toNat, low⟩) holds (slotOf_fin ⟨slot.toNat, low⟩)
      (short.firstOffence_eq pos passes (rawKept_scans listed some_ inside))

/-! ### What a body cut short is answered (R177, Table 10-10) -/

theorem custody_idle_of_first (first : beforeFields .armBand l s = none) : s.custody = some l ∧ s.engine.state = .idle := by
  dsimp only [beforeFields] at first
  by_cases holds : s.custody = some l
  · rw [if_neg (not_not.mpr holds)] at first
    exact ⟨holds, idle_of_first first⟩
  · rw [if_pos holds] at first
    cases first

/-- A request whose block refuses the body for its field `n`, with nothing after the result but what every reply carries. -/
theorem RefusesField.served {c : Instr} {k : ReqKind} {b : List Byte} {n : Nat} (ready : Ready l s)
    (permitted : k.permitted l = true) (refuses : RefusesField l k b n (markTaken l s))
    (plain : badFieldTail c k n s = carriedAlways k s) :
    serve l k (handler l k b) s = s.answered l k (17#8 :: BitVec.ofNat 8 n :: badFieldTail c k n s) := by
  rw [serve_refused_carrying ready permitted refuses, plain]
  rfl

/-- A ring request that its block refuses for its field `n`, with the staging position of head `h`. -/
theorem position_served {c : Instr} {k : ReqKind} {b : List Byte} {n : Nat} {h : HeadId} (ready : Ready l s)
    (permitted : k.permitted l = true)
    (refuses : handler l k b (markTaken l s) = withPosition h (.badField n) (markTaken l s))
    (tail : badFieldTail c k n s = carriedAlways k s ++ positionBytes (s.staging.heads.get h)) :
    serve l k (handler l k b) s = s.answered l k (17#8 :: BitVec.ofNat 8 n :: badFieldTail c k n s) := by
  have position : stagingPosition h (markTaken l s) = positionBytes (s.staging.heads.get h) :=
    stagingPosition_eq h (markTaken l s)
  rw [withPosition, position] at refuses
  rw [serve_answered ready permitted refuses, everyReply_eq, tail, List.append_assoc]
  rfl

/-- The staging position that a BAD_FIELD reply to a ring request carries. -/
def ringTail (head : Byte) (n : Nat) (s : State) : List Byte :=
  [HeadId.h0, .h1, .h2, .h3].flatMap fun h =>
    if head.toNat = h.num ∧ n ≠ 0 then positionBytes (s.staging.heads.get h) else []

theorem ringTail_zero (head : Byte) (s : State) : ringTail head 0 s = [] := by simp [ringTail]

theorem ringTail_named {head : Byte} {h : HeadId} (named : head.toNat = h.num) {n : Nat} (pos : 0 < n) (s : State) :
    ringTail head n s = positionBytes (s.staging.heads.get h) := by
  unfold ringTail
  rw [named]
  cases h <;> simp [HeadId.num, Nat.ne_of_gt pos]

end

/-- A body that ends before a field is complete is answered BAD_FIELD with the first field that offends (R177). -/
theorem truncated_served {c : Instr} {l : LinkId} {k : ReqKind} {full : List Byte} {len cut bad : Nat} {s : State}
    (sized : c.wellFormed = true) (frame : c.asFrame = some (l, k, full)) (ready : Ready l s)
    (permitted : k.permitted l = true) (first : beforeFields k l s = none) (short : Truncated c len cut bad) :
    serve l k (handler l k (full.take len)) s =
      s.answered l k (17#8 :: BitVec.ofNat 8 bad :: badFieldTail c k bad s) := by
  cases c
  case writeDescriptor _ slot d =>
    rw [asFrame_writeDescriptor] at frame
    cases frame
    obtain ⟨count, -⟩ := Bool.and_eq_true_iff.mp sized
    exact (writeDescriptor_truncated (s := markTaken l s) (custody_of_first first) (eq_of_beq count) short).served ready
      permitted (List.append_nil _)
  all_goals cases frame
  case relayNote | clearHeadFault | readDescriptor | readBandStatus | readCurve | readHead | discardRings | clearDescriptor |
      passCustody | setStallLimit | setNoticeMask =>
    exact (refuses_one_field (s := markTaken l s) rfl short rfl first (by decide)).served ready permitted (List.append_nil _)
  case mountCylinder form job separation =>
    exact (mountCylinder_truncated (s := markTaken l s) (idle_of_first first) short).served ready permitted
      (List.append_nil _)
  case armBand slot restart =>
    obtain ⟨holds, idle⟩ := custody_idle_of_first first
    exact (armBand_truncated (s := markTaken l s) holds idle short).served ready permitted (List.append_nil _)
  case setStylusCount head count =>
    exact (setStylusCount_truncated (s := markTaken l s) (custody_of_first first) short).served ready permitted
      (List.append_nil _)
  case writeCurve curve knots =>
    exact (writeCurve_truncated (s := markTaken l s) (custody_of_first first) short).served ready permitted
      (List.append_nil _)
  case writeHeadParams head p =>
    exact (writeHeadParams_truncated (s := markTaken l s) (custody_of_first first) short).served ready permitted
      (List.append_nil _)
  case ringSegment head ring offset tones =>
    rcases ringSegment_truncated (s := markTaken l s) short with ⟨rfl, refuses⟩ | ⟨pos, h, named, refuses⟩
    · exact refuses.served ready permitted (congrArg _ (ringTail_zero head s))
    · exact position_served ready permitted refuses (congrArg _ (ringTail_named named pos s))
  case ringClose head ring check mark =>
    rcases ringClose_truncated (s := markTaken l s) short with ⟨rfl, refuses⟩ | ⟨pos, h, named, refuses⟩
    · exact refuses.served ready permitted (congrArg _ (ringTail_zero head s))
    · exact position_served ready permitted refuses (congrArg _ (ringTail_named named pos s))
  all_goals exact absurd short.inside (Nat.not_lt_zero _)

/-- Settles O53. -/
theorem framesRefused : Obligations.FramesRefused := by
  refine ⟨receiver_reads, fun l kind body check s outside => ⟨fun wrong => frameReceived_wrong outside wrong,
    bodyLengthImpossible_error outside, fun low right => ?_, fun ready low right => ?_⟩, ?_⟩
  · subst right
    rw [frameReceived_taken outside low]
    exact ⟨fun down => congrArg _ (takeRequest_down down _), fun up pending => congrArg _ (takeRequest_pending outside up pending _)⟩
  · subst right
    refine ⟨fun other => ?_, fun k names => ?_⟩
    · rw [frameReceived_taken outside low, takeRequest_ready ready, route, ofCode_eq_none other]
      exact congrArg (fun t => Host.Outcome.next (transmitAll t)) (reply_markTaken l kind [2#8] s)
    · subst names
      rw [exec_intact_frame low (ofCode_kindByte k)]
      refine ⟨fun barred => congrArg _ (serve_not_permitted ready ((mayNotSend_iff l k).mp barred)), fun may r first => ?_⟩
      have permitted : k.permitted l = true := Bool.of_not_eq_false ((mayNotSend_iff l k).not.mp may)
      obtain ⟨e, bytes, refuses⟩ := handler_beforeFields first body
      rw [serve_refused_carrying ready permitted (refuses (markTaken l s) rfl rfl), bytes]
      rfl
  · intro c l k full len cut bad s sized frame ready may first inside reaches ends low before offends
    have permitted : k.permitted l = true := Bool.of_not_eq_false ((mayNotSend_iff l k).not.mp may)
    have fits : (full.take len).length ≤ 1100 := (List.length_take_le' len full).trans (body_length_le sized frame)
    rw [exec_intact_frame fits (ofCode_kindByte k)]
    exact congrArg _ (truncated_served sized frame ready permitted first ⟨inside, reaches, ends, low, before, offends⟩)

end Sys2Proof.Machine

end

section
/-! PROOFS. The boundaries that end no ring: the latch of one cell of every head of the set, or nothing (O9). -/

namespace Sys2Proof.Machine

/-! ### The step that brings a boundary (R2, R9, R11; log entry 2) -/

theorem movedToBoundary_eq (a : Nat) (d : Descriptor) (s : State) :
    movedToBoundary a d s = counted (s.grid.acc + d.nc - Config.stepsPerRev) (s.stepped .forward a) := rfl

/-- A forward step that brings boundary `b` moves the part to it and acts on it. -/
theorem stepEvent_boundary {b : Nat} {d : Descriptor} {s : State} (brings : BringsBoundary b d s) (a : Nat) :
    stepEvent .forward a s = boundary b (movedToBoundary a d s) := by
  obtain ⟨-, running, band, carry, rfl, counts⟩ := brings
  have carries : ¬(s.stepped .forward a).grid.acc + d.nc < Config.stepsPerRev := Nat.not_lt.mpr carry
  rw [stepEvent_forward, forwardStep_running (s := s.stepped .forward a) running band, gridStep_of_carry carries,
    movedToBoundary_eq]
  exact if_pos counts

theorem exec_boundary {b : Nat} {d : Descriptor} {s : State} (brings : BringsBoundary b d s) (a : Nat) :
    exec (.stepEvent .forward a) s = .next (settle (boundary b (movedToBoundary a d s))) := by
  rw [← stepEvent_boundary brings]
  exact exec_line (f := stepEvent .forward a) (fun _ => rfl) brings.1

@[simp] theorem movedToBoundary_keeps (a : Nat) (d : Descriptor) (s : State) :
    (movedToBoundary a d s).pins = s.pins ∧ (movedToBoundary a d s).cells = s.cells ∧
      (movedToBoundary a d s).store = s.store ∧ (movedToBoundary a d s).heads = s.heads ∧
      (movedToBoundary a d s).jobs = s.jobs ∧ (movedToBoundary a d s).staging = s.staging ∧
      (movedToBoundary a d s).engine = s.engine ∧ (movedToBoundary a d s).custody = s.custody ∧
      (movedToBoundary a d s).links = s.links :=
  ⟨rfl, rfl, rfl, rfl, rfl, rfl, rfl, rfl, rfl⟩

theorem movedToBoundary_band (a : Nat) (d : Descriptor) (s : State) : (movedToBoundary a d s).band = s.band := rfl

/-! ### The cells of a ring (R20 to R25, R37) -/

theorem HeadStaging.cuttingTones_getD (t : HeadStaging) :
    t.cuttingTones.getD [] =
      match t.slotA, t.slotB with
      | .cutting _ tones _ _, _ => tones
      | _, .cutting _ tones _ _ => tones
      | _, _ => [] := by
  unfold HeadStaging.cuttingTones
  cases t.slotA <;> cases t.slotB <;> rfl

theorem ringOf_tone (s : State) (d : Descriptor) (h : HeadId) (k : Nat) :
    ((s.ringOf d h)[k]?.getD 0#8).toNat = cellTone s.staging d h k := by
  rw [cellTone, List.getD_eq_getElem?_getD, State.ringOf]
  cases d.kind with
  | testCut => rfl
  | engrave => rw [HeadStaging.cuttingTones_getD]; rfl
  | dryPass => rw [HeadStaging.cuttingTones_getD]; rfl

theorem formCell_eq_cellOf (s : State) (d : Descriptor) (h : HeadId) (wear k : Nat) :
    s.formCell d h wear k = cellOf s.staging s.store d h wear k := by
  unfold State.formCell cellOf
  rw [ringOf_tone]
  rfl

/-! ### The latch (R27 to R30, R32) -/

theorem HeadUnit.latch_empty (kind : BandKind) (u : HeadUnit) : u.latch kind none = { u with drive := 0 } := rfl

theorem HeadUnit.latch_prepared (d : Descriptor) (p : PreparedCell) (u : HeadUnit) :
    u.latch d.kind (some p) =
      { u with
        drive := if cuts d u p.code then p.code else 0
        stylus := if cuts d u p.code then min 4294967295 (u.stylus + 1) else u.stylus } := by
  unfold HeadUnit.latch cuts
  dsimp only
  by_cases ready : u.state = .engaged ∧ d.kind ≠ .dryPass
  · rw [if_pos ready]
    cases code : p.code <;> simp [ready, countUp, Config.maxCount]
  · rw [if_neg ready]
    have no_cut : (u.state == .engaged && d.kind != .dryPass) = false := by simpa using ready
    rw [no_cut]
    rfl

theorem HeadCounts.latch_eq (o : CellOutcome) (c : HeadCounts) : c.latch o = countsAfter o c := by
  cases o <;> rfl

theorem HeadCounts.clips_iff (o : CellOutcome) (c : HeadCounts) : c.clips o = true ↔ RaisesClip o c := by
  unfold RaisesClip
  cases o <;> simp [HeadCounts.clips, Config.maxCount]
  all_goals exact decide_eq_true_iff

theorem anyHead_iff (f : HeadId → Bool) : HeadId.all.any f = true ↔ ∃ h, f h = true := by
  rw [List.any_eq_true]
  exact ⟨fun ⟨h, _, holds⟩ => ⟨h, holds⟩, fun ⟨h, holds⟩ => ⟨h, by cases h <;> simp [HeadId.all], holds⟩⟩

theorem allHeads_iff (f : HeadId → Bool) : HeadId.all.all f = true ↔ ∀ h, f h = true := by
  rw [List.all_eq_true]
  exact ⟨fun all h => all h (by cases h <;> simp [HeadId.all]), fun all h _ => all h⟩

/-- CLIP is posted when a latch of the set raises a clip count (R28). -/
theorem anyClip_iff (d : Descriptor) (cells : PerHead CellUnit) (counts : PerHead (Option HeadCounts)) :
    anyClip d cells counts = true ↔ ∃ h p c, d.heads.get h = true ∧ (cells.get h).prepared = some p ∧
      counts.get h = some c ∧ RaisesClip p.outcome c := by
  unfold anyClip
  rw [anyHead_iff]
  refine exists_congr fun h => ?_
  rw [Bool.and_eq_true]
  cases (cells.get h).prepared with
  | none => simp
  | some p =>
    cases counts.get h with
    | none => simp
    | some n => simp [HeadCounts.clips_iff]

theorem latchCounts_outside {d : Descriptor} {h : HeadId} (out : d.heads.get h = false) (cells : PerHead CellUnit)
    (counts : PerHead (Option HeadCounts)) : (latchCounts d cells counts).get h = counts.get h :=
  (PerHead.get_mapH _ _ _).trans (if_neg (by rw [out]; decide))

theorem latchCounts_empty {d : Descriptor} {cells : PerHead CellUnit} {h : HeadId} (empty : (cells.get h).prepared = none)
    (counts : PerHead (Option HeadCounts)) : (latchCounts d cells counts).get h = counts.get h := by
  rw [latchCounts, PerHead.get_mapH, empty]
  exact ite_self _

theorem latchCounts_prepared {d : Descriptor} {cells : PerHead CellUnit} {h : HeadId} {p : PreparedCell}
    (inSet : d.heads.get h = true) (prepared : (cells.get h).prepared = some p) (counts : PerHead (Option HeadCounts)) :
    (latchCounts d cells counts).get h = (counts.get h).map (countsAfter p.outcome) := by
  rw [latchCounts, PerHead.get_mapH, if_pos inSet, prepared]
  cases counts.get h with
  | none => rfl
  | some n => exact congrArg some (HeadCounts.latch_eq _ _)

/-- The cell unit after a latch at boundary `b`: the next cell of a head of the set (R32). -/
theorem latchCells_next (d : Descriptor) (b : Nat) (s : State) (h : HeadId) :
    (latchCells d b s).cells.get h =
      if d.heads.get h then
        { s.cells.get h with
          prepared :=
            if (s.cells.get h).prepared.isSome = true ∧ b + 1 < d.cut then
              some (cellOf s.staging s.store d h (s.cells.get h).wear (b + 1))
            else none }
      else s.cells.get h := by
  rw [← formCell_eq_cellOf]
  exact PerHead.get_mapH _ _ _

theorem latchCells_record {s : State} {i : Fin 64} (slot : s.engine.slot = some i) (d : Descriptor) (b : Nat) :
    (latchCells d b s).jobs[i] = { s.jobs[i] with
      record := { s.jobs[i].record with counts := latchCounts d s.cells s.jobs[i].record.counts } } := by
  have job := modRecord_job (fun r => { r with counts := latchCounts d s.cells r.counts }) s i
  rw [if_pos slot] at job
  rw [← job]
  exact congrArg (fun jobs : Vector JobSlot 64 => jobs[i]) (latchCells_jobs d b s)

theorem latchCells_set {s : State} {i : Fin 64} (slot : s.engine.slot = some i) (d : Descriptor) (b : Nat) :
    (latchCells d b s).jobs = s.jobs.set i { s.jobs[i] with
      record := { s.jobs[i].record with counts := latchCounts d s.cells s.jobs[i].record.counts } } := by
  rw [latchCells_jobs, modRecord, slot]
  rfl

theorem latchCells_links {s : State} {i : Fin 64} (slot : s.engine.slot = some i) (d : Descriptor) (b : Nat) :
    (latchCells d b s).links =
      if anyClip d s.cells s.jobs[i].record.counts then (postAll .clip s).links else s.links := by
  have counts : (s.record.map fun r => r.counts).getD (PerHead.pure none) = s.jobs[i].record.counts := by
    rw [State.record, slot]
    rfl
  have links : (modRecord (fun r => { r with counts := latchCounts d s.cells r.counts }) s).links = s.links := by simp
  unfold latchCells
  rw [counts]
  by_cases clip : anyClip d s.cells s.jobs[i].record.counts = true
  · rw [if_pos clip]
    simp only [clip, if_true]
    exact congrArg (fun l : PerLink LinkUnit => l.mapL fun _ u => u.post .clip) links
  · rw [if_neg clip]
    simp only [if_neg clip]
    exact links

theorem transmitAll_links_congr {s t : State} (links : t.links = s.links) : (transmitAll t).links = (transmitAll s).links :=
  congrArg (fun l : PerLink LinkUnit => l.mapL fun _ u => LinkUnit.transmit u) links

theorem latchCells_stands {s : State} (stands : s.sup.active = s.anyLowered) (d : Descriptor) (b : Nat) :
    (latchCells d b s).sup.active = (latchCells d b s).anyLowered := by
  refine stands_congr stands (by simp) (anyLowered_congr ?_ fun h _ => ?_)
  · refine State.headInUse_of_engine (by simp) (by simp) fun i => ?_
    rw [← modRecord_desc (fun r => { r with counts := latchCounts d s.cells r.counts }) s i]
    exact congrArg (fun jobs : Vector JobSlot 64 => jobs[i].desc) (latchCells_jobs d b s)
  · rw [latchCells_head]
    split
    · exact HeadUnit.latch_state _ _ _
    · rfl

/-! ### Outside a cutting revolution (R33, R35) -/

theorem silenceSet_of_band {s : State} {d : Descriptor} (band : s.band = some d) :
    silenceSet s =
      (s.withHeads (s.heads.mapH fun h u => if d.heads.get h then { u with drive := 0 } else u)).withCells
        (s.cells.mapH fun h c => if d.heads.get h then { c with prepared := none } else c) := by
  have inUse : s.headInUse = fun h => d.heads.get h := funext (headInUse_of_band band)
  rw [silenceSet_eq, inUse]
  rfl

theorem silenceSet_stands {s : State} (stands : s.sup.active = s.anyLowered) :
    (silenceSet s).sup.active = (silenceSet s).anyLowered := by
  refine stands_congr stands (by simp) (anyLowered_congr rfl fun h _ => ?_)
  rw [silenceSet_head]
  split <;> rfl

/-- Settles O9. -/
theorem boundaryLatchesCells : Obligations.BoundaryLatchesCells := by
  intro s a b d i brings slot supervised
  have run := exec_boundary brings a
  have band : (movedToBoundary a d s).band = some d := brings.2.2.1
  have stands : (movedToBoundary a d s).sup.active = (movedToBoundary a d s).anyLowered :=
    stepped_stands supervised rfl rfl
  have cutting_iff := ringBeingCut_iff (movedToBoundary a d s)
  obtain ⟨cutting, below, acts⟩ | ⟨cutting, last, -⟩ | ⟨idle, below, acts⟩ | ⟨passes, acts⟩ :=
    boundary_cases b d (movedToBoundary a d s) band
  case inr.inl =>
    have revolves := cutting_iff.mp cutting
    exact ⟨fun past => past.elim (fun above => absurd last (Nat.ne_of_gt above)) fun idle => absurd revolves idle.2,
      fun below => absurd last (Nat.ne_of_lt below), fun below => absurd last (Nat.ne_of_lt below)⟩
  case inr.inr.inl =>
    refine ⟨fun past => past.elim (fun above => absurd above (by omega)) fun last => absurd last.1 (Nat.ne_of_lt below),
      fun _ _ => ?_, fun _ state pos => absurd (cutting_iff.mpr ⟨state, pos⟩) (by rw [idle]; decide)⟩
    rw [run, acts, settle_of_stands (silenceSet_stands stands), silenceSet_of_band band]
    rfl
  case inr.inr.inr =>
    have not_below : ¬b < d.cut := passes.elim (fun above => by omega) fun last => by omega
    refine ⟨fun _ => ?_, fun below => absurd below not_below, fun below => absurd below not_below⟩
    rw [run, acts, settle_of_stands stands]
  case inl =>
    have revolves := cutting_iff.mp cutting
    refine ⟨fun past => past.elim (fun above => absurd above (by omega)) fun last => absurd last.1 (Nat.ne_of_lt below),
      fun _ idle => absurd revolves idle, fun _ _ _ => ?_⟩
    have slot_moved : (movedToBoundary a d s).engine.slot = some i := slot
    have counts : (latchCells d b (movedToBoundary a d s)).jobs[i].record.counts =
        latchCounts d s.cells s.jobs[i].record.counts :=
      congrArg (fun j : JobSlot => j.record.counts) (latchCells_record slot_moved d b)
    have set_jobs := latchCells_set slot_moved d b
    have head := latchCells_head d b (movedToBoundary a d s)
    have cell := latchCells_next d b (movedToBoundary a d s)
    have links := latchCells_links slot_moved d b
    have keeps := latchCells_keeps d b (movedToBoundary a d s)
    rw [run, acts, settle_of_stands (latchCells_stands stands d b)]
    generalize latchCells d b (movedToBoundary a d s) = t at *
    obtain ⟨-, pins, grid, store, staging, engine, -, custody, -⟩ := keeps
    refine ⟨_, rfl, grid, fun h out => ?_, fun h inSet empty => ?_, fun h p inSet prepared => ?_, ?_, ?_, engine,
      staging, store, custody, pins⟩
    · have outside : ¬d.heads.get h = true := by rw [out]; decide
      refine ⟨(head h).trans (if_neg outside), (cell h).trans (if_neg outside), ?_⟩
      exact (congrArg (PerHead.get · h) counts).trans (latchCounts_outside out _ _)
    · refine ⟨(head h).trans ((if_pos inSet).trans ?_), (cell h).trans ((if_pos inSet).trans ?_), ?_⟩
      · exact (congrArg (HeadUnit.latch d.kind · (s.heads.get h)) empty).trans (HeadUnit.latch_empty _ _)
      · have none_ : ((movedToBoundary a d s).cells.get h).prepared = none := empty
        rw [none_]
        exact congrArg (CellUnit.mk (s.cells.get h).wear) empty.symm
      · exact (congrArg (PerHead.get · h) counts).trans (latchCounts_empty empty _)
    · refine ⟨(head h).trans ((if_pos inSet).trans ?_), (cell h).trans ((if_pos inSet).trans ?_), ?_⟩
      · exact (congrArg (HeadUnit.latch d.kind · (s.heads.get h)) prepared).trans (HeadUnit.latch_prepared _ _ _)
      · have some_ : ((movedToBoundary a d s).cells.get h).prepared.isSome = true := congrArg Option.isSome prepared
        simp only [some_, true_and]
        rfl
      · exact (congrArg (PerHead.get · h) counts).trans (latchCounts_prepared inSet prepared _)
    · exact set_jobs.trans (congrArg (fun c => s.jobs.set i
        { s.jobs[i] with record := { s.jobs[i].record with counts := c } }) counts.symm)
    · have clips := anyClip_iff d s.cells s.jobs[i].record.counts
      exact ⟨fun raises => transmitAll_links_congr (s := postAll .clip s) (links.trans (if_pos (clips.mpr raises))),
        fun quiet => transmitAll_links_congr (links.trans (if_neg fun raised => quiet (clips.mp raised)))⟩

end Sys2Proof.Machine

end

section
/-! PROOFS. What an index event and the expiry of the index timing set in the cell grid (O6). -/

namespace Sys2Proof.Machine

/-! ### The grid of an index (R3, R8, R14) -/

theorem State.indexed_grid (a : Nat) (s : State) :
    (s.indexed a).grid = s.grid.index (max s.now a) (presetFor s.nextRing s.stagger) := by
  rw [max_eq_add_sub]
  rfl

theorem Grid.index_stopped {g : Grid} (stopped : g.state = .stopped) (now preset : Nat) :
    (g.index now preset).state = .stopped ∧ (g.index now preset).acc = g.acc ∧
      (g.index now preset).boundaries = g.boundaries :=
  ⟨if_pos stopped, if_pos stopped, if_pos stopped⟩

theorem Grid.index_running {g : Grid} (runs : g.state ≠ .stopped) (now preset : Nat) :
    (g.index now preset).state = .running ∧ (g.index now preset).acc = preset ∧
      (g.index now preset).boundaries = 0 :=
  ⟨if_neg runs, if_neg runs, if_neg runs⟩

theorem measuredPeriod_of_earlier {p now : Nat} (earlier : p < now) :
    measuredPeriod now (some p) = if now - p ≤ 60000000 then some (now - p) else none := by
  have positive : max 1 (now - p) = now - p := by omega
  exact congrArg (fun n => if now - p ≤ 60000000 then some n else none) positive

theorem State.stagger_of_band {s : State} {d : Descriptor} (band : s.band = some d) : s.stagger = d.stagger := by
  unfold State.stagger
  rw [band]

/-! ### An index at the engine keeps the grid or aborts the band -/

def Grid.Cleared (g : Grid) : Prop := g.state = .stopped ∧ g.acc = 0 ∧ g.boundaries = 0

/-- What an index that reaches the engine of a running band does to the grid: it keeps it and the band, or it aborts the
band and stops the grid (R7). -/
def KeepsOrAborts (s t : State) : Prop :=
  (t.grid = s.grid ∧ t.engine.state.abortable = true) ∨ (t.grid.Cleared ∧ t.engine.state.abortable = false)

theorem abort_clears {s : State} (runs : s.engine.state.abortable = true) (c : EndCause) (h : Option HeadId) :
    (abort c h s).grid.Cleared ∧ (abort c h s).engine.state.abortable = false := by
  rw [abort_eq, if_pos runs, leaveEndingPlain]
  split
  · exact ⟨by rw [enterEnded_grid]; exact abortEntry_grid _ _ _, rfl⟩
  · exact ⟨abortEntry_grid _ _ _, by rw [abortEntry_engine]; rfl⟩

theorem beginCutting_engine (d : Descriptor) (s : State) :
    (beginCutting d s).engine = { s.engine with dataIdle := 0, revPos := some .cut } := by
  simp [beginCutting]

theorem enterHeld_runs (r : HoldReason) (s : State) : (enterHeld r s).engine.state.abortable = true := rfl

/-- The part in an idle revolution, before the tests for a hold (R136). -/
def idled (noData : Bool) (s : State) : State :=
  (modRecord (fun r => { r with idleRevs := countUp r.idleRevs }) s).modEngine fun g =>
    { g with revPos := some .idle, dataIdle := if noData then min 255 (g.dataIdle + 1) else g.dataIdle }

theorem beginIdle_eq (d : Descriptor) (noData : Bool) (s : State) :
    beginIdle d noData s =
      if (idled noData s).engine.speedDev = Config.speedDevLimit then enterHeld .speed (idled noData s)
      else if d.starve ≤ (idled noData s).engine.dataIdle then enterHeld .starved (idled noData s)
      else if (idled noData s).engine.pause = true ∧ (idled noData s).engine.target = none then
        enterHeld .pauseRequest (idled noData s)
      else idled noData s := rfl

theorem idled_engine (noData : Bool) (s : State) : (idled noData s).engine = { s.engine with
    revPos := some .idle, dataIdle := if noData then min 255 (s.engine.dataIdle + 1) else s.engine.dataIdle } := by
  simp [idled]

theorem beginIdle_runs {s : State} (runs : s.engine.state.abortable = true) (d : Descriptor) (noData : Bool) :
    (beginIdle d noData s).engine.state.abortable = true := by
  rw [beginIdle_eq]
  split
  · exact enterHeld_runs _ _
  split
  · exact enterHeld_runs _ _
  split
  · exact enterHeld_runs _ _
  · rw [idled_engine]
    exact runs

theorem decideRevolution_runs {s : State} (runs : s.engine.state.abortable = true) (d : Descriptor) :
    (decideRevolution d s).engine.state.abortable = true := by
  have silent : (silenceSet s).engine.state.abortable = true := runs
  obtain ⟨-, -, -, cut⟩ | ⟨-, idle⟩ | ⟨-, -, idle⟩ := decideRevolution_cases d s
  · rw [cut, beginCutting_engine]
    exact silent
  · rw [idle]
    exact beginIdle_runs silent d true
  · rw [idle]
    exact beginIdle_runs silent d false

theorem judgeRevolution_state (d : Descriptor) (s : State) :
    (judgeRevolution d s).engine.state = s.engine.state := by
  unfold judgeRevolution
  dsimp only
  repeat' split
  all_goals simp

theorem decided_keeps {s t : State} (grid : t.grid = s.grid) (runs : t.engine.state.abortable = true) (d : Descriptor) :
    KeepsOrAborts s (decideRevolution d (judgeRevolution d t)) :=
  .inl ⟨by simp [grid], decideRevolution_runs (by rw [judgeRevolution_state]; exact runs) d⟩

theorem countLate_runs {s : State} (runs : s.engine.state.abortable = true) :
    (countLate s).engine.state.abortable = true := by
  rw [countLate_state]
  exact runs

theorem countLate_grid (s : State) : (countLate s).grid = s.grid := by simp

/-- The part in PREPARING after an index has been counted (R131, R134). -/
def settled (d : Descriptor) (s : State) : State := countSettle d (countLate s)

theorem preparingIndex_eq (d : Descriptor) (s : State) :
    preparingIndex d s =
      if (countLate s).carriageTimedOut then abort .carriageTimeout none (countLate s)
      else if (settled d s).engine.settleCount.isSome ∧ (settled d s).engine.arrived ∧ (settled d s).engine.settleRun = 2 then
        decideRevolution d (judgeRevolution d (enterCutting (settled d s)))
      else if (settled d s).engine.settleRun < 2 ∧ (settled d s).engine.settleCount = some Config.settleLimit then
        enterHeld .speed (settled d s)
      else settled d s := rfl

theorem settled_grid (d : Descriptor) (s : State) : (settled d s).grid = s.grid := countLate_grid s

theorem settled_runs {s : State} (runs : s.engine.state.abortable = true) (d : Descriptor) :
    (settled d s).engine.state.abortable = true := countLate_runs runs

theorem preparingIndex_keepsOrAborts {s : State} (runs : s.engine.state.abortable = true) (d : Descriptor) :
    KeepsOrAborts s (preparingIndex d s) := by
  rw [preparingIndex_eq]
  have grid := settled_grid d s
  have running := settled_runs runs d
  generalize settled d s = t at grid running ⊢
  split
  · exact .inr (abort_clears (countLate_runs runs) _ _)
  split
  · exact decided_keeps (t := enterCutting t) grid rfl d
  split
  · exact .inl ⟨grid, enterHeld_runs _ _⟩
  · exact .inl ⟨grid, running⟩

theorem cuttingIndex_keepsOrAborts {s : State} (runs : s.engine.state.abortable = true) (c : IndexClass) (d : Descriptor) :
    KeepsOrAborts s (cuttingIndex c d s) := by
  unfold cuttingIndex
  dsimp only
  split
  · exact .inr (abort_clears runs _ _)
  split
  · exact .inr (abort_clears (countLate_runs runs) _ _)
  · exact decided_keeps (countLate_grid s) (countLate_runs runs) d

theorem heldIndex_keepsOrAborts {s : State} (runs : s.engine.state.abortable = true) : KeepsOrAborts s (heldIndex s) := by
  unfold heldIndex
  dsimp only
  split
  · exact .inr (abort_clears (countLate_runs runs) _ _)
  · exact .inl ⟨countLate_grid s, countLate_runs runs⟩

theorem engineIndex_keepsOrAborts {s : State} (runs : s.engine.state.abortable = true) (c : IndexClass) :
    KeepsOrAborts s (engineIndex c s) := by
  cases band : s.band with
  | none =>
    have kept : engineIndex c s = s := by simp only [engineIndex, band]
    rw [kept]
    exact .inl ⟨rfl, runs⟩
  | some d =>
    cases state : s.engine.state with
    | preparing => simpa only [engineIndex, band, state] using preparingIndex_keepsOrAborts runs d
    | cutting => simpa only [engineIndex, band, state] using cuttingIndex_keepsOrAborts runs c d
    | held => simpa only [engineIndex, band, state] using heldIndex_keepsOrAborts runs
    | idle | armed | ending | ended => rw [state] at runs; cases runs

/-! ### The events of the index (R3, R8, R14, R15; log entries 1, 2 and 6) -/

/-- The part that an index at time `a` gives the engine: MOTION_FAULT is posted first for a SLIP in a ring (R156). -/
def State.indexGiven (a : Nat) (s : State) : State :=
  if indexClass s.grid.reference s.grid.position = .slip ∧ s.ringBeingCut then postAll .motionFault (s.indexed a)
  else s.indexed a

theorem State.indexGiven_keeps (a : Nat) (s : State) :
    (s.indexGiven a).grid = (s.indexed a).grid ∧ (s.indexGiven a).engine = s.engine := by
  unfold State.indexGiven
  split <;> exact ⟨rfl, rfl⟩

theorem exec_index {s : State} (outside : s.inMasterReset = false) (a : Nat) :
    exec (.indexEvent a) s =
      .next (settle (engineIndex (indexClass s.grid.reference s.grid.position) (s.indexGiven a))) :=
  exec_line (f := indexEvent a) (fun _ => rfl) outside

theorem exec_indexTimingExpiry {s : State} (outside : s.inMasterReset = false) :
    exec .indexTimingExpiry s = .next (indexTimingExpiry s) :=
  congrArg Host.Outcome.next (outsideReset_of_not_reset outside _)

theorem indexTimingExpiry_of_invalid {s : State} (invalid : s.grid.indexTime = none) : indexTimingExpiry s = s := by
  unfold indexTimingExpiry
  rw [invalid]

theorem passTimeTo_modGrid (m : Nat) (f : Grid → Grid) (s : State) :
    (passTimeTo m s).modGrid f = (passTimeTo m s).withGrid (f s.grid) := rfl

theorem indexTimingExpiry_of_valid {s : State} {p : Nat} (valid : s.grid.indexTime = some p) :
    indexTimingExpiry s =
      (passTimeTo (p + Config.maxPeriod) s).withGrid { s.grid with lastPeriod := none, indexTime := none } := by
  unfold indexTimingExpiry
  rw [valid]
  exact passTimeTo_modGrid _ _ _

/-- The line's part of the grid after an index (R3, R14, R15). -/
theorem index_line {s t : State} {a : Nat} (line : t.grid.line = (s.indexed a).grid.line) :
    t.grid.position = 0 ∧ t.grid.reference = .referenced ∧ t.grid.indexTime = some (max s.now a) ∧
      t.grid.lastPeriod = measuredPeriod (max s.now a) s.grid.indexTime := by
  rw [State.indexed_grid] at line
  simp only [Grid.line, Grid.index, Prod.mk.injEq] at line
  obtain ⟨position, reference, period, time⟩ := line
  exact ⟨position, reference, time, period⟩

/-- Settles O6. -/
theorem indexSetsTheGrid : Obligations.IndexSetsTheGrid := by
  intro s a outside
  refine ⟨fun invalid => ?_, fun p valid => ?_, _, exec_index outside a, ?_⟩
  · rw [exec_indexTimingExpiry outside, indexTimingExpiry_of_invalid invalid]
  · have limit : Config.maxPeriod = 60000000 := rfl
    rw [exec_indexTimingExpiry outside, indexTimingExpiry_of_valid valid, limit]
  obtain ⟨given_grid, given_engine⟩ := s.indexGiven_keeps a
  have line : (engineIndex (indexClass s.grid.reference s.grid.position) (s.indexGiven a)).grid.line =
      (s.indexed a).grid.line := by
    rw [engineIndex_line, given_grid]
  have moved := s.indexed_grid a
  have rests (rest : s.engine.state.abortable = false) :
      (engineIndex (indexClass s.grid.reference s.grid.position) (s.indexGiven a)).grid = (s.indexed a).grid := by
    rw [engineIndex_of_rest (by rw [given_engine]; exact rest), given_grid]
  have runs (run : s.engine.state.abortable = true) := engineIndex_keepsOrAborts (s := s.indexGiven a)
    (by rw [given_engine]; exact run) (indexClass s.grid.reference s.grid.position)
  rw [KeepsOrAborts, given_grid] at runs
  generalize engineIndex (indexClass s.grid.reference s.grid.position) (s.indexGiven a) = t at line rests runs
  obtain ⟨position, reference, time, period⟩ := index_line line
  refine ⟨position, reference, time, fun invalid => ?_, fun p valid earlier => ?_, fun stopped acc count => ?_,
    fun d band run free => ?_⟩
  · exact period.trans (by rw [invalid]; rfl)
  · exact period.trans (by rw [valid]; exact measuredPeriod_of_earlier earlier)
  · obtain ⟨state, acc_kept, count_kept⟩ := Grid.index_stopped stopped (max s.now a) (presetFor s.nextRing s.stagger)
    have kept (same : t.grid = (s.indexed a).grid) : t.grid.Cleared := by
      rw [same, moved]
      exact ⟨state, acc_kept.trans acc, count_kept.trans count⟩
    cases run : s.engine.state.abortable with
    | false => exact kept (rests run)
    | true => exact (runs run).elim (fun same => kept same.1) fun aborted => aborted.1
  · obtain ⟨same, running⟩ | ⟨cleared, ended⟩ := runs run
    · obtain ⟨state, acc, count⟩ := Grid.index_running free (max s.now a) (presetFor s.nextRing s.stagger)
      refine (if_pos running).mpr ?_
      have grid : (settle t).grid = s.grid.index (max s.now a) (presetFor s.nextRing s.stagger) := same.trans moved
      rw [grid, ← State.stagger_of_band band]
      exact ⟨state, acc, count⟩
    · exact (if_neg (by rw [show (settle t).engine = t.engine from rfl, ended]; decide)).mpr cleared

end Sys2Proof.Machine

end

section
/-! PROOFS. Holds (R141), and the indexes that decide no revolution (O14). -/

namespace Sys2Proof.Machine

/-! ### A band enters HELD (R141) -/

/-- A head whose drive output stays or becomes 0 and which is otherwise as it was. -/
def HeadUnit.QuietedTo (u v : HeadUnit) : Prop := v = u ∨ v = { u with drive := 0 }

theorem HeadUnit.QuietedTo.ok {u v : HeadUnit} (quiet : u.QuietedTo v) (ok : u.ok) : v.ok := by
  obtain rfl | rfl := quiet
  · exact ok
  · exact (HeadStep.silence u).ok ok

theorem HeadUnit.QuietedTo.lifted {u v : HeadUnit} (quiet : u.QuietedTo v) (now : Nat) (p : HeadParams) :
    { liftedHead now p v with drive := 0 } = { liftedHead now p u with drive := 0 } := by
  obtain rfl | rfl := quiet
  · rfl
  · obtain ⟨state, _, _, _, _, _, _, _⟩ := u
    cases state <;> rfl

theorem liftSet_outside {s : State} {d : Descriptor} (band : s.band = some d) {h : HeadId} (out : d.heads.get h = false) :
    (liftSet s).heads.get h = s.heads.get h := by
  rw [liftSet_head, headInUse_of_band band, out]
  rfl

/-- A band held from `y`, whose heads are those of `s` but for drive outputs at 0, is held as `Held` says. -/
theorem enterHeld_held (r : HoldReason) {d : Descriptor} {s y : State} (band : y.band = some d)
    (store : y.store = s.store) (out : ∀ h, d.heads.get h = false → y.heads.get h = s.heads.get h)
    (set : ∀ h, d.heads.get h = true → (s.heads.get h).QuietedTo (y.heads.get h)) :
    Held r d s (settle (enterHeld r y)) := by
  have heads (h : HeadId) : (settle (enterHeld r y)).heads.get h = (liftSet y).heads.get h := rfl
  refine ⟨rfl, rfl, rfl, rfl, rfl, (postAll_pendingAll .bandHeld _).settle, fun h outside => ?_, fun fine h inSet => ?_⟩
  · rw [heads, liftSet_outside band outside, out h outside]
  · have quiet := set h inSet
    have lifted : (settle (enterHeld r y)).heads.get h =
        { liftedHead y.now (y.params h) (y.heads.get h) with drive := 0 } := by
      rw [heads, liftSet_head_of_band band (quiet.ok (headsOk_iff.mp fine h).ok) inSet]
    have params : y.params h = s.params h := by rw [State.params, store]; rfl
    rw [lifted, quiet.lifted, params]
    exact ⟨liftedHead_lowered _ _ _, rfl⟩

theorem enterHeld_held_same (r : HoldReason) {d : Descriptor} {s y : State} (band : y.band = some d)
    (store : y.store = s.store) (heads : y.heads = s.heads) : Held r d s (settle (enterHeld r y)) :=
  enterHeld_held r band store (fun h _ => by rw [heads]) fun h _ => .inl (by rw [heads])

/-! ### The carriage-late counter and the settle counters (R131, R134) -/

/-- The carriage-late counter after an index with a request not yet late (R134). -/
def State.lateNext (s : State) : Nat := if s.engine.target.isSome then s.engine.late + 1 else s.engine.late

theorem countLate_early {s : State} (early : s.engine.target.isSome = true → s.engine.late < 2) :
    (countLate s).engine = { s.engine with late := s.lateNext } ∧ (countLate s).carriageTimedOut = false := by
  have limit : Config.carriageLateLimit = 3 := rfl
  unfold countLate State.lateNext State.carriageTimedOut
  cases outstanding : s.engine.target.isSome with
  | false => simp [outstanding]
  | true =>
    have below := early outstanding
    have counts : min 3 (s.engine.late + 1) = s.engine.late + 1 := by omega
    have in_time : ¬s.engine.late = 2 := by omega
    simp [outstanding, limit, counts, in_time]

theorem judged_eq (a : Nat) (d : Descriptor) (s : State) :
    judgeSpeed d.texp d.speedTol (s.indexed a).grid.lastPeriod = judged a d s := by
  rw [State.indexed_grid]
  rfl

/-- The settle run after an index in PREPARING (R131). -/
def settleRunNext (a : Nat) (d : Descriptor) (s : State) : Nat :=
  if judged a d s = .inside then min 2 (s.engine.settleRun + 1) else 0

theorem settled_engine {s : State} (early : s.engine.target.isSome = true → s.engine.late < 2) (a : Nat) (d : Descriptor) :
    (settled d (s.indexed a)).engine =
      { s.engine with
        late := s.lateNext
        settleRun := settleRunNext a d s
        settleCount := s.engine.settleCount.map fun n => min 8 (n + 1) } := by
  have late := (countLate_early (s := s.indexed a) early).1
  have grid : (countLate (s.indexed a)).grid = (s.indexed a).grid := countLate_grid _
  have counted : (settled d (s.indexed a)).engine = { (countLate (s.indexed a)).engine with
      settleRun := if judgeSpeed d.texp d.speedTol (countLate (s.indexed a)).grid.lastPeriod = .inside then
        min 2 ((countLate (s.indexed a)).engine.settleRun + 1) else 0
      settleCount := (countLate (s.indexed a)).engine.settleCount.map fun n => min 8 (n + 1) } := rfl
  rw [counted, late, grid, judged_eq]
  rfl

@[simp] theorem settled_keeps (d : Descriptor) (s : State) :
    (settled d s).cells = s.cells ∧ (settled d s).store = s.store ∧ (settled d s).heads = s.heads ∧
      (settled d s).jobs = s.jobs ∧ (settled d s).staging = s.staging ∧ (settled d s).links = s.links := by
  simp [settled]

theorem settled_band (d : Descriptor) (s : State) : (settled d s).band = s.band := countLate_band s

theorem settle_limit_iff (c : Option Nat) : c.map (fun n => min 8 (n + 1)) = some Config.settleLimit ↔ 7 ≤ c.getD 0 := by
  have limit : Config.settleLimit = 8 := rfl
  rw [limit]
  cases c with
  | none => simp
  | some n =>
    simp only [Option.map_some, Option.some.injEq, Option.getD_some]
    omega

/-! ### An index in PREPARING, in HELD and at rest (R16, R131, R134, R141) -/

theorem ringBeingCut_of_other {s : State} (other : s.engine.state ≠ .cutting) : s.ringBeingCut = false :=
  ringBeingCut_of_not_cutting other

theorem exec_index_without_slip {s : State} (outside : s.inMasterReset = false) (whole : s.ringBeingCut = false) (a : Nat) :
    exec (.indexEvent a) s =
      .next (settle (engineIndex (indexClass s.grid.reference s.grid.position) (s.indexed a))) := by
  rw [← indexEvent_without_slip whole]
  exact exec_line (f := indexEvent a) (fun _ => rfl) outside

theorem engineIndex_preparing {s : State} {d : Descriptor} (band : s.band = some d) (state : s.engine.state = .preparing)
    (c : IndexClass) : engineIndex c s = preparingIndex d s := by
  simp only [engineIndex, band, state]

theorem engineIndex_cutting {s : State} {d : Descriptor} (band : s.band = some d) (state : s.engine.state = .cutting)
    (c : IndexClass) : engineIndex c s = cuttingIndex c d s := by
  simp only [engineIndex, band, state]

theorem engineIndex_held {s : State} {d : Descriptor} (band : s.band = some d) (state : s.engine.state = .held)
    (c : IndexClass) : engineIndex c s = heldIndex s := by
  simp only [engineIndex, band, state]

/-- An index in PREPARING that does not settle the speed holds the band or counts (R131). -/
theorem preparingIndex_unsettled {d : Descriptor} {s : State} (in_time : (countLate s).carriageTimedOut = false)
    (unsettled : ¬((settled d s).engine.settleCount.isSome ∧ (settled d s).engine.arrived ∧
      (settled d s).engine.settleRun = 2)) :
    preparingIndex d s =
      if (settled d s).engine.settleRun < 2 ∧ (settled d s).engine.settleCount = some Config.settleLimit then
        enterHeld .speed (settled d s)
      else settled d s := by
  rw [preparingIndex_eq, if_neg (by rw [in_time]; decide), if_neg unsettled]

theorem settleRunNext_of_unsettled {a : Nat} {d : Descriptor} {s : State}
    (unsettled : s.engine.settleRun = 0 ∨ judged a d s ≠ .inside) : settleRunNext a d s ≠ 2 := by
  unfold settleRunNext
  split
  · next inside =>
    have zero := unsettled.resolve_right fun outside => outside inside
    rw [zero]
    decide
  · decide

/-- Settles O14. -/
theorem preparingCountsIndexes : Obligations.PreparingCountsIndexes := by
  refine ⟨fun s a d i outside band slot early => ⟨fun state _ unsettled => ?_, fun state => ?_⟩, fun s a outside rests => ?_⟩
  · have whole := ringBeingCut_of_other (s := s) (by rw [state]; decide)
    have engine := settled_engine early a d
    have in_time := (countLate_early (s := s.indexed a) early).2
    obtain ⟨cells, store, heads, jobs, staging, -⟩ := settled_keeps d (s.indexed a)
    have current := settled_band d (s.indexed a)
    have not_cutting : ¬((settled d (s.indexed a)).engine.settleCount.isSome ∧
        (settled d (s.indexed a)).engine.arrived ∧ (settled d (s.indexed a)).engine.settleRun = 2) := by
      rw [engine]
      rintro ⟨ready, arrived, run⟩
      obtain none_ | away | slow := unsettled
      · simp [none_] at ready
      · rw [away] at arrived
        cases arrived
      · exact settleRunNext_of_unsettled slow run
    rw [exec_index_without_slip outside whole,
      engineIndex_preparing (s := s.indexed a) band state, preparingIndex_unsettled in_time not_cutting]
    generalize settled d (s.indexed a) = y at *
    have target : y.engine.target = s.engine.target := by rw [engine]
    have arrived : y.engine.arrived = s.engine.arrived := by rw [engine]
    by_cases hold : y.engine.settleRun < 2 ∧ y.engine.settleCount = some Config.settleLimit
    · have held : settleRunNext a d s < 2 ∧ 7 ≤ s.engine.settleCount.getD 0 := by
        rw [engine, settle_limit_iff] at hold
        exact hold
      rw [if_pos hold]
      refine ⟨_, rfl, congrArg Engine.settleRun engine, congrArg Engine.late engine, target,
        arrived, jobs, staging, cells, store, ?_⟩
      have run : (settle (enterHeld .speed y)).engine.settleRun = settleRunNext a d s := congrArg Engine.settleRun engine
      rw [run, if_pos held]
      exact enterHeld_held_same .speed (current.trans band) store heads
    · have goes_on : ¬(settleRunNext a d s < 2 ∧ 7 ≤ s.engine.settleCount.getD 0) := by
        rw [engine, settle_limit_iff] at hold
        exact hold
      rw [if_neg hold]
      refine ⟨_, rfl, congrArg Engine.settleRun engine, congrArg Engine.late engine, target,
        arrived, jobs, staging, cells, store, ?_⟩
      have run : (settle y).engine.settleRun = settleRunNext a d s := congrArg Engine.settleRun engine
      rw [run, if_neg goes_on]
      exact ⟨(congrArg Engine.state engine).trans state, congrArg Engine.settleCount engine, heads⟩
  · have whole := ringBeingCut_of_other (s := s) (by rw [state]; decide)
    obtain ⟨engine, in_time⟩ := countLate_early (s := s.indexed a) early
    obtain ⟨-, -, -, cells, store, heads, jobs, staging, -, custody, -⟩ := countLate_keeps (s.indexed a)
    have counts : heldIndex (s.indexed a) = countLate (s.indexed a) := if_neg (by rw [in_time]; decide)
    rw [exec_index_without_slip outside whole, engineIndex_held (s := s.indexed a) band state, counts]
    exact ⟨_, rfl, engine, heads, jobs, staging, cells, store, custody⟩
  · rw [exec_index_without_slip outside (ringBeingCut_of_rest rests),
      engineIndex_of_rest (s := s.indexed a) rests]
    exact ⟨_, rfl, rfl, rfl, rfl, rfl, rfl, rfl, rfl, rfl⟩

end Sys2Proof.Machine

end

section
/-! SUPPORT. An index that decides the coming revolution: the counters it moves, the judgement of the revolution that has
ended, and the decision (R134, R135, R136). -/

namespace Sys2Proof.Machine

/-! ### The class of the index (R4) -/

theorem indexClass_not_slip {r : Reference} {p : Nat} (near : r = .unreferenced ∨ p ≤ 8 ∨ 1048568 ≤ p) :
    indexClass r p ≠ .slip := by
  unfold indexClass
  cases r with
  | unreferenced => exact fun slip => by cases slip
  | referenced =>
    have close : p ≤ 8 ∨ 1048568 ≤ p := near.resolve_left (by decide)
    dsimp only
    rw [if_pos]
    · decide
    · simp only [Config.trimWindow, Config.stepsPerRev]
      omega

/-! ### The part that decides -/

/-- The part `y` in which the engine judges and decides at the index at time `a`: it is CUTTING, its late counter has been
counted, and everything else but the line and the settle counters is as in `s`. -/
structure Decides (a : Nat) (d : Descriptor) (s y : State) : Prop where
  engine : ∃ run count, y.engine =
    { s.engine with state := .cutting, late := s.lateNext, settleRun := run, settleCount := count }
  jobs : y.jobs = s.jobs
  heads : y.heads = s.heads
  cells : y.cells = s.cells
  staging : y.staging = s.staging
  store : y.store = s.store
  custody : y.custody = s.custody
  judge : judgeSpeed d.texp d.speedTol y.grid.lastPeriod = judged a d s

theorem Decides.band {a : Nat} {d : Descriptor} {s y : State} (decides : Decides a d s y)
    (current : s.engine.state.isCurrent = true) : y.band = s.band := by
  obtain ⟨run, count, engine⟩ := decides.engine
  refine State.band_of_engine ?_ ?_ fun i => by rw [decides.jobs]
  · rw [engine, current]
    rfl
  · rw [engine]

theorem countLate_decides {a : Nat} {d : Descriptor} {s : State} (cutting : s.engine.state = .cutting)
    (early : s.engine.target.isSome = true → s.engine.late < 2) : Decides a d s (countLate (s.indexed a)) := by
  obtain ⟨engine, -⟩ := countLate_early (s := s.indexed a) early
  obtain ⟨-, -, grid, cells, store, heads, jobs, staging, -, custody, -⟩ := countLate_keeps (s.indexed a)
  refine ⟨⟨s.engine.settleRun, s.engine.settleCount, ?_⟩, jobs, heads, cells, staging, store, custody,
    by rw [grid]; exact judged_eq a d s⟩
  rw [engine, ← cutting]
  rfl

theorem settled_decides {a : Nat} {d : Descriptor} {s : State} (early : s.engine.target.isSome = true → s.engine.late < 2) :
    Decides a d s (enterCutting (settled d (s.indexed a))) := by
  have engine := settled_engine early a d
  have custody : (settled d (s.indexed a)).custody = s.custody := (countLate_keeps (s.indexed a)).2.2.2.2.2.2.2.2.2.1
  have grid := settled_grid d (s.indexed a)
  obtain ⟨cells, store, heads, jobs, staging, -⟩ := settled_keeps d (s.indexed a)
  refine ⟨⟨_, _, congrArg (fun g : Engine => { g with state := .cutting }) engine⟩, jobs, heads, cells, staging, store,
    custody, ?_⟩
  · exact (congrArg (fun g : Grid => judgeSpeed d.texp d.speedTol g.lastPeriod) grid).trans (judged_eq a d s)

/-- A deciding index judges the revolution that has ended and decides the next one (R131, R135). -/
theorem exec_deciding {a : Nat} {d : Descriptor} {i : Fin 64} {s : State} (deciding : DecidingIndex a d i s) :
    ∃ y, Decides a d s y ∧ exec (.indexEvent a) s = .next (settle (decideRevolution d (judgeRevolution d y))) := by
  obtain ⟨outside, band, -, early, ⟨cutting, near⟩ | ⟨preparing, ready, arrived, run, inside⟩⟩ := deciding
  · have in_time := (countLate_early (s := s.indexed a) early).2
    have no_slip : ¬(indexClass s.grid.reference s.grid.position = .slip ∧ s.ringBeingCut = true) := fun both =>
      indexClass_not_slip (near ((ringBeingCut_iff s).mp both.2).2) both.1
    have given : s.indexGiven a = s.indexed a := if_neg no_slip
    refine ⟨_, countLate_decides cutting early, ?_⟩
    rw [exec_index outside, given, engineIndex_cutting (s := s.indexed a) band cutting]
    refine congrArg (fun t => Host.Outcome.next (settle t)) ?_
    exact (if_neg no_slip).trans (if_neg (by rw [in_time]; decide))
  · have in_time := (countLate_early (s := s.indexed a) early).2
    have engine := settled_engine early a d
    have run_next : settleRunNext a d s = 2 := by
      rw [settleRunNext, if_pos (show judged a d s = .inside from inside)]
      omega
    have settles : (settled d (s.indexed a)).engine.settleCount.isSome ∧ (settled d (s.indexed a)).engine.arrived ∧
        (settled d (s.indexed a)).engine.settleRun = 2 := by
      rw [engine]
      exact ⟨by simpa using ready, arrived, run_next⟩
    refine ⟨_, settled_decides early, ?_⟩
    rw [exec_index_without_slip outside (ringBeingCut_of_other (by rw [preparing]; decide)),
      engineIndex_preparing (s := s.indexed a) band preparing, preparingIndex_eq,
      if_neg (by rw [in_time]; decide), if_pos settles]

/-! ### The judgement (R135, step 3) -/

theorem judgeRevolution_inside {d : Descriptor} {s : State}
    (inside : judgeSpeed d.texp d.speedTol s.grid.lastPeriod = .inside) :
    judgeRevolution d s = s.modEngine fun g => { g with speedDev := 0 } := if_pos inside

theorem judgeRevolution_engine (d : Descriptor) (s : State) : (judgeRevolution d s).engine = { s.engine with
    speedDev := if judgeSpeed d.texp d.speedTol s.grid.lastPeriod = .inside then 0 else min 2 (s.engine.speedDev + 1) } := by
  have limit : Config.speedDevLimit = 2 := rfl
  unfold judgeRevolution
  dsimp only
  rw [limit]
  split
  · rfl
  · split <;> simp

theorem judgeRevolution_record {i : Fin 64} {s : State} (slot : s.engine.slot = some i) (d : Descriptor) :
    (judgeRevolution d s).jobs[i].record =
      if judgeSpeed d.texp d.speedTol s.grid.lastPeriod ≠ .inside ∧ s.engine.revPos = some .seam then
        { s.jobs[i].record with offSpeed := countUp s.jobs[i].record.offSpeed }
      else s.jobs[i].record := by
  unfold judgeRevolution
  dsimp only
  by_cases inside : judgeSpeed d.texp d.speedTol s.grid.lastPeriod = .inside
  · rw [if_pos inside, if_neg fun both => both.1 inside]
    rfl
  · rw [if_neg inside]
    by_cases seam : s.engine.revPos = some .seam
    · rw [if_pos seam, if_pos ⟨inside, seam⟩]
      exact congrArg JobSlot.record ((modRecord_job _ (postAll .speedDeviation s) i).trans (if_pos slot))
    · rw [if_neg seam, if_neg fun both => seam both.2]
      rfl

theorem judgeRevolution_pending {d : Descriptor} {s : State}
    (off : judgeSpeed d.texp d.speedTol s.grid.lastPeriod ≠ .inside) : PendingAll .speedDeviation (judgeRevolution d s) := by
  unfold judgeRevolution
  dsimp only
  rw [if_neg off]
  have posted := postAll_pendingAll .speedDeviation s
  split
  · exact posted.posted (.of_eq (by simp))
  · exact posted

/-! ### The data (R111, R117) -/

theorem dataReady_iff (d : Descriptor) (r : Nat) (s : State) : s.dataReady d r = true ↔ DataReady d r s := by
  have slot (x : RingSlot) : x.readyWith r = true ↔ ∃ tones check mark, x = .ready r tones check mark := by
    cases x <;> simp [RingSlot.readyWith]
  unfold State.dataReady DataReady
  rw [Bool.or_eq_true, beq_iff_eq, allHeads_iff]
  refine or_congr_right (forall_congr' fun h => ?_)
  simp only [HeadStaging.anySlot, Bool.or_eq_true, Bool.not_eq_true', slot, ← exists_or]
  exact ⟨fun out inSet => out.resolve_left (by rw [inSet]; decide), fun ready => by
    cases inSet : d.heads.get h with
    | false => exact .inl rfl
    | true => exact .inr (ready inSet)⟩

end Sys2Proof.Machine

end

section
/-! PROOFS. The decision of the coming revolution: an idle revolution or a hold (O13), and a cutting revolution (O12). -/

namespace Sys2Proof.Machine

/-! ### An idle revolution (R136) -/

theorem idled_jobs (noData : Bool) (x : State) :
    (idled noData x).jobs = (modRecord (fun r => { r with idleRevs := countUp r.idleRevs }) x).jobs := rfl

@[simp] theorem idled_keeps (noData : Bool) (x : State) :
    (idled noData x).cells = x.cells ∧ (idled noData x).store = x.store ∧ (idled noData x).heads = x.heads ∧
      (idled noData x).staging = x.staging ∧ (idled noData x).links = x.links := by
  simp [idled]

theorem idled_band (noData : Bool) (x : State) : (idled noData x).band = x.band := by
  refine State.band_of_engine ?_ ?_ fun i => modRecord_desc _ x i <;> rw [idled_engine]

theorem idled_record {x : State} {i : Fin 64} (slot : x.engine.slot = some i) (noData : Bool) :
    (idled noData x).jobs[i].record =
      { x.jobs[i].record with idleRevs := countUp x.jobs[i].record.idleRevs } :=
  congrArg JobSlot.record ((modRecord_job _ x i).trans (if_pos slot))

/-- The tests for a hold: an idle revolution holds the band or goes on (R136). -/
theorem beginIdle_cases (d : Descriptor) (noData : Bool) (x : State) :
    (∃ r, beginIdle d noData x = enterHeld r (idled noData x)) ∨ beginIdle d noData x = idled noData x := by
  rw [beginIdle_eq]
  split
  · exact .inl ⟨_, rfl⟩
  split
  · exact .inl ⟨_, rfl⟩
  split
  · exact .inl ⟨_, rfl⟩
  · exact .inr rfl

/-- The counters and requests of the engine after an idle revolution has begun, held or not. -/
theorem beginIdle_engine (d : Descriptor) (noData : Bool) (x : State) :
    (beginIdle d noData x).engine.speedDev = x.engine.speedDev ∧
      (beginIdle d noData x).engine.dataIdle = (if noData then min 255 (x.engine.dataIdle + 1) else x.engine.dataIdle) ∧
      (beginIdle d noData x).engine.late = x.engine.late ∧ (beginIdle d noData x).engine.target = x.engine.target ∧
      (beginIdle d noData x).engine.arrived = x.engine.arrived := by
  obtain ⟨r, held⟩ | goes_on := beginIdle_cases d noData x
  · rw [held, enterHeld_engine, idled_engine]
    exact ⟨rfl, rfl, rfl, rfl, rfl⟩
  · rw [goes_on, idled_engine]
    exact ⟨rfl, rfl, rfl, rfl, rfl⟩

theorem beginIdle_record {x : State} {i : Fin 64} (slot : x.engine.slot = some i) (d : Descriptor) (noData : Bool) :
    (beginIdle d noData x).jobs[i].record =
      { x.jobs[i].record with idleRevs := countUp x.jobs[i].record.idleRevs } := by
  rw [← idled_record slot noData]
  obtain ⟨r, held⟩ | goes_on := beginIdle_cases d noData x
  · rw [held]
    rfl
  · rw [goes_on]

theorem beginIdle_pending {e : EventKind} {x : State} (pending : PendingAll e x) (d : Descriptor) (noData : Bool) :
    PendingAll e (beginIdle d noData x) := by
  have same : PendingAll e (idled noData x) := pending.posted (.of_eq (by simp))
  obtain ⟨r, held⟩ | goes_on := beginIdle_cases d noData x
  · rw [held]
    exact same.posted (postAll_posted .bandHeld _)
  · rw [goes_on]
    exact same

/-- The three holds of an idle revolution in their order (R136, R141). -/
theorem beginIdle_holds {d : Descriptor} {s x : State} (noData : Bool) (band : x.band = some d) (store : x.store = s.store)
    (out : ∀ h, d.heads.get h = false → x.heads.get h = s.heads.get h)
    (set : ∀ h, d.heads.get h = true → (s.heads.get h).QuietedTo (x.heads.get h)) :
    if (settle (beginIdle d noData x)).engine.speedDev = 2 then Held .speed d s (settle (beginIdle d noData x))
    else if d.starve ≤ (settle (beginIdle d noData x)).engine.dataIdle then
      Held .starved d s (settle (beginIdle d noData x))
    else if x.engine.pause = true ∧ x.engine.target = none then Held .pauseRequest d s (settle (beginIdle d noData x))
    else beginIdle d noData x = idled noData x := by
  obtain ⟨speed, data, -⟩ := beginIdle_engine d noData x
  have speed_idled : (idled noData x).engine.speedDev = x.engine.speedDev := by rw [idled_engine]
  have data_idled : (idled noData x).engine.dataIdle =
      if noData then min 255 (x.engine.dataIdle + 1) else x.engine.dataIdle := by rw [idled_engine]
  have pause_idled : (idled noData x).engine.pause = x.engine.pause := by rw [idled_engine]
  have target_idled : (idled noData x).engine.target = x.engine.target := by rw [idled_engine]
  have equation := beginIdle_eq d noData x
  rw [speed_idled, ← speed, data_idled, ← data, pause_idled, target_idled] at equation
  have held (r : HoldReason) : Held r d s (settle (enterHeld r (idled noData x))) :=
    enterHeld_held r ((idled_band noData x).trans band) ((idled_keeps noData x).2.1.trans store)
      (fun h outside => by rw [(idled_keeps noData x).2.2.1, out h outside]) fun h inSet => by
        rw [(idled_keeps noData x).2.2.1]
        exact set h inSet
  have same : (settle (beginIdle d noData x)).engine = (beginIdle d noData x).engine := rfl
  rw [same]
  split
  · next fast =>
    rw [equation.trans (if_pos fast)]
    exact held .speed
  next slow =>
  split
  · next starved =>
    rw [equation.trans ((if_neg slow).trans (if_pos starved))]
    exact held .starved
  next fed =>
  split
  · next pause =>
    rw [equation.trans ((if_neg slow).trans ((if_neg fed).trans (if_pos pause)))]
    exact held .pauseRequest
  · next goes_on => exact equation.trans ((if_neg slow).trans ((if_neg fed).trans (if_neg goes_on)))

/-! ### The part at the decision -/

/-- The part after the judgement and with its set silenced, at which the revolution is decided. -/
def judgedAndSilenced (d : Descriptor) (y : State) : State := silenceSet (judgeRevolution d y)

/-- What the index at time `a` hands to the decision, `x`, of the part `s` that it found. -/
structure Judged (a : Nat) (d : Descriptor) (i : Fin 64) (s x : State) : Prop where
  engine : ∃ run count, x.engine =
    { s.engine with
      state := .cutting, late := s.lateNext, settleRun := run, settleCount := count
      speedDev := if judged a d s = .inside then 0 else min 2 (s.engine.speedDev + 1) }
  band : x.band = some d
  record : x.jobs[i].record =
    if judged a d s ≠ .inside ∧ s.engine.revPos = some .seam then
      { s.jobs[i].record with offSpeed := countUp s.jobs[i].record.offSpeed }
    else s.jobs[i].record
  jobs : judged a d s = .inside → x.jobs = s.jobs
  heads : x.heads = s.heads.mapH fun h u => if d.heads.get h then { u with drive := 0 } else u
  cells : x.cells = s.cells.mapH fun h c => if d.heads.get h then { c with prepared := none } else c
  staging : x.staging = s.staging
  store : x.store = s.store
  custody : x.custody = s.custody
  pending : judged a d s ≠ .inside → PendingAll .speedDeviation x

theorem Decides.judged {a : Nat} {d : Descriptor} {i : Fin 64} {s y : State} (decides : Decides a d s y)
    (band : s.band = some d) (slot : s.engine.slot = some i) : Judged a d i s (judgedAndSilenced d y) := by
  have current := (State.band_eq_some_iff.mp band).1
  obtain ⟨run, count, engine⟩ := decides.engine
  have y_slot : y.engine.slot = some i := by rw [engine]; exact slot
  have revPos : y.engine.revPos = s.engine.revPos := by rw [engine]
  have judged_engine := judgeRevolution_engine d y
  have judged_band : (judgeRevolution d y).band = some d := by
    refine (State.band_of_engine (s := y) ?_ ?_ fun j => ?_).trans ((decides.band current).trans band)
    · rw [judged_engine]
    · rw [judged_engine]
    · unfold judgeRevolution
      dsimp only
      repeat' split
      · rfl
      · exact modRecord_desc _ (postAll .speedDeviation y) j
      · rfl
  have silent := silenceSet_of_band judged_band
  have record := judgeRevolution_record y_slot d
  obtain ⟨-, -, -, cells, store, heads, staging, -, custody, -⟩ := judgeRevolution_keeps d y
  have judge := decides.judge
  refine ⟨⟨run, count, ?_⟩, judged_band, ?_, fun inside => ?_, ?_, ?_, staging.trans decides.staging, store.trans decides.store,
    custody.trans decides.custody, fun off => judgeRevolution_pending (by rw [judge]; exact off)⟩
  · have same : (judgedAndSilenced d y).engine = (judgeRevolution d y).engine := rfl
    rw [same, judged_engine, engine, judge]
  · rw [judge, revPos, decides.jobs] at record
    exact record
  · have same : (judgedAndSilenced d y).jobs = (judgeRevolution d y).jobs := rfl
    rw [same, judgeRevolution_inside (judge.trans inside)]
    exact decides.jobs
  · rw [judgedAndSilenced, silent, ← decides.heads, ← heads]
    rfl
  · rw [judgedAndSilenced, silent, ← decides.cells, ← cells]
    rfl

theorem Judged.slot {a : Nat} {d : Descriptor} {i : Fin 64} {s x : State} (at_x : Judged a d i s x)
    (slot : s.engine.slot = some i) : x.engine.slot = some i := by
  obtain ⟨run, count, engine⟩ := at_x.engine
  rw [engine]
  exact slot

theorem Judged.nextRing {a : Nat} {d : Descriptor} {i : Fin 64} {s x : State} (at_x : Judged a d i s x)
    (slot : s.engine.slot = some i) : x.nextRing = s.jobs[i].record.nextRing := by
  rw [nextRing_of_slot (at_x.slot slot), at_x.record]
  split <;> rfl

theorem Judged.dataReady {a : Nat} {d : Descriptor} {i : Fin 64} {s x : State} (at_x : Judged a d i s x)
    (slot : s.engine.slot = some i) : x.dataReady d x.nextRing = true ↔ DataReady d s.jobs[i].record.nextRing s := by
  rw [dataReady_iff, at_x.nextRing slot, DataReady, DataReady, at_x.staging]

theorem exec_judged {a : Nat} {d : Descriptor} {i : Fin 64} {s : State} (deciding : DecidingIndex a d i s) :
    ∃ x, Judged a d i s x ∧ exec (.indexEvent a) s = .next (settle (decideSilent d x)) := by
  obtain ⟨y, decides, run⟩ := exec_deciding deciding
  obtain ⟨-, band, slot, -⟩ := deciding
  exact ⟨_, decides.judged band slot, run⟩

/-- The decision: a cutting revolution when data, carriage and speed are in order, else an idle one (R136). -/
theorem decideSilent_idle {d : Descriptor} {x : State}
    (fails : x.dataReady d x.nextRing = false ∨ x.engine.arrived = false ∨ 0 < x.engine.speedDev) :
    decideSilent d x = beginIdle d (!x.dataReady d x.nextRing) x := by
  unfold decideSilent
  cases ready : x.dataReady d x.nextRing with
  | false => rfl
  | true =>
    cases arrived : x.engine.arrived with
    | false => rfl
    | true =>
      have deviates : 0 < x.engine.speedDev := by simpa [ready, arrived] using fails
      exact if_pos deviates

theorem decideSilent_cutting {d : Descriptor} {x : State} (ready : x.dataReady d x.nextRing = true)
    (arrived : x.engine.arrived = true) (speed : x.engine.speedDev = 0) : decideSilent d x = beginCutting d x := by
  unfold decideSilent
  rw [ready, arrived, speed]
  rfl

theorem mapH_set {α : Type} {d : Descriptor} {p q : PerHead α} {f : α → α}
    (map : q = p.mapH fun h u => if d.heads.get h then f u else u) (h : HeadId) :
    q.get h = if d.heads.get h then f (p.get h) else p.get h := by
  rw [map, PerHead.get_mapH]

/-- Settles O13. -/
theorem idleRevolutionBegins : Obligations.IdleRevolutionBegins := by
  intro s a d i deciding fails
  obtain ⟨x, at_x, run⟩ := exec_judged deciding
  obtain ⟨-, band, slot, -⟩ := deciding
  have ready := at_x.dataReady slot
  have x_slot := at_x.slot slot
  obtain ⟨settleRun, count, engine⟩ := at_x.engine
  have idle : decideSilent d x = beginIdle d (!x.dataReady d x.nextRing) x := by
    refine decideSilent_idle ?_
    obtain missing | away | off := fails
    · exact .inl (Bool.eq_false_iff.mpr fun has => missing (ready.mp has))
    · exact .inr (.inl (by rw [engine]; exact away))
    · refine .inr (.inr ?_)
      rw [engine]
      dsimp only
      rw [if_neg off]
      omega
  rw [idle] at run
  obtain ⟨speedDev, dataIdle, late, target, arrived⟩ := beginIdle_engine d (!x.dataReady d x.nextRing) x
  have record := beginIdle_record x_slot d (!x.dataReady d x.nextRing)
  obtain ⟨-, -, -, cells, store, staging, -⟩ := beginIdle_keeps d (!x.dataReady d x.nextRing) x
  have holds := beginIdle_holds (s := s) (!x.dataReady d x.nextRing) at_x.band at_x.store
    (fun h out => (mapH_set at_x.heads h).trans (if_neg (by rw [out]; decide)))
    fun h inSet => .inr ((mapH_set at_x.heads h).trans (if_pos inSet))
  have x_speedDev : x.engine.speedDev = if judged a d s = .inside then 0 else min 2 (s.engine.speedDev + 1) := by rw [engine]
  have x_dataIdle : x.engine.dataIdle = s.engine.dataIdle := by rw [engine]
  have x_pause : x.engine.pause = s.engine.pause := by rw [engine]
  have x_target : x.engine.target = s.engine.target := by rw [engine]
  refine ⟨_, run, speedDev.trans x_speedDev, fun has => ?_, fun missing => ?_, ?_, target.trans x_target, ?_, ?_, ?_, ?_,
    fun off => (beginIdle_pending (at_x.pending off) _ _).settle, staging.trans at_x.staging, store.trans at_x.store,
    cells.trans at_x.cells, ?_⟩
  · refine dataIdle.trans ?_
    rw [ready.mpr has, x_dataIdle]
    rfl
  · have none_ : x.dataReady d x.nextRing = false := Bool.eq_false_iff.mpr fun has => missing (ready.mp has)
    refine dataIdle.trans ?_
    rw [none_, x_dataIdle]
    rfl
  · refine late.trans ?_
    rw [engine]
    rfl
  · refine arrived.trans ?_
    rw [engine]
  · refine (congrArg StatusRecord.idleRevs record).trans ?_
    rw [at_x.record]
    split <;> rfl
  · refine (congrArg StatusRecord.offSpeed record).trans ?_
    rw [at_x.record]
    dsimp only
    split <;> rfl
  · refine (congrArg StatusRecord.nextRing record).trans ?_
    rw [at_x.record]
    dsimp only
    split <;> rfl
  · rw [x_pause, x_target] at holds
    split
    · next fast => exact ((if_pos fast).mp holds)
    next slow =>
    rw [if_neg slow] at holds
    split
    · next starved => exact ((if_pos starved).mp holds)
    next fed =>
    rw [if_neg fed] at holds
    split
    · next pause => exact ((if_pos pause).mp holds)
    · next goes_on =>
      rw [if_neg goes_on] at holds
      have idled_is := idled_engine (!x.dataReady d x.nextRing) x
      have kept : (settle (beginIdle d (!x.dataReady d x.nextRing) x)).engine = _ :=
        (congrArg State.engine holds).trans idled_is
      rw [kept, engine]
      refine ⟨rfl, rfl, rfl, ?_⟩
      refine (congrArg State.heads holds).trans ?_
      rw [(idled_keeps _ x).2.2.1, at_x.heads]

end Sys2Proof.Machine

end

section
/-! PROOFS. A cutting revolution begins (O12). -/

namespace Sys2Proof.Machine

/-! ### The synthesised ring (R81, R117) -/

theorem patchTones_length (ps : List Patch) : (patchTones ps).length = (ps.map fun p => p.length).sum := by
  simp [patchTones, List.length_flatMap]

theorem synthRing_length {d : Descriptor} (short : (d.patches.map fun p => p.length).sum ≤ d.cut) :
    (synthRing d).length = d.cut := by
  rw [synthRing, List.length_append, List.length_replicate, patchTones_length]
  omega

theorem tone_after_patches (k n : Nat) (ps : List Patch) (tones : ∀ p ∈ ps, p.tone ≤ 255) :
    ((patchTones ps ++ List.replicate k 0#8).getD n 0#8).toNat = patchTone ps n := by
  induction ps generalizing n with
  | nil =>
    rw [List.getD_eq_getElem?_getD, patchTones, List.flatMap_nil, List.nil_append, List.getElem?_replicate, patchTone]
    split <;> rfl
  | cons p rest ih =>
    have later := ih (n - p.length) fun q mem => tones q (List.mem_cons_of_mem p mem)
    have cut : patchTones (p :: rest) ++ List.replicate k 0#8 =
        List.replicate p.length (BitVec.ofNat 8 p.tone) ++ (patchTones rest ++ List.replicate k 0#8) := by
      simp [patchTones, List.flatMap_cons]
    rw [List.getD_eq_getElem?_getD] at later ⊢
    rw [cut, patchTone]
    by_cases within : n < p.length
    · have small : p.tone < 2 ^ 8 := Nat.lt_succ_of_le (tones p (List.mem_cons_self ..))
      rw [if_pos within, List.getElem?_append_left (by rw [List.length_replicate]; exact within), List.getElem?_replicate,
        if_pos within, Option.getD_some, BitVec.toNat_ofNat, Nat.mod_eq_of_lt small]
    · rw [if_neg within, List.getElem?_append_right (by rw [List.length_replicate]; omega), List.length_replicate]
      exact later

theorem synthRing_tone {d : Descriptor} (tones : ∀ p ∈ d.patches, p.tone ≤ 255) (n : Nat) :
    ((synthRing d).getD n 0#8).toNat = patchTone d.patches n := tone_after_patches _ n d.patches tones

theorem takeRing_testCut {d : Descriptor} (kind : d.kind = .testCut) (r : Nat) (x : State) :
    (takeRing d r x).staging = { x.staging with synth := some (synthRing d) } := by
  unfold takeRing
  rw [kind]
  rfl

/-! ### The hand-over of a ring (R111) -/

theorem toCutting_eq (r : Nat) (x : RingSlot) : x.toCutting r = takenForCutting r x := by cases x <;> rfl

theorem taken_of_set {d : Descriptor} (engraves : d.kind ≠ .testCut) {x : State} (band : x.band = some d) (r : Nat)
    (h : HeadId) :
    ((takeRing d r x).staging.heads.get h).nf = (x.staging.heads.get h).nf ∧
      ((takeRing d r x).staging.heads.get h).slotA =
        (if d.heads.get h then takenForCutting r (x.staging.heads.get h).slotA else (x.staging.heads.get h).slotA) ∧
      ((takeRing d r x).staging.heads.get h).slotB =
        (if d.heads.get h then takenForCutting r (x.staging.heads.get h).slotB else (x.staging.heads.get h).slotB) := by
  rw [takeRing_head band]
  by_cases inSet : d.heads.get h = true
  · rw [if_pos ⟨inSet, engraves⟩, if_pos inSet, if_pos inSet, ← toCutting_eq, ← toCutting_eq]
    exact ⟨rfl, rfl, rfl⟩
  · rw [if_neg fun both => inSet both.1, if_neg inSet, if_neg inSet]
    exact ⟨rfl, rfl, rfl⟩

/-! ### The cells (R23, R31) -/

/-- The cell unit at the index that begins a cutting revolution (R23, R31). -/
theorem beginCutting_cells (d : Descriptor) (x : State) (h : HeadId) :
    (beginCutting d x).cells.get h =
      if d.heads.get h then
        ⟨wearTerm (x.params h) (x.heads.get h).stylus,
          some (cellOf (beginCutting d x).staging x.store d h (wearTerm (x.params h) (x.heads.get h).stylus) 0)⟩
      else x.cells.get h := by
  have heads : (takeRing d x.nextRing x).heads = x.heads := by simp
  have store : (takeRing d x.nextRing x).store = x.store := by simp
  have cells : (takeRing d x.nextRing x).cells = x.cells := by simp
  rw [beginCutting_staging, ← store, ← cells]
  have at_h := startCells_cell d
    ((takeRing d x.nextRing x).modEngine fun g => { g with dataIdle := 0, revPos := some .cut }) h
  rw [formCell_eq_cellOf] at at_h
  rw [beginCutting_eq, at_h]
  have params : ((takeRing d x.nextRing x).modEngine fun g => { g with dataIdle := 0, revPos := some .cut }).params h =
      x.params h := congrArg (fun t : Store => (t.params.get h).active) store
  have stylus : ((takeRing d x.nextRing x).modEngine fun g => { g with dataIdle := 0, revPos := some .cut }).heads =
      x.heads := heads
  rw [params, stylus]
  rfl

/-- Settles O12. -/
theorem cuttingRevolutionBegins : Obligations.CuttingRevolutionBegins := by
  intro s a d i deciding arrived inside has
  obtain ⟨x, at_x, run⟩ := exec_judged deciding
  obtain ⟨-, band, slot, -⟩ := deciding
  have ready := (at_x.dataReady slot).mpr has
  obtain ⟨settleRun, count, engine⟩ := at_x.engine
  rw [if_pos inside] at engine
  have cutting : decideSilent d x = beginCutting d x :=
    decideSilent_cutting ready (by rw [engine]; exact arrived) (by rw [engine])
  rw [cutting] at run
  obtain ⟨-, -, -, store, heads, jobs, -, custody, -⟩ := beginCutting_keeps d x
  have begun := beginCutting_engine d x
  have staging := beginCutting_staging d x
  rw [at_x.nextRing slot] at staging
  have cell := beginCutting_cells d x
  have stylus (h : HeadId) : (x.heads.get h).stylus = (s.heads.get h).stylus := by
    rw [mapH_set at_x.heads h]
    split <;> rfl
  have params (h : HeadId) : x.params h = s.params h := congrArg (fun t : Store => (t.params.get h).active) at_x.store
  generalize beginCutting d x = t at *
  have state : t.engine.state = .cutting := by rw [begun, engine]
  have speed : t.engine.speedDev = 0 := by rw [begun, engine]
  refine ⟨_, run, state, congrArg Engine.revPos begun, congrArg Engine.dataIdle begun, speed, jobs.trans (at_x.jobs inside),
    fun kind fits => ?_, fun engraves => ?_, fun h inSet => ?_, fun h out => ?_, heads.trans at_x.heads,
    store.trans at_x.store, custody.trans at_x.custody⟩
  · obtain ⟨-, -, -, -, -, -, -, -, -, -, -, -, -, -, -, -, -, -, -, -, -, -, -, -, -, patches, short⟩ := fits
    refine ⟨synthRing d, ?_, synthRing_length short, fun n _ => synthRing_tone (fun p mem => (patches p mem).2.1) n⟩
    rw [← at_x.staging]
    exact staging.trans (takeRing_testCut kind _ x)
  · have taken := taken_of_set engraves at_x.band s.jobs[i].record.nextRing
    rw [← staging, at_x.staging] at taken
    refine ⟨?_, taken⟩
    rw [← at_x.staging]
    exact (congrArg Staging.synth staging).trans (takeRing_synth engraves _ x)
  · have at_h := (cell h).trans (if_pos inSet)
    have wear : (t.cells.get h).wear = wearTerm (s.params h) (s.heads.get h).stylus := by
      rw [at_h, params, stylus]
    refine ⟨wear, (congrArg CellUnit.prepared at_h).trans ?_⟩
    have same : (settle t).cells = t.cells := rfl
    rw [same, wear, ← at_x.store, params, stylus]
    rfl
  · have outside : ¬d.heads.get h = true := by rw [out]; decide
    exact (cell h).trans ((if_neg outside).trans ((mapH_set at_x.cells h).trans (if_neg outside)))

end Sys2Proof.Machine

end

section
/-! SUPPORT. What the end of a ring, a band or a hold brings about falls only: drive outputs go to 0, prepared cells and
CUTTING slots to EMPTY, the synthesised ring is removed, and RING_FREED is not posted again. -/

namespace Sys2Proof.Machine

/-- From `s` to `t` drive outputs, prepared cells, CUTTING slots and the synthesised ring fall or stand, and RING_FREED
stands in every event set. -/
structure WindsDown (s t : State) : Prop where
  heads : HeadsStep s t
  ring : ∀ h, (t.staging.heads.get h).cuttingRing = (s.staging.heads.get h).cuttingRing ∨
    (t.staging.heads.get h).cuttingRing = none
  synth : t.staging.synth = s.staging.synth ∨ t.staging.synth = none
  up : ∀ l, (t.links.get l).up = (s.links.get l).up
  freed : ∀ l, (t.links.get l).events.has .ringFreed = (s.links.get l).events.has .ringFreed

theorem WindsDown.of_heads {s t : State} (heads : HeadsStep s t) (staging : t.staging = s.staging) (links : t.links = s.links) :
    WindsDown s t where
  heads := heads
  ring h := .inl (by rw [staging])
  synth := .inl (by rw [staging])
  up l := by rw [links]
  freed l := by rw [links]

theorem WindsDown.of_eq {s t : State} (heads : t.heads = s.heads) (cells : t.cells = s.cells)
    (staging : t.staging = s.staging) (links : t.links = s.links) : WindsDown s t :=
  .of_heads (.of_eq heads cells) staging links

theorem WindsDown.rfl {s : State} : WindsDown s s := .of_eq (Eq.refl _) (Eq.refl _) (Eq.refl _) (Eq.refl _)

theorem WindsDown.trans {s t u : State} (a : WindsDown s t) (b : WindsDown t u) : WindsDown s u where
  heads := a.heads.trans b.heads
  ring h := (b.ring h).elim (fun same => same ▸ a.ring h) .inr
  synth := b.synth.elim (fun same => same ▸ a.synth) .inr
  up l := (b.up l).trans (a.up l)
  freed l := (b.freed l).trans (a.freed l)

theorem WindsDown.of_staging {s t : State} (heads : t.heads = s.heads) (cells : t.cells = s.cells)
    (ring : ∀ h, (t.staging.heads.get h).cuttingRing = (s.staging.heads.get h).cuttingRing ∨
      (t.staging.heads.get h).cuttingRing = none)
    (synth : t.staging.synth = s.staging.synth ∨ t.staging.synth = none) (links : t.links = s.links) : WindsDown s t where
  heads := .of_eq heads cells
  ring := ring
  synth := synth
  up l := by rw [links]
  freed l := by rw [links]

theorem WindsDown.emptied {s t : State} (heads : t.heads = s.heads) (cells : t.cells = s.cells)
    (staging : t.staging = Staging.reset) (links : t.links = s.links) : WindsDown s t :=
  .of_staging heads cells (fun h => .inr (by rw [staging, Staging.reset_head]; exact Eq.refl _))
    (.inr (by rw [staging]; exact Eq.refl _)) links

/-! ### Posts and transmissions (R179, R180) -/

theorem postAll_windsDown {e : EventKind} (other : .ringFreed ≠ e) (s : State) : WindsDown s (postAll e s) where
  heads := .of_eq (Eq.refl _) (Eq.refl _)
  ring _ := .inl (Eq.refl _)
  synth := .inl (Eq.refl _)
  up l := postAll_up e s l
  freed l := by
    have at_l : (postAll e s).links.get l = (s.links.get l).post e := PerLink.get_mapL _ _ _
    have differs : (EventKind.ringFreed == e) = false := beq_false_of_ne other
    rw [at_l, LinkUnit.post_has, differs, Bool.and_false, Bool.or_false]

theorem LinkUnit.transmit_events (u : LinkUnit) : u.transmit.events = u.events ∧ u.transmit.up = u.up := by
  unfold LinkUnit.transmit
  repeat' split
  all_goals exact ⟨rfl, rfl⟩

theorem settle_windsDown (s : State) : WindsDown s (settle s) := by
  have at_l (l : LinkId) : (settle s).links.get l = (s.links.get l).transmit := PerLink.get_mapL _ _ _
  exact {
    heads := .of_eq rfl rfl
    ring := fun _ => .inl rfl
    synth := .inl rfl
    up := fun l => by rw [at_l, (LinkUnit.transmit_events _).2]
    freed := fun l => by rw [at_l, (LinkUnit.transmit_events _).1] }

/-! ### The transitions at the end of a band (R113, R118, R130, R143, R144, R145) -/

theorem modRecord_windsDown (f : StatusRecord → StatusRecord) (s : State) : WindsDown s (modRecord f s) :=
  .of_eq (by simp) (by simp) (by simp) (by simp)

theorem dropRing_windsDown (s : State) : WindsDown s (dropRing s) := by
  refine .of_staging (by simp) (by simp) (fun h => ?_) (.inr rfl) (by simp)
  rw [dropRing_head]
  split
  · exact .inr (HeadStaging.cuttingRing_freeCutting _)
  · exact .inl rfl

theorem toEnding_windsDown (o : BandOutcome) (c : Option EndCause) (h : Option HeadId) (s : State) :
    WindsDown s (toEnding o c h s) :=
  .of_heads (toEnding_headsStep o c h s) (toEnding_staging o c h s) (by simp)

theorem enterEnded_windsDown {e : EventKind} (other : .ringFreed ≠ e) (s : State) : WindsDown s (enterEnded e s) :=
  WindsDown.trans (t := (endCurrency s).modEngine fun g => { g with state := .ended, ring := none })
    (.emptied (by simp) (by simp) rfl (by simp)) (postAll_windsDown other _)

theorem leaveEndingPlain_windsDown (s : State) : WindsDown s (leaveEndingPlain s) := by
  unfold leaveEndingPlain
  split
  · exact enterEnded_windsDown (by decide) s
  · exact .rfl

theorem postDueStall_windsDown (s : State) : WindsDown s (postDueStall s) := by
  unfold postDueStall
  split
  · refine WindsDown.trans ?_ (postAll_windsDown (by decide) _)
    split
    · exact postAll_windsDown (by decide) s
    · exact .rfl
  · exact .rfl

theorem markPartial_windsDown (s : State) : WindsDown s (markPartial s) := by
  unfold markPartial
  split
  · exact modRecord_windsDown _ s
  · exact .rfl

theorem silenceSet_windsDown (s : State) : WindsDown s (silenceSet s) := .of_heads (silenceSet_headsStep s) rfl rfl

theorem abort_windsDown (c : EndCause) (h : Option HeadId) (s : State) : WindsDown s (abort c h s) := by
  rw [abort_eq]
  split
  · rw [abortEntry_eq]
    exact (postDueStall_windsDown s).trans ((markPartial_windsDown _).trans ((silenceSet_windsDown _).trans
      ((dropRing_windsDown _).trans ((toEnding_windsDown _ _ _ _).trans (leaveEndingPlain_windsDown _)))))
  · exact .rfl

theorem stopBand_windsDown (c : StopCause) (s : State) : WindsDown s (stopBand c s) :=
  (toEnding_windsDown _ _ _ s).trans (leaveEndingPlain_windsDown _)

theorem lowerSet_windsDown (s : State) : WindsDown s (lowerSet s) := by
  refine .of_heads ⟨fun h => ?_, fun _ => .inl rfl⟩ rfl rfl
  have at_h : (lowerSet s).heads.get h =
      if s.headInUse h then (s.heads.get h).lower s.now (s.params h) else s.heads.get h := PerHead.get_mapH _ _ _
  rw [at_h]
  split
  · exact .lower _ _ _
  · exact .rfl _

theorem placeCarriage_windsDown (d : Descriptor) (s : State) : WindsDown s (placeCarriage d s) :=
  .of_eq (by simp) (by simp) (by simp) (by simp)

theorem requestCarriage_windsDown (d : Descriptor) (s : State) : WindsDown s (requestCarriage d s) :=
  .of_eq (by simp) (by simp) (by simp) (by simp)

theorem prepareActions_windsDown (d : Descriptor) (s : State) : WindsDown s (prepareActions d s) := by
  rw [prepareActions_eq]
  refine WindsDown.trans ?_ (placeCarriage_windsDown d _)
  unfold lowered
  split
  · exact .of_eq rfl rfl rfl rfl
  · exact (lowerSet_windsDown s).trans (.of_eq rfl rfl rfl rfl)

theorem enterPreparing_windsDown (chained : Bool) (s : State) : WindsDown s (enterPreparing chained s) := by
  have entered : WindsDown s (s.modEngine fun g => { g with state := .preparing, hold := none }) :=
    .of_eq rfl rfl rfl rfl
  unfold enterPreparing
  dsimp only
  generalize s.modEngine _ = t at entered ⊢
  repeat' split
  · exact entered.trans (abort_windsDown _ _ _)
  · exact entered.trans (abort_windsDown _ _ _)
  · exact entered.trans (stopBand_windsDown _ _)
  · exact entered.trans (prepareActions_windsDown _ _)
  · exact entered

theorem armSlot_windsDown (m : Fin 64) (d : Descriptor) (restart : Bool) (s : State) :
    WindsDown s (awaitIndex (armSlot m d restart s)) := by
  refine .of_staging rfl rfl (fun h => .inl ?_) (.inl rfl) rfl
  cases h <;> rfl

theorem endCurrency_windsDown (s : State) : WindsDown s (endCurrency s) :=
  .emptied (by simp) (by simp) rfl (by simp)

theorem chain_windsDown (m : Fin 64) (s : State) : WindsDown s (chain m s) := by
  unfold chain
  dsimp only
  split
  · exact (endCurrency_windsDown s).trans ((armSlot_windsDown m _ true _).trans (enterPreparing_windsDown true _))
  · exact enterEnded_windsDown (e := .chainStopped) (by decide) s

theorem leaveEnding_windsDown (s : State) : WindsDown s (leaveEnding s) := by
  unfold leaveEnding
  split
  · split
    · split
      · exact chain_windsDown _ s
      · exact enterEnded_windsDown (by decide) s
    · exact enterEnded_windsDown (by decide) s
  · exact .rfl

theorem enterHeld_windsDown (r : HoldReason) (s : State) : WindsDown s (enterHeld r s) :=
  WindsDown.trans (t := (liftSet s).modEngine fun g =>
      { g with state := .held, hold := some r, pause := false, revPos := none, settleCount := none })
    (.of_heads ((liftSet_headsStep s).trans (.of_eq rfl rfl)) rfl rfl) (postAll_windsDown (by decide) _)

/-- Everything that can follow the end of a ring winds down (R138). -/
theorem boundaryL_windsDown (d : Descriptor) (s : State) : WindsDown (ringEnded d s) (boundaryL d s) := by
  rw [boundaryL_eq]
  repeat' split
  · exact (toEnding_windsDown _ _ _ _).trans (leaveEnding_windsDown _)
  · exact stopBand_windsDown _ _
  · exact enterHeld_windsDown _ _
  · exact enterHeld_windsDown _ _
  · exact requestCarriage_windsDown _ _

end Sys2Proof.Machine

end

section
/-! PROOFS. Boundary L ends the ring (O10). -/

namespace Sys2Proof.Machine

/-! ### The part after the ring has ended (R33, R113, R138) -/

/-- `y` is the part after boundary L of the cutting revolution of `s`, before anything follows the ring. -/
structure RingDone (i : Fin 64) (d : Descriptor) (s y : State) : Prop where
  engine : y.engine = { s.engine with ring := some (s.jobs[i].record.nextRing + 1), revPos := some .seam }
  band : y.band = some d
  record : y.jobs[i].record = s.jobs[i].record.ringDone
  job : ∀ m : Fin 64, m ≠ i → y.jobs[m] = s.jobs[m]
  out : ∀ h, d.heads.get h = false → y.heads.get h = s.heads.get h
  set : ∀ h, d.heads.get h = true → y.heads.get h = { s.heads.get h with drive := 0 }
  silent : ∀ h, d.heads.get h = true → (y.cells.get h).prepared = none ∧ (y.staging.heads.get h).cuttingRing = none
  synth : y.staging.synth = none
  store : y.store = s.store
  cutAbort : y.sup.cutAbort = s.sup.cutAbort
  up : ∀ l, (y.links.get l).up = (s.links.get l).up
  freed : d.kind ≠ .testCut → PendingAll .ringFreed y
  unfreed : d.kind = .testCut → y.links = s.links

theorem RingDone.slot {i : Fin 64} {d : Descriptor} {s y : State} (done : RingDone i d s y)
    (slot : s.engine.slot = some i) : y.engine.slot = some i := by
  rw [done.engine]
  exact slot

theorem ringEnded_links (d : Descriptor) (s : State) :
    (ringEnded d s).links = if d.kind = .testCut then s.links else (postAll .ringFreed s).links := by
  have dropped : (dropRing (silenceSet s)).links = s.links := by simp
  unfold ringEnded
  split
  · simp
  · simp only [State.modEngine_links, modRecord_keeps]
    exact congrArg (fun l : PerLink LinkUnit => l.mapL fun _ u => LinkUnit.post .ringFreed u) dropped

theorem ringEnded_sup (d : Descriptor) (s : State) : (ringEnded d s).sup = s.sup := by
  unfold ringEnded
  split <;> simp

theorem ringEnded_done {s : State} {d : Descriptor} {i : Fin 64} (band : s.band = some d) (slot : s.engine.slot = some i)
    (a : Nat) : RingDone i d s (ringEnded d (movedToBoundary a d s)) := by
  have moved_slot : (movedToBoundary a d s).engine.slot = some i := slot
  have moved_band : (movedToBoundary a d s).band = some d := band
  have inUse := headInUse_of_band moved_band
  obtain ⟨heads, cells⟩ := ringEnded_heads d (movedToBoundary a d s)
  have staging := ringEnded_staging d (movedToBoundary a d s)
  have links := ringEnded_links d (movedToBoundary a d s)
  have job (m : Fin 64) := (ringEnded_job d (movedToBoundary a d s) m).trans (modRecord_job _ _ m)
  refine ⟨?_, (ringEnded_band d _).trans band, congrArg JobSlot.record ((job i).trans (if_pos moved_slot)),
    fun m other => (job m).trans (if_neg ?_), fun h out => ?_, fun h inSet => ?_, fun h inSet => ⟨?_, ?_⟩, ?_,
    ringEnded_store d _, ?_, fun l => ?_, fun engraves => ?_, fun kind => links.trans (if_pos kind)⟩
  · rw [ringEnded_engine, nextRing_of_slot moved_slot]
    rfl
  · exact fun same => other (Option.some.inj (same.symm.trans slot))
  · rw [heads, silenceSet_head, inUse, out]
    rfl
  · rw [heads, silenceSet_head, inUse, inSet]
    rfl
  · rw [cells, silenceSet_cell, inUse, inSet]
    rfl
  · have used : (silenceSet (movedToBoundary a d s)).headInUse h = true := (inUse h).trans inSet
    rw [staging, dropRing_head, if_pos used]
    exact HeadStaging.cuttingRing_freeCutting _
  · rw [staging]
    rfl
  · rw [ringEnded_sup]
    rfl
  · rw [links]
    split
    · rfl
    · exact postAll_up .ringFreed (movedToBoundary a d s) l
  · intro l
    rw [links, if_neg engraves]
    exact postAll_pendingAll .ringFreed (movedToBoundary a d s) l

/-! ### What winds down from there -/

theorem WindsDown.quiet {i : Fin 64} {d : Descriptor} {s y t : State} (winds : WindsDown y t) (done : RingDone i d s y)
    {h : HeadId} (inSet : d.heads.get h = true) :
    (t.heads.get h).drive = 0 ∧ (t.cells.get h).prepared = none ∧ (t.staging.heads.get h).cuttingRing = none := by
  obtain ⟨empty, free⟩ := done.silent h inSet
  refine ⟨(winds.heads.head h).drive.elim (fun same => same.trans ?_) id,
    (winds.heads.cell h).elim (fun same => same.trans empty) id, (winds.ring h).elim (fun same => same.trans free) id⟩
  rw [done.set h inSet]

theorem WindsDown.pending {s t : State} (winds : WindsDown s t) (pending : PendingAll .ringFreed s) :
    PendingAll .ringFreed t := fun l up => (winds.freed l).trans (pending l ((winds.up l).symm.trans up))

/-! ### The end of the band at boundary L (R89, R138, R140, R144, R145) -/

section
variable {o : BandOutcome} {c : Option EndCause} {i : Fin 64} {d : Descriptor} {s y : State}

theorem StatusRecord.endRun_progress (r : StatusRecord) :
    r.endRun.nextRing = r.nextRing ∧ r.endRun.ringsCut = r.ringsCut ∧ r.endRun.cause = r.cause ∧
      r.endRun.faultedHead = r.faultedHead := by
  unfold StatusRecord.endRun
  split <;> exact ⟨rfl, rfl, rfl, rfl⟩

/-- The record of a band that has left ENDING is its own with the run ended, also when the band has chained (R145). -/
theorem leaveEnding_record (ending : s.engine.state = .ending) (band : s.band = some d) (slot : s.engine.slot = some i)
    (outcome : s.jobs[i].record.outcome = some o) (rest : d.atRest s = true) :
    (leaveEnding s).jobs[i].record = s.jobs[i].record.endRun := by
  obtain ⟨plain, chains⟩ := leaveEnding_rest ending band slot outcome rest
  by_cases chain_ : o = .complete ∧ ∃ m, d.nextSlot = some m
  · obtain ⟨complete, m, next⟩ := chain_
    rw [chains m complete next]
    cases fit : (endCurrency s).qualifies m with
    | false =>
      rw [chain_stops fit]
      exact enterEnded_record _ slot
    | true =>
      obtain ⟨e, desc, phase, -, lifted, -⟩ := qualifies_iff.mp fit
      have away : m ≠ i := by
        rintro rfl
        rw [endCurrency_record slot, StatusRecord.endRun_outcome outcome, complete] at phase
        cases phase
      obtain ⟨-, -, same⟩ := chain_continued away desc fit fun h used => by
        rw [← endCurrency_heads]
        exact (lifted h used).2
      rw [same, endCurrency_record slot]
  · have ends : leaveEnding s = enterEnded .bandEnded s := plain (by
      by_contra both
      push Not at both
      exact chain_ ⟨both.1, Option.ne_none_iff_exists'.mp both.2⟩)
    rw [ends]
    exact enterEnded_record _ slot

theorem leaveEnding_progress (ending : s.engine.state = .ending) (band : s.band = some d) (slot : s.engine.slot = some i)
    (outcome : s.jobs[i].record.outcome = some o) :
    (leaveEnding s).jobs[i].record.nextRing = s.jobs[i].record.nextRing ∧
      (leaveEnding s).jobs[i].record.ringsCut = s.jobs[i].record.ringsCut ∧
      (leaveEnding s).jobs[i].record.cause = s.jobs[i].record.cause ∧
      (leaveEnding s).jobs[i].record.faultedHead = s.jobs[i].record.faultedHead := by
  cases rest : d.atRest s with
  | true =>
    rw [leaveEnding_record ending band slot outcome rest]
    exact StatusRecord.endRun_progress _
  | false =>
    rw [leaveEnding_waiting band rest]
    exact ⟨rfl, rfl, rfl, rfl⟩

/-- The band that `y` enters ENDING with. -/
theorem toEnding_facts (band : y.band = some d) (slot : y.engine.slot = some i) (current : y.engine.state.isCurrent = true) :
    (toEnding o c none y).engine.state = .ending ∧ (toEnding o c none y).band = some d ∧
      (toEnding o c none y).engine.slot = some i ∧
      (toEnding o c none y).jobs[i].record = y.jobs[i].record.withOutcome o c none :=
  ⟨by rw [toEnding_engine], (toEnding_band o c none current).trans band, by rw [toEnding_engine]; exact slot,
    toEnding_record o c none slot⟩

/-- A stop of the band leaves ENDING as every end of a band does: only a COMPLETE band chains (R145). -/
theorem stopBand_eq_leaveEnding {k : StopCause} (band : y.band = some d) (slot : y.engine.slot = some i)
    (current : y.engine.state.isCurrent = true) :
    stopBand k y = leaveEnding (toEnding .stopped (some k.endCause) none y) := by
  obtain ⟨ending, band', slot', record⟩ := toEnding_facts (o := .stopped) (c := some k.endCause) band slot current
  have outcome : (toEnding .stopped (some k.endCause) none y).jobs[i].record.outcome = some .stopped := by rw [record]; rfl
  have at_rest := setAtRest_of_band band'
  unfold stopBand leaveEndingPlain
  generalize toEnding .stopped (some k.endCause) none y = z at *
  cases rest : d.atRest z with
  | true => rw [if_pos ⟨ending, at_rest.trans rest⟩, (leaveEnding_rest ending band' slot' outcome rest).1 (.inl (by decide))]
  | false =>
    have busy : ¬(z.engine.state = .ending ∧ z.setAtRest = true) := fun both => by
      rw [at_rest, rest] at both
      cases both.2
    rw [if_neg busy, leaveEnding_waiting band' rest]

theorem toEnding_state (done : RingDone i d s y) (ok : HeadsOk s) {h : HeadId} (inSet : d.heads.get h = true) :
    ((toEnding o c none y).heads.get h).state = (liftedHead y.now (y.params h) (s.heads.get h)).state := by
  have quiet : (s.heads.get h).QuietedTo (y.heads.get h) := .inr (done.set h inSet)
  rw [toEnding_heads, liftSet_head_of_band done.band (quiet.ok (headsOk_iff.mp ok h).ok) inSet, quiet.lifted]

theorem Descriptor.atRest_iff (t : State) :
    d.atRest t = true ↔ ∀ h, d.heads.get h = true → (t.heads.get h).state.atRest = true := by
  unfold Descriptor.atRest
  rw [allHeads_iff]
  refine forall_congr' fun h => ?_
  cases d.heads.get h <;> simp

/-- A head of the set that is ENGAGED or LIFTING keeps the band in ENDING (R144). -/
theorem toEnding_busy (done : RingDone i d s y) (ok : HeadsOk s)
    (moves : ∃ h, d.heads.get h = true ∧ ((s.heads.get h).state = .engaged ∨ (s.heads.get h).state = .lifting)) :
    d.atRest (toEnding o c none y) = false := by
  obtain ⟨h, inSet, moving⟩ := moves
  obtain ⟨-, -, engaged, still⟩ := liftedHead_facts y.now (y.params h) (s.heads.get h)
  have lifting : ((toEnding o c none y).heads.get h).state = .lifting := by
    rw [toEnding_state done ok inSet]
    obtain down | up := moving
    · exact engaged down
    · exact (still (by rw [up]; decide) (by rw [up]; decide)).trans up
  refine Bool.eq_false_iff.mpr fun rest => ?_
  have at_rest := (Descriptor.atRest_iff _).mp rest h inSet
  rw [lifting] at at_rest
  cases at_rest

/-- Heads at rest stay as they are at the entry to ENDING (R64, R144). -/
theorem toEnding_still (done : RingDone i d s y) (ok : HeadsOk s) (rest : d.atRest s = true) (h : HeadId) :
    ((toEnding o c none y).heads.get h).state = (s.heads.get h).state := by
  cases inSet : d.heads.get h with
  | true =>
    have at_rest := (Descriptor.atRest_iff s).mp rest h inSet
    rw [toEnding_state done ok inSet]
    refine (liftedHead_facts _ _ _).2.2.2 ?_ ?_
    · intro engaged
      rw [engaged] at at_rest
      cases at_rest
    · intro lowering
      rw [lowering] at at_rest
      cases at_rest
  | false => rw [toEnding_heads, liftSet_outside done.band inSet, done.out h inSet]

theorem toEnding_leads (done : RingDone i d s y) (slot : s.engine.slot = some i) (ok : HeadsOk s)
    (rest : d.atRest s = true) : Leads i s (toEnding o c none y) where
  store := (by simp : (toEnding o c none y).store = y.store).trans done.store
  job m other := by
    rw [toEnding_job, modRecord_job, if_neg fun same => other (Option.some.inj (same.symm.trans (done.slot slot)))]
    exact done.job m other
  mounted := by rw [toEnding_engine, done.engine]
  heads := toEnding_still done ok rest
  cutAbort := (by simp : (toEnding o c none y).sup.cutAbort = y.sup.cutAbort).trans done.cutAbort
  up := ((toEnding_windsDown o c none y).up .machine).trans (done.up .machine)

/-- The end of the band at boundary L with its record's progress (R89, R138, R144, R145). -/
theorem endsAtSeam (done : RingDone i d s y) (slot : s.engine.slot = some i) (cutting : s.engine.state = .cutting)
    (ok : HeadsOk s) :
    EndsAtSeam o c i d s (settle (leaveEnding (toEnding o c none y))) ∧
      (leaveEnding (toEnding o c none y)).jobs[i].record.nextRing = s.jobs[i].record.nextRing + 1 ∧
      (leaveEnding (toEnding o c none y)).jobs[i].record.ringsCut = s.jobs[i].record.ringsCut + 1 := by
  have current : y.engine.state.isCurrent = true := by
    rw [done.engine, cutting]
    rfl
  obtain ⟨ending, band, slot', record⟩ := toEnding_facts (o := o) (c := c) done.band (done.slot slot) current
  have outcome : (toEnding o c none y).jobs[i].record.outcome = some o := by rw [record]; rfl
  obtain ⟨nextRing, ringsCut, cause, faulted⟩ := leaveEnding_progress ending band slot' outcome
  rw [record, done.record] at nextRing ringsCut cause faulted
  refine ⟨⟨cause, faulted, fun moves => ?_, fun rest => ?_⟩, nextRing, ringsCut⟩
  · have stays := leaveEnding_waiting band (toEnding_busy done ok moves)
    have grid := toEnding_grid o c none y
    rw [stays]
    generalize toEnding o c none y = z at *
    refine ⟨ending, slot', outcome, ?_⟩
    have stopped : (settle z).grid = (stopGrid y).grid := grid
    rw [stopped]
    exact ⟨rfl, rfl, rfl⟩
  · have rests : d.atRest (toEnding o c none y) = true := (Descriptor.atRest_iff _).mpr fun h inSet => by
      rw [toEnding_still done ok rest]
      exact (Descriptor.atRest_iff s).mp rest h inSet
    exact BandLeft.after (leaveEnding_left ending band slot' outcome rests (toEnding_leads done slot ok rest)) (.settle _)

/-! ### A hold or a carriage request at boundary L (R138, R141) -/

theorem stopMark_iff (d : Descriptor) (s : State) : s.stopMark d = true ↔ StopMarked d s := by
  have mark (x : RingSlot) : x.cuttingMark = true ↔ ∃ r tones check, x = .cutting r tones check true := by
    cases x <;> simp [RingSlot.cuttingMark]
  unfold State.stopMark StopMarked
  rw [Bool.and_eq_true, bne_iff_ne, anyHead_iff]
  refine and_congr_right fun _ => exists_congr fun h => ?_
  simp only [Bool.and_eq_true, HeadStaging.anySlot, Bool.or_eq_true, mark, ← exists_or]

theorem RingDone.held (done : RingDone i d s y) (r : HoldReason) : Held r d s (settle (enterHeld r y)) :=
  enterHeld_held r done.band done.store done.out fun h inSet => .inr (done.set h inSet)

theorem requestCarriage_running (d : Descriptor) (s : State) :
    (requestCarriage d s).engine.slot = s.engine.slot ∧ (requestCarriage d s).engine.ring = s.engine.ring ∧
      (requestCarriage d s).engine.state = s.engine.state ∧ (requestCarriage d s).engine.revPos = s.engine.revPos := by
  unfold requestCarriage
  split <;> exact ⟨rfl, rfl, rfl, rfl⟩

theorem RingDone.nextRing (done : RingDone i d s y) (slot : s.engine.slot = some i) :
    y.nextRing = s.jobs[i].record.nextRing + 1 := by
  rw [nextRing_of_slot (done.slot slot), done.record]
  rfl

/-- A carriage request for the next ring, made unless one is outstanding (R132, R138). -/
theorem RingDone.requests (done : RingDone i d s y) (slot : s.engine.slot = some i) (cutting : s.engine.state = .cutting) :
    (requestCarriage d y).engine.slot = some i ∧
      (requestCarriage d y).engine.ring = some (s.jobs[i].record.nextRing + 1) ∧
      (requestCarriage d y).engine.state = .cutting ∧ (requestCarriage d y).engine.revPos = some .seam ∧
      (s.engine.target = none →
        (requestCarriage d y).engine.target = some (d.x0 + (s.jobs[i].record.nextRing + 1) * d.pitch) ∧
          (requestCarriage d y).engine.arrived = false ∧ (requestCarriage d y).engine.late = 0) := by
  obtain ⟨same_slot, ring, state, revPos⟩ := requestCarriage_running d y
  have engine := done.engine
  refine ⟨same_slot.trans (done.slot slot), ring.trans (by rw [engine]), state.trans (by rw [engine]; exact cutting),
    revPos.trans (by rw [engine]), fun idle => ?_⟩
  have y_idle : y.engine.target = none := by
    rw [engine]
    exact idle
  rw [requestCarriage_none y_idle, done.nextRing slot]
  exact ⟨rfl, rfl, rfl⟩

end

/-- What follows the end of the ring (R138): the end of the band, a stop, or the seam with its holds and its request. -/
theorem boundaryL_follows {i : Fin 64} {d : Descriptor} {s m : State} (done : RingDone i d s (ringEnded d m))
    (staging : m.staging = s.staging) (next : m.nextRing = s.jobs[i].record.nextRing) (slot : s.engine.slot = some i)
    (cutting : s.engine.state = .cutting) (ok : HeadsOk s) :
    (boundaryL d m).jobs[i].record.nextRing = s.jobs[i].record.nextRing + 1 ∧
      (boundaryL d m).jobs[i].record.ringsCut = s.jobs[i].record.ringsCut + 1 ∧
      (if s.jobs[i].record.nextRing + 1 = d.nr then EndsAtSeam .complete none i d s (settle (boundaryL d m))
      else
        match s.engine.stopAtSeam with
        | some c => EndsAtSeam .stopped (some c.endCause) i d s (settle (boundaryL d m))
        | none =>
          (settle (boundaryL d m)).engine.slot = some i ∧
          (settle (boundaryL d m)).engine.ring = some (s.jobs[i].record.nextRing + 1) ∧
          (StopMarked d s → Held .stopMark d s (settle (boundaryL d m))) ∧
          (¬ StopMarked d s →
            if s.engine.pause then Held .pauseRequest d s (settle (boundaryL d m))
            else
              (settle (boundaryL d m)).engine.state = .cutting ∧ (settle (boundaryL d m)).engine.revPos = some .seam ∧
                (s.engine.target = none →
                  (settle (boundaryL d m)).engine.target = some (d.x0 + (s.jobs[i].record.nextRing + 1) * d.pitch) ∧
                    (settle (boundaryL d m)).engine.arrived = false ∧ (settle (boundaryL d m)).engine.late = 0))) := by
  have engine := done.engine
  have current : (ringEnded d m).engine.state.isCurrent = true := by
    rw [engine, cutting]
    rfl
  have stop : (ringEnded d m).engine.stopAtSeam = s.engine.stopAtSeam := by rw [engine]
  have pause : (ringEnded d m).engine.pause = s.engine.pause := by rw [engine]
  have mark : m.stopMark d = true ↔ StopMarked d s := by
    rw [stopMark_iff]
    unfold StopMarked
    rw [staging]
  have equation := boundaryL_eq d m
  rw [next, stop, pause] at equation
  have progress : (ringEnded d m).jobs[i].record.nextRing = s.jobs[i].record.nextRing + 1 ∧
      (ringEnded d m).jobs[i].record.ringsCut = s.jobs[i].record.ringsCut + 1 := by
    rw [done.record]
    exact ⟨rfl, rfl⟩
  by_cases last : s.jobs[i].record.nextRing + 1 = d.nr
  · rw [if_pos last, equation.trans (if_pos last)]
    obtain ⟨ends, nextRing, ringsCut⟩ := endsAtSeam (o := .complete) (c := none) done slot cutting ok
    exact ⟨nextRing, ringsCut, ends⟩
  rw [if_neg last]
  rw [if_neg last] at equation
  cases waits : s.engine.stopAtSeam with
  | some c =>
    rw [waits] at equation
    have stopped := equation.trans (stopBand_eq_leaveEnding (k := c) done.band (done.slot slot) current)
    obtain ⟨ends, nextRing, ringsCut⟩ := endsAtSeam (o := .stopped) (c := some c.endCause) done slot cutting ok
    rw [stopped]
    exact ⟨nextRing, ringsCut, ends⟩
  | none =>
    rw [waits] at equation
    have held_slot : (ringEnded d m).engine.slot = some i := done.slot slot
    have held_ring : (ringEnded d m).engine.ring = some (s.jobs[i].record.nextRing + 1) := by rw [engine]
    by_cases marked : m.stopMark d = true
    · rw [equation.trans (if_pos marked)]
      exact ⟨progress.1, progress.2, held_slot, held_ring, fun _ => done.held .stopMark,
        fun unmarked => absurd (mark.mp marked) unmarked⟩
    by_cases paused : s.engine.pause = true
    · rw [equation.trans ((if_neg marked).trans (if_pos paused))]
      exact ⟨progress.1, progress.2, held_slot, held_ring, fun has => absurd (mark.mpr has) marked,
        fun _ => (if_pos paused).mpr (done.held .pauseRequest)⟩
    · rw [equation.trans ((if_neg marked).trans (if_neg paused))]
      have jobs : (requestCarriage d (ringEnded d m)).jobs = (ringEnded d m).jobs := by simp
      obtain ⟨asked_slot, asked_ring, asks⟩ := done.requests slot cutting
      rw [jobs]
      exact ⟨progress.1, progress.2, asked_slot, asked_ring, fun has => absurd (mark.mpr has) marked,
        fun _ => (if_neg paused).mpr asks⟩

/-- Settles O10. -/
theorem boundaryLEndsTheRing : Obligations.BoundaryLEndsTheRing := by
  intro s a d i brings slot cutting pos ok
  have band := brings.2.2.1
  have done := ringEnded_done band slot a
  have revolves : (movedToBoundary a d s).ringBeingCut = true := (ringBeingCut_iff _).mpr ⟨cutting, pos⟩
  have acts : boundary d.cut (movedToBoundary a d s) = boundaryL d (movedToBoundary a d s) := by
    obtain ⟨-, below, -⟩ | ⟨-, -, acts⟩ | ⟨idle, -⟩ | ⟨above | idle, -⟩ :=
      boundary_cases d.cut d (movedToBoundary a d s) band
    · exact absurd below (Nat.lt_irrefl _)
    · exact acts
    · exact absurd (revolves.symm.trans idle) (by decide)
    · exact absurd above (Nat.lt_irrefl _)
    · exact absurd (revolves.symm.trans idle.1) (by decide)
  have winds := (boundaryL_windsDown d (movedToBoundary a d s)).trans (settle_windsDown _)
  have run := exec_boundary brings a
  rw [acts] at run
  obtain ⟨nextRing, ringsCut, follows⟩ := boundaryL_follows done rfl
    (nextRing_of_slot (s := movedToBoundary a d s) slot) slot cutting ok
  exact ⟨_, run, nextRing, ringsCut, fun h inSet => winds.quiet done inSet, winds.synth.elim (fun same => same.trans done.synth) id,
    fun engraves => winds.pending (done.freed engraves),
    fun kind l => (winds.freed l).trans (by rw [done.unfreed kind]), follows⟩

end Sys2Proof.Machine

end
